-- ==== Sys2Proof/Word.lean ====
section
/-! DEFINITION. The byte and the fixed field widths of frames and platter records (12-1), and the four-fold record
that holds what the part has four of (four links, four drives). -/

namespace Sys2Proof

/-- One byte of a frame body or of a sector. -/
abbrev Byte := BitVec 8
/-- A 2-byte field: tag, day number, pages, sequence number (12-1). -/
abbrev Half := BitVec 16
/-- A 4-byte field: reception number, parcel key, sector number, size, CRC-32, cents, mills (12-1). -/
abbrev Word := BitVec 32

/-- Exactly four of a thing, numbered 0 to 3: the four link units (0-3) and the four drive records (R23). -/
structure Four (α : Type) where
  d0 : α
  d1 : α
  d2 : α
  d3 : α
deriving DecidableEq, Repr

/-- The thing numbered `i`. -/
def Four.get {α : Type} (x : Four α) (i : Fin 4) : α :=
  match i with
  | 0 => x.d0
  | 1 => x.d1
  | 2 => x.d2
  | 3 => x.d3

/-- The four with number `i` replaced. -/
def Four.set {α : Type} (x : Four α) (i : Fin 4) (v : α) : Four α :=
  match i with
  | 0 => { x with d0 := v }
  | 1 => { x with d1 := v }
  | 2 => { x with d2 := v }
  | 3 => { x with d3 := v }

/-- The same thing four times. -/
def Four.all {α : Type} (v : α) : Four α := ⟨v, v, v, v⟩

/-- Apply `f` to each of the four. -/
def Four.map {α β : Type} (f : α → β) (x : Four α) : Four β := ⟨f x.d0, f x.d1, f x.d2, f x.d3⟩

/-- The four in ascending number. -/
def Four.toList {α : Type} (x : Four α) : List α := [x.d0, x.d1, x.d2, x.d3]

/-- The numbers 0 to 3 in ascending order. -/
def Four.indices : List (Fin 4) := [0, 1, 2, 3]

end Sys2Proof
end

