-- ==== Sys2Proof/Config.lean ====
section
/-! DEFINITION. The part's principal figures (00_scope.md, 0-5), and the values the manual leaves open: the latter are
opaque constants, so that no proof can see what they are (notes/assumptions/3.md names each). -/

namespace Sys2Proof.Config

/-- Bytes in one sector (0-5). -/
def sectorBytes : Nat := 1024
/-- The first sector of the data zone (1-2). -/
def dataStart : Nat := 2
/-- The data limit: the sector after the last data sector (R5). -/
def dataLimit : Nat := 310272
/-- The first sector of directory copy A (1-2). -/
def directoryA : Nat := 310272
/-- The first sector of directory copy B (1-2). -/
def directoryB : Nat := 310784
/-- The last sector of directory copy A. -/
def directoryALast : Nat := 310783
/-- The last sector of directory copy B. -/
def directoryBLast : Nat := 311295
/-- Directory sectors in one copy (1-2). -/
def directorySectors : Nat := 512
/-- Directory entries in one directory sector (0-5). -/
def entriesPerSector : Nat := 32
/-- Directory entries a side can hold (0-5). -/
def maxEntries : Nat := 16384
/-- Bytes of one directory entry (12-5). -/
def entryBytes : Nat := 32
/-- Blocks of the staging store (3-2). -/
def stagingBlocks : Nat := 256
/-- Bytes of one staging block (3-2). -/
def blockBytes : Nat := 32768
/-- The largest instrument image in bytes (0-5). -/
def maxImage : Nat := 2097152
/-- Entries the pending-receipt list can hold (R57). -/
def maxPending : Nat := 16
/-- Jobs the work queue can hold, and jobs of one link (R80). -/
def maxJobs : Nat := 24
/-- Jobs of one link in the work queue (R80). -/
def maxLinkJobs : Nat := 8
/-- Sectors of one transfer chunk (0-5). -/
def chunkSectors : Nat := 32
/-- Numbers the courtesy list can hold (R126). -/
def maxCourtesy : Nat := 64
/-- The highest reception number (0-5). -/
def maxRn : Nat := 4294967294
/-- The highest open sequence (R6). -/
def maxOpenSeq : Nat := 65535
/-- The item fee limit in cents (R124). -/
def maxFee : Nat := 9999999
/-- The count limit of a tally record (R131). -/
def maxTallyCount : Nat := 65535
/-- The cent limit of a tally record, of a station total and of a total (R131, R138, R139). -/
def maxTallyCents : Nat := 999999999
/-- The stall limit of a picker move in seconds (R37). -/
def stallLimit : Nat := 30
/-- The limit of a drive operation in seconds (R24). -/
def operationLimit : Nat := 60
/-- The largest frame body (R176). -/
def maxBody : Nat := 1040
/-- Records a held FILED notice can list (R181). -/
def maxFiled : Nat := 16
/-- Failed attempts on one side that seal it (R65). -/
def maxAttempts : Nat := 3
/-- The largest business day number (R135). -/
def maxDay : Nat := 65535
/-- The largest clock value (R134). -/
def maxClock : Nat := 86399
/-- The largest running second count (R23). -/
def maxSecondCount : Nat := 4294967295
/-- The highest value of a sector count a side can hold as void (R6). -/
def maxEstimate : Nat := 65535

/-! ### Free values: the manual states the effect and not the value. -/

/-- The running second count after the second that follows 2³²−1 (R23 gives the range and not what follows its end).
FREE VALUE, notes/assumptions/3.md. -/
opaque secondCountAfterLast : Nat
/-- The void sector count of a rebuilt side whose directory sums to more sectors than its write pointer has passed
(R161 gives a difference that would be negative). The arguments are the write pointer and the sum. FREE VALUE,
notes/assumptions/3.md. -/
opaque voidOfInconsistentSide : Nat → Nat → Nat
/-- The unverified length at a restart FIND BLANK when the stored counts exceed the stored write pointer (R78 gives a
difference that would be negative). The arguments are the stored write pointer, void sector count and committed sum. FREE
VALUE, notes/assumptions/3.md. -/
opaque unverifiedOfInconsistentSide : Nat → Nat → Nat → Nat
/-- The open sequence given at the end of an inventory to a side with an unreadable header when the highest held is
already 65,535 (R162 adds 1 to a number whose range ends there, R6). FREE VALUE, notes/assumptions/3.md. -/
opaque openSeqAfterLast : Nat

/-- The 16-bit check word computed over the contents of a section of the retained store (R190 gives its width and not its rule).
FREE VALUE, notes/assumptions/3.md. -/
opaque checkWord {Contents : Type} (contents : Contents) : Half

end Sys2Proof.Config
end

