-- ==== Sys2Proof/Syntax.lean ====
section
/-! DEFINITION. The commands of the part: one constructor of `Instr` for each row of spec/opcode_table.json, with the
operands a row carries. A request carries what its frame carries (link, header tag, body bytes, 12-2); an event carries
what the neighbour reports with it (R24, R39, R164). -/

namespace Sys2Proof

/-- A request link, 0 to 3 (0-5). -/
abbrev LinkId := Fin 4
/-- A drive, 0 to 3 (0-5). -/
abbrev DriveId := Fin 4
/-- A home slot and the volume that lives in it; the manual's number is one more (0-5). -/
abbrev SlotId := Fin 64

/-- A face of a cartridge (0-5). -/
inductive Face where
  | a
  | b
deriving DecidableEq, Repr

/-- What a valid frame carries beside its kind: the link it arrived on, its header tag, its body (12-2). -/
structure Request where
  link : LinkId
  tag : Half
  body : List Byte
deriving DecidableEq, Repr

/-- How a READ extent completes (R24); GOOD carries the bytes of the sectors read, in order. -/
inductive ReadResult where
  | good (data : List Byte)
  | mediaError
  | blank
deriving DecidableEq, Repr

/-- How a WRITE extent completes (R24). -/
inductive WriteResult where
  | good
  | mediaError
deriving DecidableEq, Repr

/-- How a LOAD+SPIN UP completes (R24). -/
inductive LoadResult where
  | good
  | noMedia
  | notReady
deriving DecidableEq, Repr

/-- How a FIND BLANK completes (R24): GOOD with the first unwritten sector, or NONE. -/
inductive FindResult where
  | good (sector : Nat)
  | none
deriving DecidableEq, Repr

/-- How one of the four operations of a flush completes (R67): a WRITE or a READ back. -/
inductive FlushResult where
  | wrote (r : WriteResult)
  | read (r : ReadResult)
deriving DecidableEq, Repr

/-- The five panel and enclosure inputs, in the order of the table of 9-1. -/
inductive Input where
  | frontDoor
  | mailslotDoor
  | cartridgePresent
  | kLeft
  | kRight
deriving DecidableEq, Repr

/-- One level per input; true is active (9-1). -/
structure Levels where
  frontDoor : Bool
  mailslotDoor : Bool
  cartridgePresent : Bool
  kLeft : Bool
  kRight : Bool
deriving DecidableEq, Repr

/-- The four causes of a start (0-7). -/
inductive StartCause where
  | powerOn
  | resetPin
  | supplyLow
  | restart
deriving DecidableEq, Repr

/-- The nine sections of the retained store, in the order of the table of 11-1. -/
inductive Section where
  | counter
  | volumes
  | pending
  | dirbuf
  | tallies
  | schedule
  | courtesy
  | settings
  | start
deriving DecidableEq, Repr

/-- What a reset finds of the retained store beyond the values stored: how many of the updates of the last event had ended
(`none`: all), whether the reset falls inside the next one, and the sections whose check word does not match for another
reason, such as a failed supply of the store (R190, R191, R193). -/
structure StoreFate where
  ended : Option Nat
  inside : Bool
  lost : List Section
deriving DecidableEq, Repr

/-- Why a frame is discarded (R176). -/
inductive DiscardCause where
  | badCheck
  | oversize
  | truncated
deriving DecidableEq, Repr

/-- The commands, one constructor per row of spec/opcode_table.json, in its order. -/
inductive Instr where
  -- requests of a COUNTER link
  | fetch (r : Request)
  | walk (r : Request)
  | cancel (r : Request)
  -- requests of a FILING link
  | submit (r : Request)
  | data (r : Request)
  | abandon (r : Request)
  | resubmit (r : Request)
  -- requests of an ACCOUNTS link
  | setSchedule (r : Request)
  | readSchedule (r : Request)
  | openReception (r : Request)
  | closeReception (r : Request)
  | setClock (r : Request)
  | readTally (r : Request)
  | closeDay (r : Request)
  | readCloseResult (r : Request)
  -- requests of a SERVICE link
  | hold (r : Request)
  | release (r : Request)
  | moveSlotToDrive (r : Request)
  | moveDriveToSlot (r : Request)
  | resumeMechanism (r : Request)
  | clearFaultDrive (r : Request)
  | clearFaultPicker (r : Request)
  | importCartridge (r : Request)
  | exportVolume (r : Request)
  | inventory (r : Request)
  | withdraw (r : Request)
  | restoreCounter (r : Request)
  | panelAck (r : Request)
  | setConfig (r : Request)
  | restart (r : Request)
  -- requests of every role
  | status (r : Request)
  | readStartRecord (r : Request)
  | setNoticeMask (r : Request)
  -- frames that are no known request, and the output side of a link
  | unknownKindFrame (kind : Byte) (r : Request)
  | frameDiscarded (link : LinkId) (why : DiscardCause)
  | frameSent (link : LinkId)
  -- panel and enclosure
  | rawInputChange (input : Input) (active : Bool)
  | debouncedEdge (input : Input)
  -- start
  | reset (cause : StartCause) (straps : Four (BitVec 2)) (levels : Levels) (fate : StoreFate)
  -- the timebase and the timers
  | clockSecondTick
  | receptionWindowExpiry
  | silentEvent (link : LinkId)
  | idleTimerExpiry (drive : DriveId)
  | driveOperationTimeout (drive : DriveId)
  | pickerStall
  -- completions of drive operations
  | loadSpinUpComplete (drive : DriveId) (r : LoadResult)
  | spinDownComplete (drive : DriveId)
  | ejectComplete (drive : DriveId)
  | instrumentWriteComplete (drive : DriveId) (r : WriteResult)
  | verifyReadComplete (drive : DriveId) (r : ReadResult)
  | headerWriteComplete (drive : DriveId) (r : WriteResult)
  | sealWriteComplete (drive : DriveId) (r : WriteResult)
  | flushOperationComplete (drive : DriveId) (r : FlushResult)
  | directoryReadComplete (drive : DriveId) (r : ReadResult)
  | chunkReadComplete (drive : DriveId) (r : ReadResult)
  | probeReadComplete (drive : DriveId) (r : ReadResult)
  | importHeaderReadComplete (drive : DriveId) (r : ReadResult)
  | inventoryReadComplete (drive : DriveId) (r : ReadResult)
  | restartFindBlankComplete (drive : DriveId) (r : FindResult)
  | inventoryFindBlankComplete (drive : DriveId) (r : FindResult)
  -- the picker
  | pickerMoveDone
  | pickerMoveFailed
  | lateMoveDone
  | inventoryProbeDone (occupied : Bool)
  | recoveryRehomeDone (gripped : Bool)
  | recoveryReturnDone
  | startRecoveryRehomeDone (gripped : Bool)
  | lateDriveCompletion (drive : DriveId)
  | startRecoveryDestinationProbeDone (occupied : Bool)
deriving DecidableEq, Repr

end Sys2Proof
end

