-- ==== Sys2Proof/Machine/State.lean ====
section
/-! DEFINITION. The state of the part as plain data: every record, list, mark, timer and pin the manual gives it, the
queue of commands that wait, the reasons a step can stop, and the state right after the first start. -/

namespace Sys2Proof.Machine

/-! ### Media map (chapter 1) -/

/-- The 8 characters given to a volume at enrolment (R1). -/
abbrev Label := List Byte

/-- A side: one face of one volume (0-6). -/
structure Side where
  slot : SlotId
  face : Face
deriving DecidableEq, Repr

/-- The side number 1–128: face A of volume v is side 2v−1, face B is side 2v (0-5). -/
def Side.number (sd : Side) : Nat :=
  match sd.face with
  | .a => 2 * sd.slot.val + 1
  | .b => 2 * sd.slot.val + 2

/-- A position, as used in a location and in a move (R2). -/
inductive Position where
  | slot (v : SlotId)
  | drive (d : DriveId) (f : Face)
  | mailslot
deriving DecidableEq, Repr

/-- Where a present volume is (R2). -/
inductive Location where
  | home
  | inDrive (d : DriveId) (f : Face)
  | inPicker (src dst : Position)
  | inMailslot
  | out
  | unknown
deriving DecidableEq, Repr

/-- The four side states (1-3-2). -/
inductive SideState where
  | blank
  | opened
  | full
  | suspect
deriving DecidableEq, Repr

/-- Why a side left OPEN (R6). -/
inductive SealReason where
  | space
  | writeFailures
deriving DecidableEq, Repr

/-- A side record (R6). `committedSectors` is the MODEL's own field: the sum of the sector counts of the side's committed
entries, which R78 needs at a restart FIND BLANK and no record names (notes/assumptions/11.md). -/
structure SideRecord where
  state : SideState
  openSeq : Option Nat
  firstRn : Option Nat
  lastRn : Option Nat
  entryCount : Nat
  writePtr : Nat
  voidCount : Nat
  flushed : Nat
  sealReason : Option SealReason
  committedSectors : Nat
deriving DecidableEq, Repr

/-- The record of a BLANK side (R6). -/
def SideRecord.blank : SideRecord :=
  { state := .blank, openSeq := none, firstRn := none, lastRn := none, entryCount := 0, writePtr := 2,
    voidCount := 0, flushed := 0, sealReason := none, committedSectors := 0 }

/-- A present volume record; a vacant record is the absence of one (R1). -/
structure Volume where
  label : Option Label
  loc : Location
  sideA : SideRecord
  sideB : SideRecord
deriving DecidableEq, Repr

/-- The side the Media Map selected for opening, with the open sequence computed at the selection (R17). -/
structure Selection where
  side : Side
  openSeq : Nat
deriving DecidableEq, Repr

/-- The outcomes carried in the DONE of a service request (12-4), numbered from 1 in this order. -/
inductive MediaOutcome where
  | done
  | failed
  | faulted
  | cleared
  | returned
  | enrolled
  | foreign
  | labelInUse
  | noSuchVolume
  | exported
deriving DecidableEq, Repr

/-- The content of the mailslot record (R146). -/
inductive Mailslot where
  | empty
  | inserted
  | volume (v : SlotId)
  | rejected (outcome : MediaOutcome)
  | reserved
deriving DecidableEq, Repr

/-! ### Links (chapter 10) -/

/-- The four roles; the straps 00, 01, 10, 11 in this order (R175). -/
inductive Role where
  | counter
  | filing
  | accounts
  | service
deriving DecidableEq, Repr

/-- The six notice kinds, in the order of the notice table of 10-4. -/
inductive NoticeKind where
  | filed
  | resubmitNeeded
  | operatorNeeded
  | alarm
  | panel
  | dayClosed
deriving DecidableEq, Repr

/-- One enable per notice kind (R180). -/
structure NoticeMask where
  filed : Bool
  resubmitNeeded : Bool
  operatorNeeded : Bool
  alarm : Bool
  panel : Bool
  dayClosed : Bool
deriving DecidableEq, Repr

/-- The standing alarms, in the order of the table of R189. -/
inductive Alarm where
  | noBlank
  | sideSuspect
  | directoryFault
  | driveFault (d : DriveId)
  | pickerFault
  | foreignCartridge
  | storeLost (sec : Section)
deriving DecidableEq, Repr

/-- The five panel latches, in the order of R168. -/
inductive Latch where
  | doorOpened
  | mailslotOpened
  | cartridgeInserted
  | cartridgeRemoved
  | keysPressed
deriving DecidableEq, Repr

/-- Which latches are set (R168). -/
structure Latches where
  doorOpened : Bool
  mailslotOpened : Bool
  cartridgeInserted : Bool
  cartridgeRemoved : Bool
  keysPressed : Bool
deriving DecidableEq, Repr

/-- The cause a PANEL notice carries (R170). -/
inductive PanelCause where
  | latch (l : Latch)
  | stopStands
  | stopCleared
deriving DecidableEq, Repr

/-- The flags of a close result (R139). -/
structure CloseFlags where
  short : Bool
  exceeds : Bool
  unreported : Bool
  saturated : Bool
  tallyLost : Bool
deriving DecidableEq, Repr

/-- One record of a FILED notice (R181). -/
structure FiledRecord where
  rn : Nat
  side : Side
  start : Option Nat
deriving DecidableEq, Repr

/-- A notice with what it carries (10-4). -/
inductive Notice where
  | filed (records : List FiledRecord) (overflow : Bool)
  | resubmitNeeded (rns : List Nat) (overflow : Bool)
  | operatorNeeded (v : SlotId) (label : Option Label) (count : Nat)
  | alarm (a : Alarm) (isSet : Bool) (standing : List Alarm)
  | panel (cause : PanelCause) (levels : Levels) (latches : Latches) (stop : Bool)
  | dayClosed (day newDay outstanding : Nat) (flags : CloseFlags)
deriving DecidableEq, Repr

/-- The refusal codes, numbered from 1 in this order (R179). -/
inductive RefusalCode where
  | format
  | role
  | busy
  | tagInUse
  | unknownTag
  | unknownRn
  | notYetFiled
  | full
  | closed
  | badImage
  | badLink
  | noTransfer
  | mediaBusy
  | noSuchVolume
  | mailslot
  | held
  | storeLost
  | dayOpen
  | schedule
deriving DecidableEq, Repr

/-- The four tally classes, in the order of R131. -/
inductive TallyClass where
  | plain
  | certified
  | search
  | courtesy
deriving DecidableEq, Repr

/-- The flags of a job's DONE, bits 0 to 2 (12-4). -/
structure FeeFlags where
  clamped : Bool
  courtesyNotApplied : Bool
  partialWalk : Bool
deriving DecidableEq, Repr

/-- Why a job ended FAILED (R101). -/
inductive FailReason where
  | mediaError
  | withdrawn
  | driveFault
deriving DecidableEq, Repr

/-- Why a walk stopped, in the order of 12-4 (R103). -/
inductive StopReason where
  | finished
  | limit
  | kindMatch
  | mismatch
  | withdrawn
  | media
  | cancelled
  | driveFault
deriving DecidableEq, Repr

/-- How a job ended (R101, R112). -/
inductive JobOutcome where
  | done
  | failed (reason : FailReason)
  | cancelled
deriving DecidableEq, Repr

/-- The charge of a job: the fee in cents, the class it was tallied in, the flags (R129). -/
structure Charge where
  cents : Nat
  cls : TallyClass
  flags : FeeFlags
deriving DecidableEq, Repr

/-- The DONE of a job: `amount` is the sectors sent of a FETCH or the steps taken of a WALK (R101, R112). -/
structure JobDone where
  outcome : JobOutcome
  stop : Option StopReason
  amount : Nat
  charge : Option Charge
deriving DecidableEq, Repr

/-- What an ENTRY frame carries after its tag (R106). -/
structure EntryFrame where
  step : Nat
  rn : Nat
  kind : Nat
  parcel : Option Nat
  prior : Option Nat
  pages : Nat
  day : Nat
  time : Option Nat
deriving DecidableEq, Repr

/-- The body of an ACCEPTED (12-4). -/
inductive AcceptedBody where
  | estimate (tenths : Option Nat)
  | frames (n : Nat)
  | sequence (n : Nat)
  | empty
deriving DecidableEq, Repr

/-- The five counts of an inventory's DONE, in the order of R162 step 7. -/
structure InventoryCounts where
  placed : Nat
  enrolled : Nat
  madeOut : Nat
  madeVacant : Nat
  setAside : Nat
deriving DecidableEq, Repr

/-- The body of a DONE (12-4). `restarting` is the empty DONE of a RESTART, told apart because the reset begins when it
has been sent (R187). -/
inductive DoneBody where
  | empty
  | restarting
  | receipt (rn day : Nat) (time : Option Nat)
  | remaining (seconds : Nat)
  | mask (m : NoticeMask)
  | latches (l : Latches)
  | media (outcome : MediaOutcome) (volume : Option SlotId)
  | inventory (c : InventoryCounts)
  | job (j : JobDone)
deriving DecidableEq, Repr

/-! ### Fee schedule, tallies, settings, start record (chapters 6, 7, 10, 11) -/

/-- A schedule record: seven fields, amounts in mills (R114). -/
structure ScheduleRecord where
  b : Nat
  p1 : Nat
  t : Nat
  p2 : Nat
  s : Nat
  c : Nat
  k : Nat
deriving DecidableEq, Repr

/-- The record with every field 0 (R114). -/
def ScheduleRecord.zero : ScheduleRecord := ⟨0, 0, 0, 0, 0, 0, 0⟩

/-- The fee schedule (R114). -/
structure Schedule where
  isSet : Bool
  plain : ScheduleRecord
  certified : ScheduleRecord
  search : ScheduleRecord
  o : Nat
deriving DecidableEq, Repr

/-- The unset schedule, which reads 0 throughout (R114). -/
def Schedule.unset : Schedule := ⟨false, .zero, .zero, .zero, 0⟩

/-- A schedule snapshot: the record of the job's class, and O (R117). -/
structure Snapshot where
  record : ScheduleRecord
  o : Nat
deriving DecidableEq, Repr

/-- A tally record (R131). -/
structure TallyRecord where
  count : Nat
  cents : Nat
deriving DecidableEq, Repr

/-- The four tally records and the SATURATED mark of one station (R131). -/
structure StationTally where
  plain : TallyRecord
  certified : TallyRecord
  search : TallyRecord
  courtesy : TallyRecord
  saturated : Bool
deriving DecidableEq, Repr

/-- A station's tally with nothing in it (R131). -/
def StationTally.zero : StationTally := ⟨⟨0, 0⟩, ⟨0, 0⟩, ⟨0, 0⟩, ⟨0, 0⟩, false⟩

/-- The flag of a discrepant station (R138). -/
inductive TillFlag where
  | short
  | exceeds
  | unreported
deriving DecidableEq, Repr

/-- A discrepant station of a close result (R139). -/
structure Discrepancy where
  station : Fin 16
  total : Nat
  report : Option Nat
  flag : TillFlag
deriving DecidableEq, Repr

/-- The last close result (R139). -/
structure CloseResult where
  day : Nat
  time : Option Nat
  items : Nat
  cents : Nat
  outstanding : Nat
  flags : CloseFlags
  discrepant : List Discrepancy
  saturated : List (Fin 16)
deriving DecidableEq, Repr

/-- The previous-day snapshot: `day` is absent while it is empty (R136, R139). -/
structure DaySnapshot where
  day : Option Nat
  tallyLost : Bool
  stations : Vector StationTally 16
deriving DecidableEq, Repr

/-- The stations' tallies, all zero (R131). -/
def zeroTallies : Vector StationTally 16 := Vector.replicate 16 .zero

/-- The empty previous-day snapshot (R131). -/
def DaySnapshot.empty : DaySnapshot := ⟨none, false, zeroTallies⟩

/-- next_rn and the business day number (11-1). -/
structure Counter where
  nextRn : Nat
  day : Nat
deriving DecidableEq, Repr

/-- The courtesy list, oldest first, and its list day (R126). -/
structure CourtesyList where
  rns : List Nat
  day : Option Nat
deriving DecidableEq, Repr

/-- The settings of SET CONFIG (R186): seconds, milliseconds, tenths of a second. -/
structure Settings where
  silence : Four Nat
  debounce : Nat
  idle : Nat
  tMove : Nat
  tFlip : Nat
  tSpin : Nat
  tDown : Nat
  tSeek : Nat
  tPage : Nat
deriving DecidableEq, Repr

/-- The defaults after a loss of the SETTINGS section (R186). -/
def Settings.default : Settings :=
  { silence := Four.all 10, debounce := 40, idle := 120, tMove := 80, tFlip := 40, tSpin := 50, tDown := 60,
    tSeek := 5, tPage := 2 }

/-- The completions a start can make (R196). -/
inductive Completion where
  | receipt
  | commitDirbuf
  | commitPending
  | flush
  | close
deriving DecidableEq, Repr

/-- The start record (R196). -/
structure StartRecord where
  cause : StartCause
  lost : List Section
  completions : List Completion
  awaiting : Nat
deriving DecidableEq, Repr

/-! ### Filing (chapter 3) -/

/-- The states of a pending entry (R57). -/
inductive PendingState where
  | staged
  | writing
  | verifying
  | awaitingResubmit
  | withdrawn
deriving DecidableEq, Repr

/-- What a SUBMIT says of the instrument (R52). -/
structure Descriptor where
  station : Nat
  kind : Nat
  parcel : Nat
  prior : Option Nat
  pages : Nat
  size : Nat
  crc : Word
deriving DecidableEq, Repr

/-- A pending entry (R57); `image` holds the bytes of the staging blocks `blocks`, in image order (3-2). -/
structure PendingEntry where
  rn : Nat
  link : LinkId
  desc : Descriptor
  day : Nat
  time : Option Nat
  state : PendingState
  blocks : Option (List Nat)
  image : List Byte
deriving DecidableEq, Repr

/-- What a submission in transfer ends in: a receipt, or the restoring of the entry of a number (R52, R73). -/
inductive TransferKind where
  | submission (d : Descriptor)
  | resubmission (rn : Nat)
deriving DecidableEq, Repr

/-- A submission in transfer (R52, R73). -/
structure Transfer where
  tag : Half
  kind : TransferKind
  size : Nat
  crc : Word
  expected : Nat
  nextSeq : Nat
  blocks : List Nat
  image : List Byte
deriving DecidableEq, Repr

/-- A directory entry (R66, 12-5). -/
structure DirEntry where
  kind : Nat
  station : Nat
  pages : Nat
  day : Nat
  sectors : Nat
  parcel : Option Nat
  prior : Option Nat
  time : Option Nat
  start : Nat
  size : Nat
  crc : Word
deriving DecidableEq, Repr

/-- Why the engine is STALLED (3-5). -/
inductive StallReason where
  | headAwaiting
  | noBlank
  | driveFault
  | storeLost
  | sideOffline
deriving DecidableEq, Repr

/-- The engine states (3-5). -/
inductive EngineState where
  | idle
  | mounting
  | writing
  | verifying
  | committing
  | flushing
  | sealing
  | stalled (why : StallReason)
  | halted
deriving DecidableEq, Repr

/-- The four operations of a flush, in order (R67). -/
inductive FlushStep where
  | writeA
  | readA
  | writeB
  | readB
deriving DecidableEq, Repr

/-- A flush under way: the operation in flight and whether copy A verified (R67). -/
structure Flush where
  step : FlushStep
  aOk : Bool
deriving DecidableEq, Repr

/-- The Filing Engine's own state (3-5, R65, R78): `sealing` is the reason of a seal under way (R69). -/
structure Engine where
  state : EngineState
  claim : Option DriveId
  attempts : Nat
  restartMark : Bool
  flushRetryMark : Bool
  restartSealMark : Bool
  sealing : Option SealReason
  flush : Option Flush
deriving DecidableEq, Repr

/-! ### Retrieval and walks (chapters 4 and 5) -/

/-- A job is known by its link and its tag (R80). -/
structure JobId where
  link : LinkId
  tag : Half
deriving DecidableEq, Repr

/-- Job states (4-3). -/
inductive JobState where
  | queued
  | waitOperator
  | waitMount
  | waitDrive
  | readingDirectory
  | sending
deriving DecidableEq, Repr

/-- The fee class of a job (R81). -/
inductive FeeClass where
  | plain
  | certified
  | search
deriving DecidableEq, Repr

/-- The walk fields of a job record (R103); the stop reason is absent until the walk ends. -/
structure WalkFields where
  start : Nat
  limit : Nat
  stopKinds : Half
  parcelMatch : Bool
  startParcel : Option Nat
  steps : Nat
  next : Option Nat
  stop : Option StopReason
deriving DecidableEq, Repr

/-- A job record (R81); `walk` is absent in a FETCH. `crc` is the CRC-32 register over the bytes sent so far, which the
end of the send compares (R96). The side and index are absent until the number resolves ON_SIDE. -/
structure Job where
  id : JobId
  station : Nat
  rn : Nat
  cls : FeeClass
  courtesy : Bool
  prio : Nat
  snap : Snapshot
  offline : Bool
  state : JobState
  acceptNo : Nat
  side : Option Side
  index : Nat
  drive : Option DriveId
  knownPages : Option Nat
  entry : Option DirEntry
  sent : Nat
  retry : Bool
  cancelled : Bool
  crc : Word
  walk : Option WalkFields
deriving DecidableEq, Repr

/-! ### Drives and picker (chapter 2) -/

/-- The link and the tag of the request a later DONE answers. -/
structure Orderer where
  link : LinkId
  tag : Half
deriving DecidableEq, Repr

/-- A drive operation (R24); a WRITE carries the bytes written (12-5, R63). -/
inductive OpKind where
  | loadSpinUp (second : Bool)
  | read (start count : Nat)
  | write (start count : Nat) (bytes : List Byte)
  | findBlank (lo hi : Nat)
  | spinDown
  | eject
deriving DecidableEq, Repr

/-- The user a completion is handed to (R24). -/
inductive OpUser where
  | mechanism
  | idle
  | engineWrite
  | engineVerify
  | engineHeader
  | engineSeal
  | engineFlush
  | engineFind
  | jobDirectory (j : JobId)
  | jobChunk (j : JobId)
  | probe
  | importRead
  | inventoryRead
  | inventoryFind
deriving DecidableEq, Repr

/-- An operation in flight with what is left of its 60 s (R24). -/
structure DriveOp where
  kind : OpKind
  user : OpUser
  timer : Nat
deriving DecidableEq, Repr

/-- The drive states (2-1-2). -/
inductive DriveState where
  | empty
  | loading
  | spinningUp
  | ready
  | spunDown
  | unloading
  | faulted
deriving DecidableEq, Repr

/-- A service MOVE in progress (R45). -/
structure ServiceMove where
  by_ : Orderer
  slot : SlotId
  toDrive : Bool
deriving DecidableEq, Repr

/-- What has taken a drive (R23, R45, R150, R157, R159); a mount operation is known by its arrival number. -/
inductive Binding where
  | mount (arrival : Nat)
  | service (m : ServiceMove)
  | importing
  | exporting
  | inventory
deriving DecidableEq, Repr

/-- How far the start probe of a drive is (R48). -/
inductive ProbeState where
  | waiting
  | loading
  | reading
  | stopping
  | ended
deriving DecidableEq, Repr

/-- A drive record (R23). `presented` is the face presented to the head where the part knows it for a cartridge that no
volume record names (R161, R199); `clearing` is the link whose CLEAR FAULT is in progress (R26); `probe` is R48's. -/
structure Drive where
  state : DriveState
  loaded : Option Side
  unnamed : Bool
  presented : Option Face
  claims : Nat
  filingFlag : Bool
  op : Option DriveOp
  lastUse : Nat
  idle : Option Nat
  service : List JobId
  bound : Option Binding
  clearing : Option Orderer
  probe : ProbeState
deriving DecidableEq, Repr

/-- Who waits for a side (2-3). -/
inductive Requester where
  | engine
  | job (j : JobId)
deriving DecidableEq, Repr

/-- What a mount operation brings to a drive: a side, the mailslot cartridge of an import (R150), or the cartridge in a
slot that inventory reads (R160). -/
inductive MountTarget where
  | side (sd : Side)
  | importing
  | slotCartridge (v : SlotId)
deriving DecidableEq, Repr

/-- The step of a mount operation (2-3): its drive not yet chosen; a bound drive being emptied (R32); the cartridge of a
swap being ejected (R34); its move startable with the drive chosen; its move under way; from LOAD+SPIN UP to the operation's
end, which for an import or a slot's cartridge is the end of its binding (R150). -/
inductive MountStep where
  | waiting
  | evicting
  | swapping
  | moveReady
  | moving
  | loading
deriving DecidableEq, Repr

/-- A mount operation (2-3). -/
structure MountOp where
  target : MountTarget
  requesters : List Requester
  cls : Nat
  prio : Nat
  arrival : Nat
  drive : Option DriveId
  step : MountStep
deriving DecidableEq, Repr

/-- A mount request that waits (R30). -/
structure MountRequest where
  who : Requester
  side : Side
deriving DecidableEq, Repr

/-- The destination of a pending move; a load's drive may not be chosen yet (R30). -/
inductive Dest where
  | fixed (p : Position)
  | anyDrive (f : Face)
deriving DecidableEq, Repr

/-- The operation a move serves (2-4-1). -/
inductive Serves where
  | mount (arrival : Nat)
  | evict (d : DriveId)
  | service (m : ServiceMove)
  | clearReturn (d : DriveId)
  | importTurn
  | importHome
  | importBack (outcome : MediaOutcome)
  | importReturn
  | exportOut
  | inventoryProbe (v : SlotId)
  | inventoryTurn
  | inventoryHome
  | inventoryOut
deriving DecidableEq, Repr

/-- A picker move (2-4-1); `carries` is the identified volume it carries, if any (R3). -/
structure Move where
  src : Position
  dst : Dest
  cls : Nat
  prio : Nat
  arrival : Nat
  orderedBy : Option LinkId
  serves : Serves
  carries : Option SlotId
deriving DecidableEq, Repr

/-- Picker states (2-4-1). -/
inductive PickerState where
  | idle
  | moving
  | halted
  | faulted
deriving DecidableEq, Repr

/-- Where the start recovery of the picker is (R47, R19). -/
inductive StartMotion where
  | rehome
  | returning
  | probing
deriving DecidableEq, Repr

/-- What the picker carries out or holds: a move, a recovery of a move (its return begun or not, R43), the empty re-home
that follows a late DONE (R44), or the start recovery (R47). -/
inductive Motion where
  | move (m : Move)
  | recovery (m : Move) (returning : Bool)
  | emptyRehome
  | start (at_ : StartMotion)
deriving DecidableEq, Repr

/-- The picker (2-4-1): `stall` is what is left of the 30 s; `stalled` says that the fault was a stall and `lateDone` that a
late DONE was recorded (R39), `lateProbe` holding what the late DONE of a probe of inventory reported; `by_` is the link
whose RESUME MECHANISM or CLEAR FAULT began a recovery, and `clearing` says it was CLEAR FAULT (R43, R44). -/
structure Picker where
  state : PickerState
  motion : Option Motion
  stall : Option Nat
  stalled : Bool
  lateDone : Bool
  lateProbe : Option Bool
  by_ : Option Orderer
  clearing : Bool
deriving DecidableEq, Repr

/-- The service hold (R40). -/
inductive Hold where
  | none
  | waiting (o : Orderer)
  | granted (link : LinkId)
deriving DecidableEq, Repr

/-- How far the start of the mechanism is (R197 step 8). -/
inductive StartPhase where
  | recovering
  | probing
  | settled
deriving DecidableEq, Repr

/-! ### Import, export, inventory (chapter 8) -/

/-- A header sector (12-5). -/
structure Header where
  label : Label
  face : Face
  openSeq : Nat
  firstRn : Nat
deriving DecidableEq, Repr

/-- What a read of sector 0 gives (R199). -/
inductive HeaderRead where
  | blank
  | unreadable
  | header (h : Header)
deriving DecidableEq, Repr

/-- What a read of sector 1 gives at inventory (R161, R199). -/
inductive SealRead where
  | blank
  | unreadable
  | sealed (lastRn : Option Nat) (entryCount : Nat) (reason : SealReason)
deriving DecidableEq, Repr

/-- The phase of an IMPORT (R149 to R154); `requested` is that of an identification whose mount operation the emergency stop
keeps waiting (R30). -/
inductive ImportPhase where
  | returning (v : SlotId)
  | requested
  | mounting
  | readingA
  | turning
  | readingB
  | goingHome (v : SlotId) (outcome : MediaOutcome)
  | settingBack (outcome : MediaOutcome)
deriving DecidableEq, Repr

/-- An IMPORT in progress (R148). -/
structure ImportOp where
  by_ : Orderer
  label : Label
  phase : ImportPhase
  drive : Option DriveId
  faceA : HeaderRead
deriving DecidableEq, Repr

/-- An EXPORT in progress; its volume carries the export mark (R157). `begun` says that its move has joined the set or its
drive is bound (notes/assumptions/51.md). -/
structure ExportOp where
  by_ : Orderer
  slot : SlotId
  drive : Option DriveId
  begun : Bool
deriving DecidableEq, Repr

/-- An entry of inventory's probe table (R158). -/
inductive ProbeResult where
  | unprobed
  | occupied
  | empty
deriving DecidableEq, Repr

/-- The operation of a face read that is next or in flight (R161). -/
inductive ScanStep where
  | header
  | sealSector
  | writePointer
  | findA
  | findB
  | directory
deriving DecidableEq, Repr

/-- A face being read at inventory (R161): `sector` is the directory sector being read, `copyB` that copy B is tried,
`lastEntries` the non-blank entries of the last directory sector read, `sum` the sector counts summed, `badSector` that a
sector was readable in neither copy. -/
structure Scan where
  step : ScanStep
  header : HeaderRead
  sealRead : SealRead
  writePtr : Nat
  flushedA : Nat
  flushed : Nat
  sector : Nat
  copyB : Bool
  lastEntries : Nat
  sum : Nat
  badSector : Bool
deriving DecidableEq, Repr

/-- A face that has been read: its header, the side record rebuilt from it, and whether its side was found unsealed (R161 step
2), which an unreadable directory sector does not undo (R161 step 4). -/
structure FaceResult where
  header : HeaderRead
  record : SideRecord
  unsealed : Bool
deriving DecidableEq, Repr

/-- The phase of inventory's cartridge. -/
inductive ReadingPhase where
  | mounting
  | loading
  | scanning
  | turning
  | goingHome (v : SlotId)
  | settingOut
  | awaitingClear
deriving DecidableEq, Repr

/-- The cartridge inventory is reading (R158): `slot` is its slot in the third phase and absent in the second. -/
structure Reading where
  slot : Option SlotId
  drive : Option DriveId
  phase : ReadingPhase
  scan : Scan
  faceA : Option FaceResult
  faceB : Option FaceResult
deriving DecidableEq, Repr

/-- The phases of an inventory (8-4-1). -/
inductive InventoryPhase where
  | probing
  | drives
  | slots
deriving DecidableEq, Repr

/-- An inventory that runs (R158): `cursor` is the next slot of the third phase, `rebuiltOpen` the OPEN side rebuilt from its
platter (R162 step 3), `unsealedSeq` the highest open sequence among the sides rebuilt unsealed (R162 step 2), `afterLoss` whether
it follows a VOLUMES loss (R192; notes/assumptions/49.md). -/
structure Inventory where
  by_ : Option Orderer
  phase : InventoryPhase
  probes : Vector ProbeResult 64
  assigned : List SlotId
  reading : Option Reading
  cursor : Nat
  rebuiltOpen : Option Side
  unsealedSeq : Option Nat
  afterLoss : Bool
  counts : InventoryCounts
deriving DecidableEq, Repr

/-! ### Panel (chapter 9) -/

/-- One debounce timer per input: stopped, or the milliseconds remaining (R164). -/
structure InputTimers where
  frontDoor : Option Nat
  mailslotDoor : Option Nat
  cartridgePresent : Option Nat
  kLeft : Option Nat
  kRight : Option Nat
deriving DecidableEq, Repr

/-- The Panel and Sensor Unit (9-1): `raw` are the levels on the five input pins. -/
structure Panel where
  raw : Levels
  level : Levels
  timers : InputTimers
  latches : Latches
  stop : Bool
deriving DecidableEq, Repr

/-! ### Output of a link -/

/-- One entry of the drive summary (R46). -/
structure DriveSummary where
  state : DriveState
  loaded : Option Side
  claims : Nat
  filingFlag : Bool
  jobs : Nat
  bound : Bool
deriving DecidableEq, Repr

/-- The STATUS record (R188). -/
structure StatusRecord where
  role : Role
  silence : Nat
  mask : NoticeMask
  active : Four Bool
  window : Option Nat
  nextRn : Option Nat
  pendingCount : Nat
  awaitingCount : Nat
  engine : EngineState
  freeBlocks : Nat
  day : Option Nat
  clock : Option Nat
  jobs : Nat
  waitOperator : Nat
  picker : PickerState
  hold : Hold
  moves : Nat
  highMoves : Nat
  drives : Four DriveSummary
  levels : Levels
  latches : Latches
  stop : Bool
  alarms : List Alarm
deriving DecidableEq, Repr

/-- The body of a RESULT (R178). -/
inductive ResultBody where
  | status (r : StatusRecord)
  | schedule (s : Schedule)
  | tally (previous : Bool) (day : Option Nat) (tallyLost : Bool) (stations : Vector StationTally 16)
  | closeResult (r : Option CloseResult)
  | startRecord (r : StartRecord)
deriving DecidableEq, Repr

/-- A frame the part sends (R178, 12-2); the wire form is `OutFrame.wire` in Machine/Operands.lean. -/
inductive OutFrame where
  | refused (tag : Half) (code : RefusalCode)
  | accepted (tag : Half) (body : AcceptedBody)
  | done (tag : Half) (body : DoneBody)
  | data (tag : Half) (seq : Nat) (bytes : List Byte)
  | entry (tag : Half) (e : EntryFrame)
  | result (tag : Half) (body : ResultBody)
  | notice (n : Notice)
deriving DecidableEq, Repr

/-- A link unit (chapter 10): `timer` is stopped or holds the seconds left (R183). The head of `out` is the frame being
sent (R178). -/
structure LinkUnit where
  role : Role
  active : Bool
  timer : Option Nat
  mask : NoticeMask
  held : List Notice
  out : List OutFrame
deriving DecidableEq, Repr

/-! ### The retained store and the whole state -/

/-- The values of the nine sections (11-1); COUNTER is absent and `pendingValid` false while those sections stand lost. -/
structure StoreValues where
  counter : Option Counter
  volumes : Vector (Option Volume) 64
  pendingList : List PendingEntry
  pendingValid : Bool
  dirbuf : List DirEntry
  tallies : Vector StationTally 16
  tallyDay : Nat
  tallyLost : Bool
  snapshot : DaySnapshot
  closeResult : Option CloseResult
  schedule : Schedule
  courtesy : CourtesyList
  settings : Settings
  startRecord : StartRecord
deriving DecidableEq, Repr

/-- The contents of one section, over which its check word is computed (R190). -/
inductive SectionContents where
  | counter (k : Option Counter)
  | volumes (vs : Vector (Option Volume) 64)
  | pending (ps : List PendingEntry) (held : Bool)
  | dirbuf (es : List DirEntry)
  | tallies (ts : Vector StationTally 16) (day : Nat) (lost : Bool) (snapshot : DaySnapshot) (close : Option CloseResult)
  | schedule (x : Schedule)
  | courtesy (l : CourtesyList)
  | settings (x : Settings)
  | start (r : StartRecord)
deriving DecidableEq, Repr

/-- The contents of a section (11-1). -/
def StoreValues.contents (x : StoreValues) : Section → SectionContents
  | .counter => .counter x.counter
  | .volumes => .volumes x.volumes
  | .pending => .pending x.pendingList x.pendingValid
  | .dirbuf => .dirbuf x.dirbuf
  | .tallies => .tallies x.tallies x.tallyDay x.tallyLost x.snapshot x.closeResult
  | .schedule => .schedule x.schedule
  | .courtesy => .courtesy x.courtesy
  | .settings => .settings x.settings
  | .start => .start x.startRecord

/-- Whether a section holds values: COUNTER and PENDING do not while they stay lost (R193). -/
def StoreValues.holds (x : StoreValues) : Section → Bool
  | .counter => x.counter.isSome
  | .pending => x.pendingValid
  | _ => true

/-- The check word computed from a section's contents (R190). -/
def StoreValues.checkWord (x : StoreValues) (sec : Section) : Half := Config.checkWord (x.contents sec)

/-- The nine stored check words, one for each section (11-1, R190). -/
structure CheckWords where
  counter : Half
  volumes : Half
  pending : Half
  dirbuf : Half
  tallies : Half
  schedule : Half
  courtesy : Half
  settings : Half
  start : Half
deriving DecidableEq, Repr

/-- The check word stored with a section. -/
def CheckWords.get (w : CheckWords) : Section → Half
  | .counter => w.counter
  | .volumes => w.volumes
  | .pending => w.pending
  | .dirbuf => w.dirbuf
  | .tallies => w.tallies
  | .schedule => w.schedule
  | .courtesy => w.courtesy
  | .settings => w.settings
  | .start => w.start

/-- The check words with one section's replaced. -/
def CheckWords.set (w : CheckWords) (sec : Section) (x : Half) : CheckWords :=
  match sec with
  | .counter => { w with counter := x }
  | .volumes => { w with volumes := x }
  | .pending => { w with pending := x }
  | .dirbuf => { w with dirbuf := x }
  | .tallies => { w with tallies := x }
  | .schedule => { w with schedule := x }
  | .courtesy => { w with courtesy := x }
  | .settings => { w with settings := x }
  | .start => { w with start := x }

/-- A word that does not match a section's contents, as the section carries after a cut update and while it stays lost (R190
gives no word; the complement of the word that would match is shown, notes/assumptions/10.md). -/
def StoreValues.wrongWord (x : StoreValues) (sec : Section) : Half := ~~~x.checkWord sec

/-- The word a section carries between updates: it matches, but for a section that stays lost (R190, R193). -/
def StoreValues.wordOf (x : StoreValues) (sec : Section) : Half := if x.holds sec then x.checkWord sec else x.wrongWord sec

/-- The words of the nine sections between updates. -/
def StoreValues.words (x : StoreValues) : CheckWords :=
  { counter := x.wordOf .counter, volumes := x.wordOf .volumes, pending := x.wordOf .pending, dirbuf := x.wordOf .dirbuf,
    tallies := x.wordOf .tallies, schedule := x.wordOf .schedule, courtesy := x.wordOf .courtesy,
    settings := x.wordOf .settings, start := x.wordOf .start }

/-- The retained store (11-1): the values of the nine sections and the check word stored with each (R190). -/
structure Retained extends StoreValues where
  words : CheckWords
deriving DecidableEq, Repr

/-- The part of the state that the work following an event may change (R30 to R37, R59, R89): links, media map, drives
and picker, engine and pending list, work queue, current tallies, courtesy list. -/
structure Core where
  links : Four LinkUnit
  alarms : List Alarm
  volumes : Vector (Option Volume) 64
  selection : Option Selection
  rebuilding : Bool
  mailslot : Mailslot
  drives : Four Drive
  mounts : List MountOp
  requests : List MountRequest
  picker : Picker
  moves : List Move
  nextArrival : Nat
  hold : Hold
  startPhase : StartPhase
  importOp : Option ImportOp
  exportOp : Option ExportOp
  inventory : Option Inventory
  engine : Engine
  pendingList : List PendingEntry
  blockMap : List Bool
  dirbuf : List DirEntry
  queue : List Job
  nextAccept : Nat
  tallies : Vector StationTally 16
  courtesy : CourtesyList
deriving DecidableEq, Repr

/-- The part of the state that only a command's own effect changes: settings, schedule, counter, day marks, clock, window,
transfers, panel, straps, start record. `secondCount` is R23's running second count; `resetDue` says that the reset a
RESTART asked for has begun (R187). -/
structure Fixed where
  settings : Settings
  schedule : Schedule
  counter : Option Counter
  pendingValid : Bool
  tallyDay : Nat
  tallyLost : Bool
  snapshot : DaySnapshot
  closeResult : Option CloseResult
  startRecord : StartRecord
  clock : Option Nat
  secondCount : Nat
  window : Option Nat
  transfers : Four (Option Transfer)
  panel : Panel
  straps : Four (BitVec 2)
  resetDue : Bool
deriving DecidableEq, Repr

/-- Why a step can stop with a fault: never. The manual stops the part at no command and at no event: a malformed request is
refused by a frame, a failing operation makes a drive or the picker FAULTED, and a completion that nothing waits for is
discarded (R24, R39; notes/assumptions/6.md). The type has no constructor, so no command can raise a fault. SAFE. -/
inductive Fault where
deriving DecidableEq, Repr

/-- Why a command can be refused by the model. -/
inductive Refusal where
  /-- Raised by `exec` for a command that has no meaning yet. SAFE. -/
  | notModelled (mnemonic : String)
deriving DecidableEq, Repr

/-- The machine: the two parts of the block's own state, the check words stored with the nine sections (R190), and the commands
that wait, first in, first out. `journal` is the MODEL's own field: the updates of the last event that wrote the retained
store, in their order, each with the store as it stood before it (R190, R191, notes/assumptions/9.md). -/
structure State extends Core, Fixed where
  words : CheckWords
  journal : List (Section × Retained)
  pending : List Instr
deriving DecidableEq, Repr

/-! ### The state right after the first start -/

/-- No latch set (R164). -/
def Latches.none : Latches := ⟨false, false, false, false, false⟩

/-- All five levels inactive. -/
def levelsInactive : Levels := ⟨false, false, false, false, false⟩

/-- All debounce timers stopped (R164). -/
def InputTimers.stopped : InputTimers := ⟨Option.none, Option.none, Option.none, Option.none, Option.none⟩

/-- Every notice kind disabled (R180). -/
def NoticeMask.disabled : NoticeMask := ⟨false, false, false, false, false, false⟩

/-- A link unit at the start of the part (R183), with its role and its silence limit. -/
def LinkUnit.atStart (role : Role) (limit : Nat) : LinkUnit :=
  { role, active := true, timer := if limit = 0 then .none else some limit, mask := .disabled, held := [], out := [] }

/-- A drive record at the start of the part (R48), its probe not yet begun. The state shown until the probe's
LOAD+SPIN UP is GOOD is SPINNING_UP (notes/assumptions/12.md). -/
def Drive.atStart : Drive :=
  { state := .spinningUp, loaded := none, unnamed := false, presented := none, claims := 0, filingFlag := false,
    op := none, lastUse := 0, idle := none, service := [], bound := none, clearing := none, probe := .waiting }

/-- The engine at the start of the part (R77), in the state `st`. -/
def Engine.atStart (st : EngineState) : Engine :=
  { state := st, claim := none, attempts := 0, restartMark := false, flushRetryMark := false,
    restartSealMark := false, sealing := none, flush := none }

/-- The retained store as it left manufacture, its start record that of the first start, cause POWER_ON (R114, R131, R135,
R196): every home slot vacant and next_rn 1. -/
def StoreValues.manufactured : StoreValues :=
  { counter := some ⟨1, 1⟩, volumes := Vector.replicate 64 none, pendingList := [], pendingValid := true, dirbuf := [],
    tallies := zeroTallies, tallyDay := 1, tallyLost := false, snapshot := .empty, closeResult := none,
    schedule := .unset, courtesy := ⟨[], none⟩, settings := .default, startRecord := ⟨.powerOn, [], [], 0⟩ }

/-- The machine right after the first start of a part as it left manufacture, cause POWER_ON: the retained store as R114,
R131 and R135 give it at manufacture with every home slot vacant and next_rn 1, and everything else as R197 leaves it,
with the picker in its start recovery (R47). The straps give link n the n-th role (notes/assumptions/1.md). -/
def State.reset : State :=
  { links := ⟨.atStart .counter 10, .atStart .filing 10, .atStart .accounts 10, .atStart .service 10⟩
    alarms := []
    volumes := Vector.replicate 64 none
    selection := none
    rebuilding := false
    mailslot := .empty
    drives := Four.all .atStart
    mounts := []
    requests := []
    picker := { state := .moving, motion := some (.start .rehome), stall := some Config.stallLimit, stalled := false,
                lateDone := false, lateProbe := none, by_ := none, clearing := false }
    moves := []
    nextArrival := 1
    hold := .none
    startPhase := .recovering
    importOp := none
    exportOp := none
    inventory := none
    engine := .atStart .idle
    pendingList := []
    blockMap := List.replicate Config.stagingBlocks false
    dirbuf := []
    queue := []
    nextAccept := 1
    tallies := zeroTallies
    courtesy := ⟨[], none⟩
    settings := .default
    schedule := .unset
    counter := some ⟨1, 1⟩
    pendingValid := true
    tallyDay := 1
    tallyLost := false
    snapshot := .empty
    closeResult := none
    startRecord := ⟨.powerOn, [], [], 0⟩
    clock := none
    secondCount := 0
    window := none
    transfers := Four.all none
    panel := { raw := levelsInactive, level := levelsInactive, timers := .stopped, latches := .none, stop := false }
    straps := ⟨0, 1, 2, 3⟩
    resetDue := false
    words := StoreValues.manufactured.words
    journal := []
    pending := [] }

end Sys2Proof.Machine
end

