-- ==== Sys2Proof/Machine/Operands.lean ====
section
/-! DEFINITION. The operand forms of chapter 12: byte order, the two cyclic redundancy checks, the length and the fields of
every request body, the header, seal and directory sectors, and the wire form of every frame the part sends. -/

namespace Sys2Proof.Machine

/-! ### Byte order (12-1): most significant byte first -/

/-- The number that bytes spell, most significant first. -/
def beNat (bytes : List Byte) : Nat := bytes.foldl (fun acc b => 256 * acc + b.toNat) 0

/-- The low `width` bytes of a number, most significant first. -/
def beBytes (width n : Nat) : List Byte :=
  match width with
  | 0 => []
  | w + 1 => BitVec.ofNat 8 (n / 256 ^ w) :: beBytes w n

/-- `n` bytes from offset `at_`; bytes past the end read as 00h. -/
def field (bytes : List Byte) (at_ n : Nat) : List Byte := ((bytes.drop at_).take n).rightpad n 0

/-- The number of the `n`-byte field at offset `at_`. -/
def fieldNat (bytes : List Byte) (at_ n : Nat) : Nat := beNat (field bytes at_ n)

/-- A number that is absent when it reads 0 (12-1). -/
def absentZero (n : Nat) : Option Nat := if n = 0 then none else some n

/-- A time that is absent when it reads FFFFFFFFh (12-1). -/
def absentOnes (n : Nat) : Option Nat := if n = 4294967295 then none else some n

/-- Quantity divided and rounded up (0-7). -/
def ceilDiv (n d : Nat) : Nat := (n + d - 1) / d

/-- Exactly `n` bytes: cut, or filled with 00h (R63, 12-5). -/
def padTo (n : Nat) (bytes : List Byte) : List Byte := (bytes.take n).rightpad n 0

/-! ### The checks (R198, R199) -/

/-- One bit of the CRC-16 register, generator 1021h, most significant bit first (R198). -/
def crc16Bit (reg : Half) : Half := if reg.msb then (reg <<< 1) ^^^ 0x1021#16 else reg <<< 1

/-- One byte into the CRC-16 register (R198). -/
def crc16Byte (reg : Half) (b : Byte) : Half :=
  let r := reg ^^^ ((b.zeroExtend 16) <<< 8)
  crc16Bit (crc16Bit (crc16Bit (crc16Bit (crc16Bit (crc16Bit (crc16Bit (crc16Bit r)))))))

/-- The CRC-16 of a header and body: initial value FFFFh, not inverted (R198). -/
def crc16 (bytes : List Byte) : Half := bytes.foldl crc16Byte 0xFFFF#16

/-- One bit of the CRC-32 register, generator 04C11DB7h taken least significant bit first (R199). -/
def crc32Bit (reg : Word) : Word :=
  if reg.getLsbD 0 then (reg >>> 1) ^^^ 0xEDB88320#32 else reg >>> 1

/-- One byte into the CRC-32 register (R199). -/
def crc32Byte (reg : Word) (b : Byte) : Word :=
  let r := reg ^^^ (b.zeroExtend 32)
  crc32Bit (crc32Bit (crc32Bit (crc32Bit (crc32Bit (crc32Bit (crc32Bit (crc32Bit r)))))))

/-- The CRC-32 register after more bytes. -/
def crc32Update (reg : Word) (bytes : List Byte) : Word := bytes.foldl crc32Byte reg

/-- The CRC-32 register before the first byte (R199). -/
def crc32Init : Word := 0xFFFFFFFF#32

/-- The check that a register gives: the result is inverted (R199). -/
def crc32Final (reg : Word) : Word := ~~~reg

/-- The image CRC-32 (R199). -/
def crc32 (bytes : List Byte) : Word := crc32Final (crc32Update crc32Init bytes)

/-! ### Request kinds, roles, body lengths -/

/-- The request kinds in the order of the table of R175, coded 01h to 1Fh (R198). -/
inductive RequestKind where
  | fetch | walk | cancel
  | submit | data | abandon | resubmit
  | setSchedule | readSchedule | openReception | closeReception | setClock | readTally | closeDay | readCloseResult
  | hold | release | move | resumeMechanism | clearFault | importCartridge | exportVolume | inventory | withdraw
  | restoreCounter | panelAck | setConfig | restart
  | status | readStartRecord | setNoticeMask
deriving DecidableEq, Repr

/-- The kinds in the order of R175. -/
def RequestKind.all : List RequestKind :=
  [.fetch, .walk, .cancel, .submit, .data, .abandon, .resubmit, .setSchedule, .readSchedule, .openReception,
   .closeReception, .setClock, .readTally, .closeDay, .readCloseResult, .hold, .release, .move, .resumeMechanism,
   .clearFault, .importCartridge, .exportVolume, .inventory, .withdraw, .restoreCounter, .panelAck, .setConfig,
   .restart, .status, .readStartRecord, .setNoticeMask]

/-- The kind byte of a request (R198): 01h to 1Fh in order. -/
def RequestKind.code (k : RequestKind) : Nat := RequestKind.all.idxOf k + 1

/-- The request kind a kind byte names, if it is one known to the part (R177, R198). -/
def RequestKind.ofCode (code : Byte) : Option RequestKind :=
  if code.toNat = 0 then none else RequestKind.all[code.toNat - 1]?

/-- The role that may make a request; absent for the requests of every role (R175). -/
def RequestKind.role : RequestKind → Option Role
  | .fetch | .walk | .cancel => some .counter
  | .submit | .data | .abandon | .resubmit => some .filing
  | .setSchedule | .readSchedule | .openReception | .closeReception | .setClock | .readTally | .closeDay
  | .readCloseResult => some .accounts
  | .hold | .release | .move | .resumeMechanism | .clearFault | .importCartridge | .exportVolume | .inventory
  | .withdraw | .restoreCounter | .panelAck | .setConfig | .restart => some .service
  | .status | .readStartRecord | .setNoticeMask => none

/-- Whether a role may make the request (R175). -/
def RequestKind.permitted (k : RequestKind) (role : Role) : Bool :=
  match k.role with
  | none => true
  | some r => r == role

/-- Whether the body length is the one the kind requires (R198, 12-3). -/
def RequestKind.lengthOk (k : RequestKind) (body : List Byte) : Bool :=
  match k with
  | .fetch => body.length == 8
  | .walk => body.length == 9
  | .submit => body.length == 20
  | .data => 3 ≤ body.length && body.length ≤ 1026
  | .resubmit => body.length == 12
  | .setSchedule => body.length == 88
  | .openReception => body.length == 2
  | .setClock => body.length == 4
  | .readTally => body.length == 1
  | .closeDay => body.length == 1 + 5 * fieldNat body 0 1 && body.length ≠ 0
  | .move => body.length == 4
  | .clearFault => body.length == 1
  | .importCartridge => body.length == 8
  | .exportVolume => body.length == 1
  | .withdraw => body.length == 4
  | .restoreCounter => body.length == 6
  | .setConfig => body.length == 19
  | .setNoticeMask => body.length == 1
  | .cancel | .abandon | .readSchedule | .closeReception | .readCloseResult | .hold | .release | .resumeMechanism
  | .inventory | .panelAck | .restart | .status | .readStartRecord => body.length == 0

/-! ### Request bodies (12-3): the fields, absent when one is out of range -/

/-- A number when it lies in a range. -/
def inRange (lo n hi : Nat) : Bool := lo ≤ n && n ≤ hi

/-- Bit `i` of a byte (R198: mark and set bytes). -/
def bitOf (n i : Nat) : Bool := n.testBit i

/-- The fields of a FETCH (R82). -/
structure FetchFields where
  station : Nat
  rn : Nat
  cls : FeeClass
  courtesy : Bool
  prio : Nat
deriving DecidableEq, Repr

/-- The body of a FETCH, ranges and unassigned bits checked (R82, R198). The reception number 4,294,967,295 is taken as in range
(DESIGN CHOICE, notes/assumptions/71.md). -/
def FetchFields.parse (tag : Half) (body : List Byte) : Option FetchFields :=
  let station := fieldNat body 0 1
  let cls := fieldNat body 5 1
  let opts := fieldNat body 6 1
  let prio := fieldNat body 7 1
  if tag.toNat ≠ 0 && inRange 1 station 16 && inRange 1 cls 2 && opts ≤ 1 && prio ≤ 3
      && !(opts == 1 && cls == 1) then
    some { station, rn := fieldNat body 1 4, cls := if cls = 1 then .plain else .certified,
           courtesy := opts == 1, prio }
  else none

/-- The body that spells the fields of a FETCH (12-3). -/
def FetchFields.body (f : FetchFields) : List Byte :=
  beBytes 1 f.station ++ beBytes 4 f.rn ++ beBytes 1 (if f.cls = .plain then 1 else 2)
    ++ beBytes 1 (if f.courtesy then 1 else 0) ++ beBytes 1 f.prio

/-- The fields of a WALK (R102). -/
structure WalkRequest where
  station : Nat
  start : Nat
  limit : Nat
  stopKinds : Half
  parcelMatch : Bool
deriving DecidableEq, Repr

/-- The body of a WALK (R102, R198): a stop-kind set that names kind 0 is refused. The start number 4,294,967,295 is taken as in
range (DESIGN CHOICE, notes/assumptions/71.md). -/
def WalkRequest.parse (tag : Half) (body : List Byte) : Option WalkRequest :=
  let station := fieldNat body 0 1
  let limit := fieldNat body 5 1
  let kinds := BitVec.ofNat 16 (fieldNat body 6 2)
  let opts := fieldNat body 8 1
  if tag.toNat ≠ 0 && inRange 1 station 16 && inRange 1 limit 255 && !kinds.getLsbD 0 && opts ≤ 1 then
    some { station, start := fieldNat body 1 4, limit, stopKinds := kinds, parcelMatch := opts == 1 }
  else none

/-- The body that spells the fields of a WALK (12-3). -/
def WalkRequest.body (f : WalkRequest) : List Byte :=
  beBytes 1 f.station ++ beBytes 4 f.start ++ beBytes 1 f.limit ++ beBytes 2 f.stopKinds.toNat
    ++ beBytes 1 (if f.parcelMatch then 1 else 0)

/-- The body of a SUBMIT (R52). A prior number 4,294,967,295 is no field out of range here; it is not below next_rn (DESIGN CHOICE,
notes/assumptions/59.md). -/
def Descriptor.parse (body : List Byte) : Option Descriptor :=
  let station := fieldNat body 0 1
  let kind := fieldNat body 1 1
  let parcel := fieldNat body 2 4
  let pages := fieldNat body 10 2
  let size := fieldNat body 12 4
  if inRange 1 station 16 && inRange 1 kind 15 && parcel ≠ 0 && pages ≤ 4095 && inRange 1 size Config.maxImage then
    some { station, kind, parcel, prior := absentZero (fieldNat body 6 4), pages, size,
           crc := BitVec.ofNat 32 (fieldNat body 16 4) }
  else none

/-- The body that spells a SUBMIT (12-3). -/
def Descriptor.body (d : Descriptor) : List Byte :=
  beBytes 1 d.station ++ beBytes 1 d.kind ++ beBytes 4 d.parcel ++ beBytes 4 (d.prior.getD 0) ++ beBytes 2 d.pages
    ++ beBytes 4 d.size ++ beBytes 4 d.crc.toNat

/-- The fields of a RESUBMIT (R73). -/
structure ResubmitFields where
  rn : Nat
  size : Nat
  crc : Word
deriving DecidableEq, Repr

/-- The body of a RESUBMIT (R73). A reception number 0 or 4,294,967,295 is no field out of range here; it names no entry (DESIGN
CHOICE, notes/assumptions/58.md). -/
def ResubmitFields.parse (body : List Byte) : Option ResubmitFields :=
  let size := fieldNat body 4 4
  if inRange 1 size Config.maxImage then
    some { rn := fieldNat body 0 4, size, crc := BitVec.ofNat 32 (fieldNat body 8 4) }
  else none

/-- The body that spells a RESUBMIT (12-3). -/
def ResubmitFields.body (f : ResubmitFields) : List Byte :=
  beBytes 4 f.rn ++ beBytes 4 f.size ++ beBytes 4 f.crc.toNat

/-- Whether every field of a schedule record lies in its range (R114). -/
def ScheduleRecord.inRange (r : ScheduleRecord) : Bool :=
  r.b ≤ 9999999 && r.p1 ≤ 999999 && r.t ≤ 4095 && r.p2 ≤ 999999 && r.s ≤ 999999 && r.c ≤ 9999999 && r.k ≤ 99999999

/-- The schedule record at an offset of a SET SCHEDULE body (12-3). -/
def ScheduleRecord.at_ (body : List Byte) (o : Nat) : ScheduleRecord :=
  { b := fieldNat body o 4, p1 := fieldNat body (o + 4) 4, t := fieldNat body (o + 8) 4,
    p2 := fieldNat body (o + 12) 4, s := fieldNat body (o + 16) 4, c := fieldNat body (o + 20) 4,
    k := fieldNat body (o + 24) 4 }

/-- The schedule a SET SCHEDULE carries, absent when a field is out of range (R115). -/
def Schedule.parse (body : List Byte) : Option Schedule :=
  let plain := ScheduleRecord.at_ body 0
  let certified := ScheduleRecord.at_ body 28
  let search := ScheduleRecord.at_ body 56
  let o := fieldNat body 84 4
  if plain.inRange && certified.inRange && search.inRange && o ≤ 9999999 then
    some { isSet := true, plain, certified, search, o }
  else none

/-- The bytes of a schedule record (12-3). -/
def ScheduleRecord.bytes (r : ScheduleRecord) : List Byte :=
  beBytes 4 r.b ++ beBytes 4 r.p1 ++ beBytes 4 r.t ++ beBytes 4 r.p2 ++ beBytes 4 r.s ++ beBytes 4 r.c ++ beBytes 4 r.k

/-- The body of a SET SCHEDULE that spells a schedule (12-3). -/
def Schedule.body (s : Schedule) : List Byte :=
  s.plain.bytes ++ s.certified.bytes ++ s.search.bytes ++ beBytes 4 s.o

/-- A till report of CLOSE DAY (R137). -/
structure TillReport where
  station : Fin 16
  cents : Nat
deriving DecidableEq, Repr

/-- The number of a station, 1–16 (0-5). -/
def stationNumber (st : Fin 16) : Nat := st.val + 1

/-- The station a byte names, if it is in 1–16. -/
def stationOf (n : Nat) : Option (Fin 16) :=
  if h : 1 ≤ n ∧ n ≤ 16 then some ⟨n - 1, by omega⟩ else none

/-- `n` till reports from an offset, absent when a station or cents is out of range (R137). -/
def tillReports (body : List Byte) (n at_ : Nat) : Option (List TillReport) :=
  match n with
  | 0 => some []
  | k + 1 =>
    let cents := fieldNat body (at_ + 1) 4
    match stationOf (fieldNat body at_ 1), tillReports body k (at_ + 5) with
    | some station, some rest =>
      if cents ≤ Config.maxTallyCents then some ({ station, cents } :: rest) else none
    | _, _ => none

/-- The till reports of a CLOSE DAY: at most 16, no station named twice (R137). -/
def parseCloseDay (body : List Byte) : Option (List TillReport) :=
  let n := fieldNat body 0 1
  if n ≤ 16 then
    match tillReports body n 1 with
    | some rs => if (rs.map (·.station)).Nodup then some rs else none
    | none => none
  else none

/-- The body of a CLOSE DAY that spells reports (12-3). -/
def closeDayBody (rs : List TillReport) : List Byte :=
  beBytes 1 rs.length ++ rs.flatMap (fun r => beBytes 1 (stationNumber r.station) ++ beBytes 4 r.cents)

/-- The slot a volume byte names, if it is in 1–64. -/
def slotOf (n : Nat) : Option SlotId :=
  if h : 1 ≤ n ∧ n ≤ 64 then some ⟨n - 1, by omega⟩ else none

/-- The drive a byte names, if it is in 0–3. -/
def driveOf (n : Nat) : Option DriveId :=
  if h : n < 4 then some ⟨n, h⟩ else none

/-- The fields of a MOVE (R45): the face is absent in a drive→slot move. -/
structure MoveFields where
  slot : SlotId
  drive : DriveId
  face : Option Face
deriving DecidableEq, Repr

/-- The body of a MOVE (R45, 12-3): direction 1 with a face, direction 2 with face byte 0. -/
def MoveFields.parse (body : List Byte) : Option MoveFields :=
  match slotOf (fieldNat body 0 1), driveOf (fieldNat body 2 1) with
  | some slot, some drive =>
    let direction := fieldNat body 1 1
    let face := fieldNat body 3 1
    if direction = 1 ∧ face = 1 then some { slot, drive, face := some .a }
    else if direction = 1 ∧ face = 2 then some { slot, drive, face := some .b }
    else if direction = 2 ∧ face = 0 then some { slot, drive, face := none }
    else none
  | _, _ => none

/-- The number of a face byte: 1 A, 2 B (12-5). -/
def Face.code : Face → Nat
  | .a => 1
  | .b => 2

/-- The body of a MOVE (12-3). -/
def MoveFields.body (f : MoveFields) : List Byte :=
  beBytes 1 (f.slot.val + 1) ++ beBytes 1 (if f.face.isSome then 1 else 2) ++ beBytes 1 f.drive.val
    ++ beBytes 1 (match f.face with | some x => Face.code x | none => 0)

/-- What a CLEAR FAULT names (12-3): a drive, or the picker. -/
inductive FaultTarget where
  | drive (d : DriveId)
  | picker
deriving DecidableEq, Repr

/-- The body of a CLEAR FAULT (12-3). -/
def FaultTarget.parse (body : List Byte) : Option FaultTarget :=
  let n := fieldNat body 0 1
  if n = 4 then some .picker
  else match driveOf n with
    | some d => some (.drive d)
    | none => none

/-- The printable set, 20h to 7Eh (12-1). -/
def printable (b : Byte) : Bool := 0x20 ≤ b.toNat && b.toNat ≤ 0x7E

/-- The fields of a RESTORE COUNTER (R163). -/
def parseRestore (body : List Byte) : Option (Nat × Nat) :=
  let n := fieldNat body 0 4
  let d := fieldNat body 4 2
  if 1 ≤ n && inRange 1 d Config.maxDay then some (n, d) else none

/-- The body of a RESTORE COUNTER (12-3). -/
def restoreBody (n d : Nat) : List Byte := beBytes 4 n ++ beBytes 2 d

/-- The settings a SET CONFIG carries, absent when one is out of range (R186). -/
def Settings.parse (body : List Byte) : Option Settings :=
  let l i := fieldNat body i 1
  let w i := fieldNat body i 2
  if l 0 ≤ 60 && l 1 ≤ 60 && l 2 ≤ 60 && l 3 ≤ 60 && (l 4 == 10 || l 4 == 40 || l 4 == 160) && inRange 30 (w 5) 600 then
    some { silence := ⟨l 0, l 1, l 2, l 3⟩, debounce := l 4, idle := w 5, tMove := w 7, tFlip := w 9, tSpin := w 11,
           tDown := w 13, tSeek := w 15, tPage := w 17 }
  else none

/-- The body of a SET CONFIG that spells settings (12-3). -/
def Settings.body (s : Settings) : List Byte :=
  beBytes 1 s.silence.d0 ++ beBytes 1 s.silence.d1 ++ beBytes 1 s.silence.d2 ++ beBytes 1 s.silence.d3
    ++ beBytes 1 s.debounce ++ beBytes 2 s.idle ++ beBytes 2 s.tMove ++ beBytes 2 s.tFlip ++ beBytes 2 s.tSpin
    ++ beBytes 2 s.tDown ++ beBytes 2 s.tSeek ++ beBytes 2 s.tPage

/-- The mask a SET NOTICE MASK carries: bit 0 FILED to bit 5 DAY_CLOSED, the other bits 0 (12-3, R198). -/
def NoticeMask.parse (body : List Byte) : Option NoticeMask :=
  let n := fieldNat body 0 1
  if n < 64 then
    some { filed := bitOf n 0, resubmitNeeded := bitOf n 1, operatorNeeded := bitOf n 2, alarm := bitOf n 3,
           panel := bitOf n 4, dayClosed := bitOf n 5 }
  else none

/-- The number of a set of marks, bit 0 first (12-1). -/
def bitsNat (bs : List Bool) : Nat := bs.foldr (fun b n => (if b then 1 else 0) + 2 * n) 0

/-- The mask as six marks in order. -/
def NoticeMask.bits (m : NoticeMask) : List Bool :=
  [m.filed, m.resubmitNeeded, m.operatorNeeded, m.alarm, m.panel, m.dayClosed]

/-- The body of a SET NOTICE MASK (12-3). -/
def NoticeMask.body (m : NoticeMask) : List Byte := beBytes 1 (bitsNat m.bits)

/-! ### Platter records (12-5, R199) -/

/-- The header mark. -/
def headerMark : Nat := 0x5A3C4801
/-- The seal mark. -/
def sealMark : Nat := 0x5A3C5302

/-- The header sector (12-5). -/
def Header.sector (h : Header) : List Byte :=
  padTo Config.sectorBytes
    (beBytes 4 headerMark ++ padTo 8 h.label ++ beBytes 1 (Face.code h.face) ++ beBytes 1 0 ++ beBytes 2 h.openSeq
      ++ beBytes 4 h.firstRn)

/-- What a GOOD read of sector 0 of a face is (R199); `face` is absent where the part does not know which face is
presented, and the face byte then names it (notes/assumptions/23.md). -/
def judgeHeader (face : Option Face) (data : List Byte) : HeaderRead :=
  let label := field data 4 8
  let code := fieldNat data 12 1
  let named : Option Face := if code = 1 then some .a else if code = 2 then some .b else none
  match named with
  | some f =>
    if fieldNat data 0 4 = headerMark ∧ label.all printable ∧ (face = none ∨ face = some f) then
      .header { label, face := f, openSeq := fieldNat data 14 2, firstRn := fieldNat data 16 4 }
    else .unreadable
  | none => .unreadable

/-- What a read of sector 0 gives: BLANK, a header, or none that can be used (R151, R161, R199). -/
def headerRead (face : Option Face) (r : ReadResult) : HeaderRead :=
  match r with
  | .good data => judgeHeader face data
  | .mediaError => .unreadable
  | .blank => .blank

/-- The number of a seal reason (12-5). -/
def SealReason.code : SealReason → Nat
  | .space => 1
  | .writeFailures => 2

/-- The seal sector (12-5). -/
def sealSector (lastRn : Option Nat) (entryCount : Nat) (reason : SealReason) : List Byte :=
  padTo Config.sectorBytes
    (beBytes 4 sealMark ++ beBytes 4 (lastRn.getD 0) ++ beBytes 2 entryCount ++ beBytes 1 (SealReason.code reason))

/-- What a read of sector 1 gives at inventory (R161, R199). -/
def sealRead (r : ReadResult) : SealRead :=
  match r with
  | .blank => .blank
  | .mediaError => .unreadable
  | .good data =>
    if fieldNat data 0 4 = sealMark then
      if fieldNat data 10 1 = 1 then .sealed (absentZero (fieldNat data 4 4)) (fieldNat data 8 2) .space
      else if fieldNat data 10 1 = 2 then .sealed (absentZero (fieldNat data 4 4)) (fieldNat data 8 2) .writeFailures
      else .unreadable
    else .unreadable

/-- The 32 bytes of a directory entry (12-5). -/
def DirEntry.bytes (e : DirEntry) : List Byte :=
  beBytes 1 e.kind ++ beBytes 1 e.station ++ beBytes 2 e.pages ++ beBytes 2 e.day ++ beBytes 2 e.sectors
    ++ beBytes 4 (e.parcel.getD 0) ++ beBytes 4 (e.prior.getD 0) ++ beBytes 4 (e.time.getD 4294967295)
    ++ beBytes 4 e.start ++ beBytes 4 e.size ++ beBytes 4 e.crc.toNat

/-- The directory entry that 32 bytes spell (12-5). -/
def DirEntry.ofBytes (b : List Byte) : DirEntry :=
  { kind := fieldNat b 0 1, station := fieldNat b 1 1, pages := fieldNat b 2 2, day := fieldNat b 4 2,
    sectors := fieldNat b 6 2, parcel := absentZero (fieldNat b 8 4), prior := absentZero (fieldNat b 12 4),
    time := absentOnes (fieldNat b 16 4), start := fieldNat b 20 4, size := fieldNat b 24 4,
    crc := BitVec.ofNat 32 (fieldNat b 28 4) }

/-- The 32 bytes at an entry position of a directory sector (12-5). -/
def entryAt (sector : List Byte) (j : Nat) : List Byte := field sector (Config.entryBytes * j) Config.entryBytes

/-- Whether a directory position is blank: its 32 bytes are all 00h (R199). -/
def blankEntry (b : List Byte) : Bool := b.all (· == 0)

/-- The directory sector a flush writes: the entries in order, then blank entries (R67, R199). -/
def directorySector (entries : List DirEntry) : List Byte :=
  padTo Config.sectorBytes (entries.flatMap DirEntry.bytes)

/-- The entry at a position of a sector read, absent when the position is blank (R91). -/
def entryGiven (sector : List Byte) (j : Nat) : Option DirEntry :=
  if blankEntry (entryAt sector j) then none else some (DirEntry.ofBytes (entryAt sector j))

/-- The non-blank entries of a directory sector, in order (R161). -/
def entriesOf (sector : List Byte) : List DirEntry :=
  (List.range Config.entriesPerSector).filterMap (entryGiven sector)

/-- Sectors an image of `size` bytes takes (R62). -/
def sectorsOf (size : Nat) : Nat := ceilDiv size Config.sectorBytes

/-- Staging blocks an image of `size` bytes takes (R51). -/
def blocksOf (size : Nat) : Nat := ceilDiv size Config.blockBytes

/-- The `k`-th sector of the bytes a READ returned. -/
def sectorOf (data : List Byte) (k : Nat) : List Byte := field data (Config.sectorBytes * k) Config.sectorBytes

/-! ### The wire form of what the part sends (12-4) -/

/-- An RN, sector number or other 4-byte field whose absence is 0. -/
def wireOpt4 (x : Option Nat) : List Byte := beBytes 4 (x.getD 0)
/-- A time: 4 bytes, FFFFFFFFh when absent. -/
def wireTime (x : Option Nat) : List Byte := beBytes 4 (x.getD 4294967295)
/-- A day number: 2 bytes, 0 when absent. -/
def wireDay (x : Option Nat) : List Byte := beBytes 2 (x.getD 0)
/-- A label: 8 bytes, all 00h when absent. -/
def wireLabel (x : Option Label) : List Byte := padTo 8 (x.getD [])
/-- A mark as one byte. -/
def wireMark (b : Bool) : List Byte := beBytes 1 (if b then 1 else 0)
/-- A set of marks as one byte, bit 0 first. -/
def wireBits (bs : List Bool) : List Byte := beBytes 1 (bitsNat bs)
/-- A side number, 0 when absent. -/
def wireSide (x : Option Side) : List Byte := beBytes 1 (match x with | some sd => sd.number | none => 0)

/-- The refusal codes in the order of R179. -/
def RefusalCode.all : List RefusalCode :=
  [.format, .role, .busy, .tagInUse, .unknownTag, .unknownRn, .notYetFiled, .full, .closed, .badImage, .badLink,
   .noTransfer, .mediaBusy, .noSuchVolume, .mailslot, .held, .storeLost, .dayOpen, .schedule]

/-- The number of a refusal code, FORMAT 1 to SCHEDULE 19 (12-4). -/
def RefusalCode.code (c : RefusalCode) : Nat := RefusalCode.all.idxOf c + 1

/-- The outcomes in the order of 12-4. -/
def MediaOutcome.all : List MediaOutcome :=
  [.done, .failed, .faulted, .cleared, .returned, .enrolled, .foreign, .labelInUse, .noSuchVolume, .exported]

/-- The number of an outcome (12-4). -/
def MediaOutcome.code (o : MediaOutcome) : Nat := MediaOutcome.all.idxOf o + 1

/-- The sections in the order of 11-1. -/
def Section.all : List Section :=
  [.counter, .volumes, .pending, .dirbuf, .tallies, .schedule, .courtesy, .settings, .start]

/-- The number of a section (12-4). -/
def Section.code (sec : Section) : Nat := Section.all.idxOf sec + 1

/-- The code and the qualifier of an alarm (12-4). -/
def Alarm.bytes : Alarm → List Byte
  | .noBlank => [1, 0]
  | .sideSuspect => [2, 0]
  | .directoryFault => [3, 0]
  | .driveFault d => [4, BitVec.ofNat 8 d.val]
  | .pickerFault => [5, 0]
  | .foreignCartridge => [6, 0]
  | .storeLost sec => [7, BitVec.ofNat 8 (Section.code sec)]

/-- The five latches in the order of R168. -/
def Latches.bits (l : Latches) : List Bool :=
  [l.doorOpened, l.mailslotOpened, l.cartridgeInserted, l.cartridgeRemoved, l.keysPressed]

/-- The five levels in the order of 9-1. -/
def levelBits (l : Levels) : List Bool := [l.frontDoor, l.mailslotDoor, l.cartridgePresent, l.kLeft, l.kRight]

/-- The flags of a close in the order of 12-4. -/
def CloseFlags.bits (f : CloseFlags) : List Bool := [f.short, f.exceeds, f.unreported, f.saturated, f.tallyLost]

/-- The number of a PANEL cause: the five latches, then STOP_STANDS, STOP_CLEARED (12-4). -/
def PanelCause.code : PanelCause → Nat
  | .latch .doorOpened => 1
  | .latch .mailslotOpened => 2
  | .latch .cartridgeInserted => 3
  | .latch .cartridgeRemoved => 4
  | .latch .keysPressed => 5
  | .stopStands => 6
  | .stopCleared => 7

/-- The notice kinds in the order of 10-4. -/
def NoticeKind.all : List NoticeKind := [.filed, .resubmitNeeded, .operatorNeeded, .alarm, .panel, .dayClosed]

/-- The kind of a notice. -/
def Notice.kind : Notice → NoticeKind
  | .filed _ _ => .filed
  | .resubmitNeeded _ _ => .resubmitNeeded
  | .operatorNeeded _ _ _ => .operatorNeeded
  | .alarm _ _ _ => .alarm
  | .panel _ _ _ _ => .panel
  | .dayClosed _ _ _ _ => .dayClosed

/-- The kind byte of a notice, 90h to 95h (R198). -/
def NoticeKind.code (k : NoticeKind) : Nat := 0x90 + NoticeKind.all.idxOf k

/-- The body of a notice (12-4), one byte for a count (DESIGN CHOICE, notes/assumptions/25.md). -/
def Notice.body : Notice → List Byte
  | .filed records overflow =>
    beBytes 1 records.length ++ wireMark overflow
      ++ records.flatMap (fun r => beBytes 4 r.rn ++ wireSide (some r.side) ++ wireOpt4 r.start)
  | .resubmitNeeded rns overflow => beBytes 1 rns.length ++ wireMark overflow ++ rns.flatMap (beBytes 4)
  | .operatorNeeded v label count => beBytes 1 (v.val + 1) ++ wireLabel label ++ beBytes 1 count
  | .alarm a isSet standing =>
    a.bytes ++ beBytes 1 (if isSet then 1 else 2) ++ beBytes 1 standing.length ++ standing.flatMap Alarm.bytes
  | .panel cause levels latches stop =>
    beBytes 1 cause.code ++ wireBits (levelBits levels) ++ wireBits latches.bits ++ beBytes 1 (if stop then 1 else 2)
  | .dayClosed day newDay outstanding flags =>
    beBytes 2 day ++ beBytes 2 newDay ++ beBytes 1 outstanding ++ wireBits flags.bits

/-- The number of a tally class (12-4). -/
def TallyClass.code : TallyClass → Nat
  | .plain => 1
  | .certified => 2
  | .search => 3
  | .courtesy => 4

/-- The number of a stop reason, 0 for none (12-4). -/
def stopCode : Option StopReason → Nat
  | none => 0
  | some .finished => 1
  | some .limit => 2
  | some .kindMatch => 3
  | some .mismatch => 4
  | some .withdrawn => 5
  | some .media => 6
  | some .cancelled => 7
  | some .driveFault => 8

/-- The number of a job's outcome, and of its reason for FAILED (12-4). -/
def JobOutcome.codes : JobOutcome → Nat × Nat
  | .done => (1, 0)
  | .failed .mediaError => (2, 1)
  | .failed .withdrawn => (2, 2)
  | .failed .driveFault => (2, 3)
  | .cancelled => (3, 0)

/-- The DONE of a job (12-4): 5 bytes, or 11 with a charge. -/
def JobDone.body (j : JobDone) : List Byte :=
  beBytes 1 j.outcome.codes.1 ++ beBytes 1 j.outcome.codes.2 ++ beBytes 1 (stopCode j.stop) ++ beBytes 2 j.amount
    ++ (match j.charge with
        | none => []
        | some c => beBytes 4 c.cents ++ beBytes 1 c.cls.code
            ++ wireBits [c.flags.clamped, c.flags.courtesyNotApplied, c.flags.partialWalk])

/-- The body of a DONE (12-4). -/
def DoneBody.bytes : DoneBody → List Byte
  | .empty => []
  | .restarting => []
  | .receipt rn day time => beBytes 4 rn ++ beBytes 2 day ++ wireTime time
  | .remaining seconds => beBytes 4 seconds
  | .mask m => wireBits m.bits
  | .latches l => wireBits l.bits
  | .media outcome volume => beBytes 1 outcome.code ++ beBytes 1 (match volume with | some v => v.val + 1 | none => 0)
  | .inventory c => beBytes 1 c.placed ++ beBytes 1 c.enrolled ++ beBytes 1 c.madeOut ++ beBytes 1 c.madeVacant
      ++ beBytes 1 c.setAside
  | .job j => j.body

/-- The body of an ACCEPTED (12-4). -/
def AcceptedBody.bytes : AcceptedBody → List Byte
  | .estimate e => wireTime e
  | .frames n => beBytes 2 n
  | .sequence n => beBytes 2 n
  | .empty => []

/-- The 22 bytes of an ENTRY (12-4). -/
def EntryFrame.bytes (e : EntryFrame) : List Byte :=
  beBytes 1 e.step ++ beBytes 4 e.rn ++ beBytes 1 e.kind ++ wireOpt4 e.parcel ++ wireOpt4 e.prior ++ beBytes 2 e.pages
    ++ beBytes 2 e.day ++ wireTime e.time

/-- The 25 bytes of a station in READ TALLY (12-4). -/
def StationTally.bytes (t : StationTally) : List Byte :=
  let r (x : TallyRecord) := beBytes 2 x.count ++ beBytes 4 x.cents
  r t.plain ++ r t.certified ++ r t.search ++ r t.courtesy ++ wireMark t.saturated

/-- The number of a role (12-1: in the order of R175). -/
def Role.code : Role → Nat
  | .counter => 1
  | .filing => 2
  | .accounts => 3
  | .service => 4

/-- The engine state and its stall reason, numbered in the order of 3-5 (12-1). -/
def EngineState.bytes : EngineState → List Byte
  | .idle => [1, 0]
  | .mounting => [2, 0]
  | .writing => [3, 0]
  | .verifying => [4, 0]
  | .committing => [5, 0]
  | .flushing => [6, 0]
  | .sealing => [7, 0]
  | .stalled .headAwaiting => [8, 1]
  | .stalled .noBlank => [8, 2]
  | .stalled .driveFault => [8, 3]
  | .stalled .storeLost => [8, 4]
  | .stalled .sideOffline => [8, 5]
  | .halted => [9, 0]

/-- The number of a picker state (2-4-1). -/
def PickerState.code : PickerState → Nat
  | .idle => 1
  | .moving => 2
  | .halted => 3
  | .faulted => 4

/-- The hold state and its link (R46). -/
def Hold.bytes : Hold → List Byte
  | .none => [1, 0]
  | .waiting o => [2, BitVec.ofNat 8 o.link.val]
  | .granted l => [3, BitVec.ofNat 8 l.val]

/-- The number of a drive state (2-1-2). -/
def DriveState.code : DriveState → Nat
  | .empty => 1
  | .loading => 2
  | .spinningUp => 3
  | .ready => 4
  | .spunDown => 5
  | .unloading => 6
  | .faulted => 7

/-- One entry of the drive summary (R46). -/
def DriveSummary.bytes (d : DriveSummary) : List Byte :=
  beBytes 1 d.state.code ++ wireSide d.loaded ++ beBytes 1 d.claims ++ wireMark d.filingFlag ++ beBytes 1 d.jobs
    ++ wireMark d.bound

/-- The STATUS record in the order of R188. The widths it does not give, and the four zero bytes of the remaining seconds while the
window is CLOSED, are notes/assumptions/25.md's (DESIGN CHOICE). -/
def StatusRecord.bytes (r : StatusRecord) : List Byte :=
  beBytes 1 r.role.code ++ beBytes 1 r.silence ++ wireBits r.mask.bits
    ++ r.active.toList.flatMap (fun a => beBytes 1 (if a then 1 else 2))
    ++ beBytes 1 (if r.window.isSome then 1 else 2) ++ beBytes 4 (r.window.getD 0) ++ wireOpt4 r.nextRn
    ++ beBytes 1 r.pendingCount ++ beBytes 1 r.awaitingCount ++ r.engine.bytes ++ beBytes 2 r.freeBlocks
    ++ wireDay r.day ++ wireTime r.clock ++ beBytes 1 r.jobs ++ beBytes 1 r.waitOperator
    ++ beBytes 1 r.picker.code ++ r.hold.bytes ++ beBytes 1 r.moves ++ beBytes 1 r.highMoves
    ++ r.drives.toList.flatMap DriveSummary.bytes
    ++ wireBits (levelBits r.levels) ++ wireBits r.latches.bits ++ beBytes 1 (if r.stop then 1 else 2)
    ++ beBytes 1 r.alarms.length ++ r.alarms.flatMap Alarm.bytes

/-- The number of a till flag (R138). -/
def TillFlag.code : TillFlag → Nat
  | .short => 1
  | .exceeds => 2
  | .unreported => 3

/-- The close result in the order of R139; one mark says whether one is held (R142). An absent report is four zero bytes, as a report
of 0 is (DESIGN CHOICE, notes/assumptions/25.md). -/
def closeResultBytes : Option CloseResult → List Byte
  | none => [0]
  | some r =>
    [1] ++ beBytes 2 r.day ++ wireTime r.time ++ beBytes 4 r.items ++ beBytes 4 r.cents ++ beBytes 1 r.outstanding
      ++ wireBits r.flags.bits ++ beBytes 1 r.discrepant.length
      ++ r.discrepant.flatMap (fun d => beBytes 1 (stationNumber d.station) ++ beBytes 4 d.total ++ wireOpt4 d.report
            ++ beBytes 1 d.flag.code)
      ++ beBytes 1 r.saturated.length ++ r.saturated.flatMap (fun st => beBytes 1 (stationNumber st))

/-- The number of a start cause (R196). -/
def StartCause.code : StartCause → Nat
  | .powerOn => 1
  | .resetPin => 2
  | .supplyLow => 3
  | .restart => 4

/-- The completions in the order of R196. -/
def Completion.all : List Completion := [.receipt, .commitDirbuf, .commitPending, .flush, .close]

/-- The start record in the order of R196; the set of nine sections takes two bytes (12-1). -/
def StartRecord.bytes (r : StartRecord) : List Byte :=
  beBytes 1 (StartCause.code r.cause) ++ beBytes 2 (bitsNat (Section.all.map (r.lost.contains ·)))
    ++ wireBits (Completion.all.map (r.completions.contains ·)) ++ beBytes 1 r.awaiting

/-- The body of a RESULT (12-4). READ SCHEDULE sends each field of a record, T among them, at the 4 bytes that SET SCHEDULE has for it
(DESIGN CHOICE, notes/assumptions/25.md). -/
def ResultBody.bytes : ResultBody → List Byte
  | .status r => r.bytes
  | .schedule s => wireMark s.isSet ++ s.body
  | .tally previous day tallyLost stations =>
    beBytes 1 (if previous then 2 else 1) ++ wireDay day ++ wireMark tallyLost ++ beBytes 1 16
      ++ stations.toList.flatMap StationTally.bytes
  | .closeResult r => closeResultBytes r
  | .startRecord r => r.bytes

/-- The kind byte, the tag and the body of a frame the part sends (R198). -/
def OutFrame.parts : OutFrame → Nat × Half × List Byte
  | .accepted tag b => (0x80, tag, b.bytes)
  | .refused tag c => (0x81, tag, beBytes 1 c.code)
  | .done tag b => (0x82, tag, b.bytes)
  | .data tag seq bytes => (0x83, tag, beBytes 2 seq ++ bytes)
  | .entry tag e => (0x84, tag, e.bytes)
  | .result tag b => (0x85, tag, b.bytes)
  | .notice n => (n.kind.code, 0, n.body)

/-- A header and body: kind, tag, body length, body (12-2). -/
def frameBytes (kind : Nat) (tag : Half) (body : List Byte) : List Byte :=
  beBytes 1 kind ++ beBytes 2 tag.toNat ++ beBytes 2 body.length ++ body

/-- The bytes of a frame on the link between delimiters: header, body, check (12-2, R198). -/
def OutFrame.wire (f : OutFrame) : List Byte :=
  let p := f.parts
  let bytes := frameBytes p.1 p.2.1 p.2.2
  bytes ++ beBytes 2 (crc16 bytes).toNat

end Sys2Proof.Machine
end

