-- ==== Sys2Proof/Decode.lean ====
section
/-! DEFINITION. From bytes to commands. spec/opcode_table.json gives no bits to any of its rows, so no word of bits spells a
command (notes/assumptions/7.md). A request reaches the part as a frame of bytes, and `frameCommand` reads the command that the
bytes of a frame are (R176, R177, R198). -/

namespace Sys2Proof

/-- The command that the low `nbits` bits of `w` spell by the bits of spec/opcode_table.json: none, since no row has bits. -/
def decodeTableWord (_nbits _w : Nat) : Option Instr := none

end Sys2Proof

namespace Sys2Proof.Machine

/-- The command of a request kind; MOVE and CLEAR FAULT have a row each for what their body names (12-3). -/
def command (k : RequestKind) (r : Request) : Instr :=
  match k with
  | .fetch => .fetch r
  | .walk => .walk r
  | .cancel => .cancel r
  | .submit => .submit r
  | .data => .data r
  | .abandon => .abandon r
  | .resubmit => .resubmit r
  | .setSchedule => .setSchedule r
  | .readSchedule => .readSchedule r
  | .openReception => .openReception r
  | .closeReception => .closeReception r
  | .setClock => .setClock r
  | .readTally => .readTally r
  | .closeDay => .closeDay r
  | .readCloseResult => .readCloseResult r
  | .hold => .hold r
  | .release => .release r
  | .move => if fieldNat r.body 1 1 = 2 then .moveDriveToSlot r else .moveSlotToDrive r
  | .resumeMechanism => .resumeMechanism r
  | .clearFault => if fieldNat r.body 0 1 = 4 then .clearFaultPicker r else .clearFaultDrive r
  | .importCartridge => .importCartridge r
  | .exportVolume => .exportVolume r
  | .inventory => .inventory r
  | .withdraw => .withdraw r
  | .restoreCounter => .restoreCounter r
  | .panelAck => .panelAck r
  | .setConfig => .setConfig r
  | .restart => .restart r
  | .status => .status r
  | .readStartRecord => .readStartRecord r
  | .setNoticeMask => .setNoticeMask r

/-- The command of a valid frame by its kind byte: a request, or a frame of unknown kind (R177, R198). -/
def kindCommand (kind : Byte) (r : Request) : Instr :=
  match RequestKind.ofCode kind with
  | some k => command k r
  | none => .unknownKindFrame kind r

/-- The command that the bytes of a frame on a link are, from the kind byte to where the next delimiter or the end of the
receive clock cuts them (R176, R198): a body length above 1,040 is found at the header, a check not received in full is a
truncation, and a check that fails discards the frame. -/
def frameCommand (link : LinkId) (bytes : List Byte) : Instr :=
  let n := fieldNat bytes 3 2
  if bytes.length < 5 then .frameDiscarded link .truncated
  else if Config.maxBody < n then .frameDiscarded link .oversize
  else if bytes.length < n + 7 then .frameDiscarded link .truncated
  else if (crc16 (bytes.take (n + 5))).toNat ≠ fieldNat bytes (n + 5) 2 then .frameDiscarded link .badCheck
  else kindCommand (bytes.headD 0)
    { link, tag := BitVec.ofNat 16 (fieldNat bytes 1 2), body := (bytes.drop 5).take n }

/-- The bytes of the frame that carries a request of a kind: header, body, check (12-2, R198). -/
def requestFrame (k : RequestKind) (tag : Half) (body : List Byte) : List Byte :=
  let bytes := frameBytes k.code tag body
  bytes ++ beBytes 2 (crc16 bytes).toNat

end Sys2Proof.Machine
end

