-- ==== Sys2Proof/Machine/Flags.lean ====
section
/-! DEFINITION. Marks, alarms and notices: how a frame joins a link's output list, how a notice is sent or held, and how a
standing alarm is set and cleared (10-3, 10-4, 10-7). -/

namespace Sys2Proof.Machine

/-- Link unit `l`. -/
def Core.link (c : Core) (l : LinkId) : LinkUnit := c.links.get l

/-- Core with link unit `l` changed by `f`. -/
def Core.onLink (c : Core) (l : LinkId) (f : LinkUnit → LinkUnit) : Core :=
  { c with links := c.links.set l (f (c.links.get l)) }

/-- Whether a notice mask enables a kind (R180). -/
def NoticeMask.enables (m : NoticeMask) : NoticeKind → Bool
  | .filed => m.filed
  | .resubmitNeeded => m.resubmitNeeded
  | .operatorNeeded => m.operatorNeeded
  | .alarm => m.alarm
  | .panel => m.panel
  | .dayClosed => m.dayClosed

/-- A new notice merged with the one of its kind already held (R181). -/
def mergeNotice (old : Option Notice) (new : Notice) : Notice :=
  match old, new with
  | some (.filed rs ov), .filed rs' ov' =>
    .filed ((rs ++ rs').take Config.maxFiled) (ov || ov' || decide (Config.maxFiled < (rs ++ rs').length))
  | _, n => n

/-- The notice of a kind in a held set. -/
def heldOf (held : List Notice) (k : NoticeKind) : Option Notice := held.find? (fun n => n.kind == k)

/-- The held set after a notice is held: at most one notice of each kind, in the order of 10-4 (R181). -/
def holdNotice (held : List Notice) (n : Notice) : List Notice :=
  NoticeKind.all.filterMap (fun k => if k = n.kind then some (mergeNotice (heldOf held k) n) else heldOf held k)

/-- A response, DATA or ENTRY frame joins the tail of an ACTIVE link's output list; for a SILENT link it is discarded
(R178, R184). -/
def LinkUnit.emit (u : LinkUnit) (f : OutFrame) : LinkUnit := if u.active then { u with out := u.out ++ [f] } else u

/-- A notice is sent when the link is ACTIVE and the mask enables its kind, and held otherwise (R180). -/
def LinkUnit.deliver (u : LinkUnit) (n : Notice) : LinkUnit :=
  if u.active && u.mask.enables n.kind then { u with out := u.out ++ [.notice n] }
  else { u with held := holdNotice u.held n }

/-- The held notices whose kind the mask enables join the output list in the order of 10-4 (R182, R185). -/
def LinkUnit.releaseHeld (u : LinkUnit) : LinkUnit :=
  { u with
    out := u.out ++ (u.held.filter (fun n => u.mask.enables n.kind)).map .notice
    held := u.held.filter (fun n => !u.mask.enables n.kind) }

/-- The silence timer's start value for a limit (R183). -/
def timerOf (limit : Nat) : Option Nat := if limit = 0 then none else some limit

/-- A valid frame reloads the silence timer, and a SILENT link becomes ACTIVE and releases its held notices (R176, R183,
R185). -/
def LinkUnit.validFrame (u : LinkUnit) (limit : Nat) : LinkUnit :=
  let u' := { u with timer := timerOf limit, active := true }
  if u.active then u' else u'.releaseHeld

/-- The notices among frames, in order. -/
def noticesOf (fs : List OutFrame) : List Notice :=
  fs.filterMap (fun f => match f with | .notice n => some n | _ => none)

/-- The SILENT event at the link unit (R184): the frame being sent stays, the notices behind it are taken back into the held
set in the order produced, every other frame is discarded. -/
def LinkUnit.silence (u : LinkUnit) : LinkUnit :=
  { u with
    active := false
    timer := none
    out := u.out.take 1
    held := (noticesOf (u.out.drop 1) ++ u.held).foldl holdNotice [] }

/-- A frame joins link `l`'s output. -/
def Core.emit (c : Core) (l : LinkId) (f : OutFrame) : Core := c.onLink l (·.emit f)

/-- A refusal of request `r` (R179). -/
def Core.refuse (c : Core) (r : Request) (code : RefusalCode) : Core := c.emit r.link (.refused r.tag code)

/-- The DONE of request `r`. -/
def Core.answer (c : Core) (r : Request) (b : DoneBody) : Core := c.emit r.link (.done r.tag b)

/-- The ACCEPTED of request `r`. -/
def Core.accept (c : Core) (r : Request) (b : AcceptedBody) : Core := c.emit r.link (.accepted r.tag b)

/-- The RESULT of request `r`. -/
def Core.result (c : Core) (r : Request) (b : ResultBody) : Core := c.emit r.link (.result r.tag b)

/-- The DONE that ends work ordered by a link (12-4). -/
def Core.mediaDone (c : Core) (o : Orderer) (outcome : MediaOutcome) (v : Option SlotId) : Core :=
  c.emit o.link (.done o.tag (.media outcome v))

/-- A notice produced for one link. -/
def Core.notify (c : Core) (l : LinkId) (n : Notice) : Core := c.onLink l (·.deliver n)

/-- A notice produced for every link. -/
def Core.notifyAll (c : Core) (n : Notice) : Core := { c with links := c.links.map (·.deliver n) }

/-- A notice produced for every link of a role. -/
def Core.notifyRole (c : Core) (role : Role) (n : Notice) : Core :=
  { c with links := c.links.map (fun u => if u.role = role then u.deliver n else u) }

/-- The place of an alarm in the order of the table of R189, drives and sections ascending. -/
def Alarm.rank : Alarm → Nat
  | .noBlank => 0
  | .sideSuspect => 1
  | .directoryFault => 2
  | .driveFault d => 3 + d.val
  | .pickerFault => 7
  | .foreignCartridge => 8
  | .storeLost sec => 9 + Section.all.idxOf sec

/-- Set a standing alarm; one that stands already produces no notice (R189). R188, R189 and 12-4 give the
standing list no order: the model keeps it in that of R189's table (DESIGN CHOICE, notes/assumptions/66.md). -/
def Core.setAlarm (c : Core) (a : Alarm) : Core :=
  if a ∈ c.alarms then c
  else
    let alarms := c.alarms.filter (fun x => x.rank < a.rank) ++ [a] ++ c.alarms.filter (fun x => a.rank < x.rank)
    { c with alarms }.notifyAll (.alarm a true alarms)

/-- Clear a standing alarm; one that does not stand produces no notice (R189). -/
def Core.clearAlarm (c : Core) (a : Alarm) : Core :=
  if a ∈ c.alarms then
    let alarms := c.alarms.filter (· ≠ a)
    { c with alarms }.notifyAll (.alarm a false alarms)
  else c

/-- Set or clear an alarm by its condition. -/
def Core.evalAlarm (c : Core) (a : Alarm) (stands : Bool) : Core := if stands then c.setAlarm a else c.clearAlarm a

/-! ### Latches (9-3) -/

/-- Whether a latch is set. -/
def Latches.has (l : Latches) : Latch → Bool
  | .doorOpened => l.doorOpened
  | .mailslotOpened => l.mailslotOpened
  | .cartridgeInserted => l.cartridgeInserted
  | .cartridgeRemoved => l.cartridgeRemoved
  | .keysPressed => l.keysPressed

/-- The latches with one set. -/
def Latches.setLatch (l : Latches) : Latch → Latches
  | .doorOpened => { l with doorOpened := true }
  | .mailslotOpened => { l with mailslotOpened := true }
  | .cartridgeInserted => { l with cartridgeInserted := true }
  | .cartridgeRemoved => { l with cartridgeRemoved := true }
  | .keysPressed => { l with keysPressed := true }

/-- The latch an input's edge sets, by the level it takes (9-1, R168). -/
def latchOf : Input → Bool → Option Latch
  | .frontDoor, true => some .doorOpened
  | .mailslotDoor, true => some .mailslotOpened
  | .cartridgePresent, true => some .cartridgeInserted
  | .cartridgePresent, false => some .cartridgeRemoved
  | .kLeft, true => some .keysPressed
  | .kRight, true => some .keysPressed
  | _, false => none

/-! ### Levels and timers by input (9-1) -/

/-- The level of an input. -/
def levelOf (l : Levels) : Input → Bool
  | .frontDoor => l.frontDoor
  | .mailslotDoor => l.mailslotDoor
  | .cartridgePresent => l.cartridgePresent
  | .kLeft => l.kLeft
  | .kRight => l.kRight

/-- The levels with one input's set. -/
def setLevel (l : Levels) (i : Input) (b : Bool) : Levels :=
  match i with
  | .frontDoor => { l with frontDoor := b }
  | .mailslotDoor => { l with mailslotDoor := b }
  | .cartridgePresent => { l with cartridgePresent := b }
  | .kLeft => { l with kLeft := b }
  | .kRight => { l with kRight := b }

/-- The debounce timer of an input. -/
def InputTimers.of (t : InputTimers) : Input → Option Nat
  | .frontDoor => t.frontDoor
  | .mailslotDoor => t.mailslotDoor
  | .cartridgePresent => t.cartridgePresent
  | .kLeft => t.kLeft
  | .kRight => t.kRight

/-- The timers with one input's set. -/
def InputTimers.put (t : InputTimers) (i : Input) (x : Option Nat) : InputTimers :=
  match i with
  | .frontDoor => { t with frontDoor := x }
  | .mailslotDoor => { t with mailslotDoor := x }
  | .cartridgePresent => { t with cartridgePresent := x }
  | .kLeft => { t with kLeft := x }
  | .kRight => { t with kRight := x }

/-- The PANEL notice of a cause, with the values held at the end of the event (R170). -/
def Panel.notice (p : Panel) (cause : PanelCause) : Notice := .panel cause p.level p.latches p.stop

end Sys2Proof.Machine
end

