-- ==== Sys2Proof/Machine/Map.lean ====
section
/-! DEFINITION. Named operations over the Media Map (chapter 1): volume and side records, locations, the range table,
resolution, the choice of a side to open. -/

namespace Sys2Proof.Machine

/-- The 64 home slots in ascending order. -/
def allSlots : List SlotId := List.finRange 64

/-- The volume record of a slot, absent when vacant (R1). -/
def Core.vol (c : Core) (v : SlotId) : Option Volume := c.volumes[v]

/-- Replace the volume record of a slot. -/
def Core.setVol (c : Core) (v : SlotId) (x : Option Volume) : Core := { c with volumes := c.volumes.set v x }

/-- The side record of a face. -/
def Volume.side (x : Volume) : Face → SideRecord
  | .a => x.sideA
  | .b => x.sideB

/-- Replace the side record of a face. -/
def Volume.setSide (x : Volume) (f : Face) (r : SideRecord) : Volume :=
  match f with
  | .a => { x with sideA := r }
  | .b => { x with sideB := r }

/-- The other face of a cartridge. -/
def otherFace : Face → Face
  | .a => .b
  | .b => .a

/-- The record of a side, absent when its volume is vacant (R1). -/
def Core.sideRecord (c : Core) (sd : Side) : Option SideRecord := (c.vol sd.slot).map (·.side sd.face)

/-- Change the record of a side of a present volume. -/
def Core.onSide (c : Core) (sd : Side) (f : SideRecord → SideRecord) : Core :=
  match c.vol sd.slot with
  | some x => c.setVol sd.slot (some (x.setSide sd.face (f (x.side sd.face))))
  | none => c

/-- Every side of every present volume, in ascending side number. -/
def Core.sides (c : Core) : List (Side × SideRecord) :=
  allSlots.flatMap (fun v =>
    match c.vol v with
    | some x => [(⟨v, .a⟩, x.sideA), (⟨v, .b⟩, x.sideB)]
    | none => [])

/-- The side in state OPEN, if any (R14: at most one). -/
def Core.openSide (c : Core) : Option (Side × SideRecord) := c.sides.find? (fun p => p.2.state == .opened)

/-- The location of a present volume (R2). -/
def Core.location (c : Core) (v : SlotId) : Option Location := (c.vol v).map (·.loc)

/-- Whether the SIDE_SUSPECT condition holds (R13). -/
def Core.suspectStands (c : Core) : Bool :=
  allSlots.any (fun v =>
    match c.vol v with
    | some x => x.loc != .out && (x.sideA.state == .suspect || x.sideB.state == .suspect)
    | none => false)

/-- The evaluation of SIDE_SUSPECT (R13). -/
def Core.evalSuspect (c : Core) : Core := c.evalAlarm .sideSuspect c.suspectStands

/-- A present volume's location changes; a change to or from OUT evaluates SIDE_SUSPECT (R3, R13). -/
def Core.setLoc (c : Core) (v : SlotId) (loc : Location) : Core :=
  match c.vol v with
  | some x =>
    let c' := c.setVol v (some { x with loc })
    if (x.loc == .out) != (loc == .out) then c'.evalSuspect else c'
  | none => c

/-- A record becomes vacant: its label, location and side records are discarded (R1, R13). -/
def Core.makeVacant (c : Core) (v : SlotId) : Core := (c.setVol v none).evalSuspect

/-- The location a position is (R3). -/
def Position.location : Position → Location
  | .slot _ => .home
  | .drive d f => .inDrive d f
  | .mailslot => .inMailslot

/-- Whether a volume carries the export mark (R157). -/
def Core.exportMarked (c : Core) (v : SlotId) : Bool :=
  match c.exportOp with
  | some x => x.slot == v
  | none => false

/-- Whether a location is one that waits for the operator (R2, R86). -/
def Location.offline : Location → Bool
  | .inMailslot | .out | .unknown => true
  | _ => false

/-- Whether a job for a side of the volume waits for the operator (R86, R157). -/
def Core.offline (c : Core) (v : SlotId) : Bool :=
  match c.location v with
  | some loc => loc.offline || c.exportMarked v
  | none => false

/-! ### The range table and resolution (1-4) -/

/-- The range of a side in the range table, if it is listed (R14). -/
def SideRecord.range (r : SideRecord) : Option (Nat × Nat) :=
  if r.state = .blank then none
  else match r.firstRn, r.lastRn with
    | some a, some b => some (a, b)
    | _, _ => none

/-- The outcomes of a resolution (R15). -/
inductive Resolution where
  | beyond
  | pending
  | deferred
  | onSide (sd : Side) (index : Nat)
  | unrecorded
deriving DecidableEq, Repr

/-- The largest of a list of numbers, 0 when empty. -/
def maxOf (ns : List Nat) : Nat := ns.foldl max 0

/-- The substitute bound while COUNTER stands lost (R83). -/
def Core.substituteBound (c : Core) : Nat :=
  1 + maxOf (c.sides.filterMap (fun p => p.2.lastRn) ++ c.pendingList.map (·.rn))

/-- The range table (R14): the sides that have a range, by ascending open sequence. -/
def Core.rangeTable (c : Core) : List (Side × SideRecord) :=
  (c.sides.filter (fun p => p.2.range.isSome)).insertionSort (fun p q => p.2.openSeq.getD 0 ≤ q.2.openSeq.getD 0)

/-- The index a range gives a number it holds (R15). -/
def SideRecord.indexOf (r : SideRecord) (n : Nat) : Option Nat :=
  match r.range with
  | some (a, b) => if a ≤ n ∧ n ≤ b then some (n - a) else none
  | none => none

/-- The side of the range table whose range holds a number, and the index it gives it (R15). -/
def Core.sideHolding (c : Core) (n : Nat) : Option (Side × Nat) :=
  c.rangeTable.findSome? (fun p => (p.2.indexOf n).map (fun i => (p.1, i)))

/-- The resolution of a reception number (R15, R83). -/
def resolve (e : Fixed) (c : Core) (n : Nat) : Resolution :=
  let bound := match e.counter with
    | some k => k.nextRn
    | none => c.substituteBound
  if n = 0 ∨ bound ≤ n then .beyond
  else if c.pendingList.any (fun p => p.rn == n) then .pending
  else if c.rebuilding then .deferred
  else match c.sideHolding n with
    | some (sd, i) => .onSide sd i
    | none => .unrecorded

/-- The directory buffer's entry for a directory index of a side, if that is where it lies (R16). -/
def Core.bufferEntry (c : Core) (sd : Side) (index : Nat) : Option DirEntry :=
  match c.sideRecord sd with
  | some r =>
    if r.state = .opened ∧ Config.entriesPerSector * r.flushed ≤ index then
      c.dirbuf[index - Config.entriesPerSector * r.flushed]?
    else none
  | none => none

/-! ### Choosing the side to open (1-5) -/

/-- The highest open sequence held by any side record, 0 when none is held (R17). -/
def Core.highestSeq (c : Core) : Nat := maxOf (c.sides.filterMap (fun p => p.2.openSeq))

/-- Whether a side may be selected for opening (R17, R157). -/
def Core.eligible (c : Core) (p : Side × SideRecord) : Bool :=
  p.2.state == .blank &&
    (match c.location p.1.slot with
     | some loc => !loc.offline && !c.exportMarked p.1.slot
     | none => false)

/-- The selection the Media Map makes (R17): the lowest eligible side, with the open sequence it will receive. -/
def Core.select (c : Core) : Option Selection :=
  if c.highestSeq < Config.maxOpenSeq then
    (c.sides.find? c.eligible).map (fun p => { side := p.1, openSeq := c.highestSeq + 1 })
  else none

/-- Whether a volume is held for an opening (R17). -/
def Core.heldForOpening (c : Core) (v : SlotId) : Bool :=
  match c.selection with
  | some x => x.side.slot == v
  | none => false

/-! ### Agreement of a header with a record (R20) -/

/-- Whether a side was ended by a header fault, or rebuilt from an unreadable header (R8, R161). -/
def SideRecord.headerFaulted (r : SideRecord) : Bool :=
  r.state == .suspect && r.firstRn == none && r.sealReason == some .writeFailures

/-- Whether a header carries a volume's label, a face and a side's open sequence (R20). -/
def headerMatches (x : Volume) (f : Face) (h : Header) : Bool :=
  x.label == some h.label && h.face == f && (x.side f).openSeq == some h.openSeq

/-- Whether what was read from sector 0 of a face agrees with the volume's record (R20). -/
def agrees (x : Volume) (f : Face) (read : HeaderRead) : Bool :=
  let r := x.side f
  if r.state = .blank then read == .blank
  else match read with
    | .header h => headerMatches x f h
    | _ => r.headerFaulted

/-! ### Geometry (R5) -/

/-- The directory sector of a copy that holds an index. -/
def directoryOf (copyB : Bool) (index : Nat) : Nat :=
  (if copyB then Config.directoryB else Config.directoryA) + index / Config.entriesPerSector

/-- The entry position of an index within its directory sector. -/
def positionOf (index : Nat) : Nat := index % Config.entriesPerSector

end Sys2Proof.Machine
end

