-- ==== Sys2Proof/Machine/Fees.lean ====
section
/-! DEFINITION. The Fee Unit's item computation and courtesy list, and the Tally and Day Unit's additions and close
(chapters 6 and 7). -/

namespace Sys2Proof.Machine

/-! ### The stages of the item computation (R119 to R124): exact whole numbers of mills -/

/-- The pages term (R119). -/
def pagesTerm (r : ScheduleRecord) (cls : FeeClass) (pages : Nat) : Nat :=
  match cls with
  | .search => 0
  | _ => r.p1 * min pages r.t + r.p2 * (pages - r.t)

/-- The raw amount (R120). -/
def rawAmount (r : ScheduleRecord) (cls : FeeClass) (pages steps : Nat) : Nat :=
  r.b + pagesTerm r cls pages + (match cls with | .search => r.s * steps | _ => 0)
    + (match cls with | .certified => r.c | _ => 0)

/-- The capped amount (R121). -/
def cappedAmount (r : ScheduleRecord) (raw : Nat) : Nat := if 0 < r.k then min raw r.k else raw

/-- The off-line surcharge (R122). -/
def withSurcharge (snap : Snapshot) (offline : Bool) (mills : Nat) : Nat := if offline then mills + snap.o else mills

/-- Mills to cents, half up, once (R123). -/
def toCents (mills : Nat) : Nat := (mills + 5) / 10

/-- The item in cents before the limit (R119 to R123). -/
def itemCents (snap : Snapshot) (cls : FeeClass) (pages steps : Nat) (offline : Bool) : Nat :=
  toCents (withSurcharge snap offline (cappedAmount snap.record (rawAmount snap.record cls pages steps)))

/-- The item fee, and whether it was clamped (R124). -/
def itemFee (snap : Snapshot) (cls : FeeClass) (pages steps : Nat) (offline : Bool) : Nat × Bool :=
  let cents := itemCents snap cls pages steps offline
  if Config.maxFee < cents then (Config.maxFee, true) else (cents, false)

/-- The tally class of a fee class (R118). -/
def FeeClass.tally : FeeClass → TallyClass
  | .plain => .plain
  | .certified => .certified
  | .search => .search

/-- The schedule snapshot of a class (R117). -/
def Schedule.snapshot (s : Schedule) (cls : FeeClass) : Snapshot :=
  { record := (match cls with | .plain => s.plain | .certified => s.certified | .search => s.search), o := s.o }

/-! ### Tallies (7-1) -/

/-- The record of a class. -/
def StationTally.of (t : StationTally) : TallyClass → TallyRecord
  | .plain => t.plain
  | .certified => t.certified
  | .search => t.search
  | .courtesy => t.courtesy

/-- The tally with one class's record replaced. -/
def StationTally.put (t : StationTally) (cls : TallyClass) (r : TallyRecord) : StationTally :=
  match cls with
  | .plain => { t with plain := r }
  | .certified => { t with certified := r }
  | .search => { t with search := r }
  | .courtesy => { t with courtesy := r }

/-- One item added to a station's tally, with the two limits and the SATURATED mark (R132). -/
def StationTally.add (t : StationTally) (cls : TallyClass) (cents : Nat) : StationTally :=
  let r := t.of cls
  let exceeded := decide (Config.maxTallyCount < r.count + 1) || decide (Config.maxTallyCents < r.cents + cents)
  { t.put cls { count := min (r.count + 1) Config.maxTallyCount, cents := min (r.cents + cents) Config.maxTallyCents } with
    saturated := t.saturated || exceeded }

/-- The index of a station 1–16. -/
def stationIndex (n : Nat) : Fin 16 := Fin.ofNat 16 (n - 1)

/-- An item added to the current tallies (R132). -/
def Core.addTally (c : Core) (station : Nat) (cls : TallyClass) (cents : Nat) : Core :=
  let st := stationIndex station
  { c with tallies := c.tallies.set st (c.tallies[st].add cls cents) }

/-! ### The courtesy list (6-3) -/

/-- A number leaves the list; an empty list has no day (R126). -/
def CourtesyList.remove (l : CourtesyList) (rn : Nat) : CourtesyList :=
  let rns := l.rns.filter (· ≠ rn)
  { rns, day := if rns.isEmpty then none else l.day }

/-- A number handed over at a commit joins the list at its tail, a full list dropping its oldest (R126). The list holds no
duplicates: where it holds the number already, the number moves to the tail (notes/assumptions/62.md). -/
def CourtesyList.append (l : CourtesyList) (rn day : Nat) : CourtesyList :=
  let others := l.rns.filter (· ≠ rn)
  let kept := if Config.maxCourtesy ≤ others.length then others.drop 1 else others
  { rns := kept ++ [rn], day := some (l.day.getD day) }

/-- The empty list (R127). -/
def CourtesyList.empty : CourtesyList := ⟨[], none⟩

/-- The list settled against the day number: kept when its day is absent or equals it (R128). -/
def CourtesyList.settle (l : CourtesyList) (day : Nat) : CourtesyList :=
  if l.day = none ∨ l.day = some day then l else .empty

/-- What the Work Queue hands to the Fee Unit (R118). -/
structure Item where
  station : Nat
  cls : FeeClass
  courtesy : Bool
  rn : Nat
  pages : Nat
  steps : Nat
  offline : Bool
  partialWalk : Bool
  snap : Snapshot
deriving DecidableEq, Repr

/-- The item computed by the stages, tallied, with its flags (R118, R129). -/
def Core.chargeComputed (c : Core) (it : Item) : Core × Charge :=
  let fee := itemFee it.snap it.cls it.pages it.steps it.offline
  (c.addTally it.station it.cls.tally fee.1,
   { cents := fee.1, cls := it.cls.tally,
     flags := { clamped := fee.2, courtesyNotApplied := it.courtesy && it.cls == .certified,
                partialWalk := it.partialWalk } })

/-- The Fee Unit takes an item (R118): the courtesy decision of R125, or the computation. -/
def Core.charge (c : Core) (it : Item) : Core × Charge :=
  if it.cls = .certified ∧ it.courtesy = true ∧ it.rn ∈ c.courtesy.rns then
    ({ c with courtesy := c.courtesy.remove it.rn }.addTally it.station .courtesy 0,
     { cents := 0, cls := .courtesy, flags := ⟨false, false, false⟩ })
  else c.chargeComputed it

/-! ### The close (7-4) -/

/-- The 16 stations in ascending order. -/
def allStations : List (Fin 16) := List.finRange 16

/-- Sum of a station's cents over the four classes, limited (R138). -/
def StationTally.total (t : StationTally) : Nat :=
  min (t.plain.cents + t.certified.cents + t.search.cents + t.courtesy.cents) Config.maxTallyCents

/-- Whether any of a station's records holds cents (R138). -/
def StationTally.hasCents (t : StationTally) : Bool :=
  0 < t.plain.cents || 0 < t.certified.cents || 0 < t.search.cents || 0 < t.courtesy.cents

/-- A station's count over the four classes. -/
def StationTally.items (t : StationTally) : Nat := t.plain.count + t.certified.count + t.search.count + t.courtesy.count

/-- The report that names a station. -/
def reportOf (rs : List TillReport) (st : Fin 16) : Option Nat := (rs.find? (fun r => r.station == st)).map (·.cents)

/-- Whether a station is involved in the close (R138 step 1). -/
def involved (ts : Vector StationTally 16) (rs : List TillReport) (st : Fin 16) : Bool :=
  ts[st].hasCents || (reportOf rs st).isSome

/-- The comparison of an involved station with its report (R138 step 4): absent when they match. -/
def compareTill (ts : Vector StationTally 16) (rs : List TillReport) (st : Fin 16) : Option Discrepancy :=
  let total := ts[st].total
  match reportOf rs st with
  | none => some { station := st, total, report := none, flag := .unreported }
  | some x =>
    if x = total then none
    else some { station := st, total, report := some x, flag := if x < total then .short else .exceeds }

/-- The discrepant stations, in ascending order (R138). -/
def discrepancies (ts : Vector StationTally 16) (rs : List TillReport) : List Discrepancy :=
  (allStations.filter (involved ts rs)).filterMap (compareTill ts rs)

/-- The close result (R139 step 1). -/
def closeResultOf (ts : Vector StationTally 16) (tallyDay : Nat) (tallyLost : Bool) (clock : Option Nat)
    (rs : List TillReport) : CloseResult :=
  let ds := discrepancies ts rs
  let saturated := allStations.filter (fun st => ts[st].saturated)
  { day := tallyDay, time := clock
    items := (ts.toList.map StationTally.items).sum
    cents := min ((ts.toList.map (fun t => t.plain.cents + t.certified.cents + t.search.cents + t.courtesy.cents)).sum)
      Config.maxTallyCents
    outstanding := ds.length
    flags := { short := ds.any (fun d => d.flag == .short), exceeds := ds.any (fun d => d.flag == .exceeds),
               unreported := ds.any (fun d => d.flag == .unreported), saturated := !saturated.isEmpty, tallyLost }
    discrepant := ds
    saturated }

/-- The day after a day: 1 after 65,535 (R139). -/
def nextDay (day : Nat) : Nat := if Config.maxDay ≤ day then 1 else day + 1

end Sys2Proof.Machine
end

