-- ==== Sys2Proof/Machine/Ops.lean ====
section
/-! DEFINITION. The named operations over drives, claims, jobs, mount operations, pending moves and the mailslot that every
command shares (chapters 2 and 4, 8-1). -/

namespace Sys2Proof.Machine

/-! ### Drives (2-1) -/

/-- The record of drive `d` (R23). -/
def Core.drv (c : Core) (d : DriveId) : Drive := c.drives.get d

/-- Core with the record of drive `d` changed by `f`. -/
def Core.onDrive (c : Core) (d : DriveId) (f : Drive → Drive) : Core :=
  { c with drives := c.drives.set d (f (c.drives.get d)) }

/-- The first drive, in ascending number, that satisfies a condition. -/
def Core.findDrive (c : Core) (p : DriveId → Drive → Bool) : Option DriveId :=
  Four.indices.find? (fun d => p d (c.drv d))

/-- A drive operation is issued: it is in flight with its 60 s timer (R24). -/
def Core.issue (c : Core) (d : DriveId) (kind : OpKind) (user : OpUser) : Core :=
  c.onDrive d (fun x => { x with op := some { kind, user, timer := Config.operationLimit } })

/-- Whether a completion of the operation sets the last-use time (R24). -/
def OpKind.uses : OpKind → Bool
  | .read _ _ | .write _ _ _ | .findBlank _ _ => true
  | _ => false

/-- The completion of the operation in flight clears it and, for a READ, WRITE or FIND BLANK, sets the last-use time
(R24). -/
def Core.endOp (e : Fixed) (c : Core) (d : DriveId) : Core :=
  c.onDrive d (fun x =>
    { x with
      op := none
      lastUse := match x.op with
        | some o => if o.kind.uses then e.secondCount else x.lastUse
        | none => x.lastUse })

/-- Whether an idle SPIN DOWN is in flight (R29). -/
def Drive.idleSpinDown (x : Drive) : Bool :=
  match x.op with
  | some o => o.kind == .spinDown && o.user == .idle
  | none => false

/-- No operation in flight other than an idle SPIN DOWN (R31, R45, R156). -/
def Drive.quiet (x : Drive) : Bool := x.op.isNone || x.idleSpinDown

/-- Whether a cartridge in the drive can be taken out by SPIN DOWN and EJECT (R32, R45, R156): not while the drive is FAULTED
(R25), not before its start probe has ended (notes/assumptions/12.md), and not while CLEAR FAULT unloads it,
UNLOADING without a binding (notes/assumptions/47.md). -/
def Drive.unloadable (x : Drive) : Bool := (x.state == .ready || x.state == .spunDown) && x.quiet

/-- The drive is READY and reads or writes may be issued on it (R24, R30). -/
def Drive.usable (x : Drive) : Bool := x.state == .ready && x.op.isNone

/-- Whether the drive holds a cartridge by its record (R26). -/
def Drive.holdsCartridge (x : Drive) : Bool := x.loaded.isSome || x.unnamed

/-- Whether a side is the OPEN side. -/
def Core.isOpen (c : Core) (sd : Side) : Bool :=
  match c.sideRecord sd with
  | some r => r.state == .opened
  | none => false

/-- A cartridge of an identified volume stands in a drive on a face: the loaded side and the filing flag (R23). -/
def Core.seat (c : Core) (d : DriveId) (sd : Side) : Core :=
  let flag := c.isOpen sd
  c.onDrive d (fun x => { x with loaded := some sd, unnamed := false, presented := some sd.face, filingFlag := flag })

/-- The drive starts its idle timer when READY with no claim (R27, R29, R33, R36). -/
def Core.startIdle (e : Fixed) (c : Core) (d : DriveId) : Core :=
  c.onDrive d (fun x => if x.state = .ready ∧ x.claims = 0 then { x with idle := some e.settings.idle } else x)

/-- A claim is taken: the count grows and the idle timer stops (R27). -/
def Core.takeClaim (c : Core) (d : DriveId) : Core :=
  c.onDrive d (fun x => { x with claims := x.claims + 1, idle := none })

/-- A claim is released, at a drive fault too: the count falls and the last-use time is set (R23's table), and at 0 on a READY
drive the idle timer starts (R27). -/
def Core.releaseClaim (e : Fixed) (c : Core) (d : DriveId) : Core :=
  c.onDrive d (fun x =>
    let claims := x.claims - 1
    { x with
      claims
      lastUse := e.secondCount
      idle := if claims = 0 ∧ x.state = .ready then some e.settings.idle else x.idle })

/-- The unloading of a bound drive begins (R32 steps 1 and 2): the idle timer stops, SPIN DOWN is issued on a READY drive
unless an idle SPIN DOWN serves, and EJECT at once on a SPUN_DOWN drive. -/
def Core.beginUnload (c : Core) (d : DriveId) : Core :=
  let x := c.drv d
  let c' := c.onDrive d (fun x => { x with state := .unloading, idle := none })
  if x.idleSpinDown then c'
  else if x.state = .spunDown then c'.issue d .eject .mechanism
  else c'.issue d .spinDown .mechanism

/-- The drive becomes EMPTY and free: no cartridge, no binding. -/
def Core.emptyDrive (c : Core) (d : DriveId) : Core :=
  c.onDrive d (fun x =>
    { x with state := .empty, loaded := none, unnamed := false, presented := none, filingFlag := false, idle := none,
             bound := none })

/-- LOAD+SPIN UP after a move that set a cartridge into a bound drive (R33 step 2). -/
def Core.beginLoad (c : Core) (d : DriveId) : Core :=
  (c.onDrive d (fun x => { x with state := .loading })).issue d (.loadSpinUp false) .mechanism

/-- A drive that has been spun up stands READY, its binding ended (R33 step 3, R35). -/
def Core.makeReady (c : Core) (d : DriveId) : Core := c.onDrive d (fun x => { x with state := .ready, bound := none })

/-! ### The work queue (4-1) -/

/-- The job of a link and tag. -/
def Core.job (c : Core) (id : JobId) : Option Job := c.queue.find? (fun j => j.id == id)

/-- The record of a job changed by `f`. -/
def Core.onJob (c : Core) (id : JobId) (f : Job → Job) : Core :=
  { c with queue := c.queue.map (fun j => if j.id = id then f j else j) }

/-- The number of jobs of a link in the queue (R80). -/
def Core.jobsOf (c : Core) (l : LinkId) : Nat := (c.queue.filter (fun j => j.id.link == l)).length

/-- The number of jobs in WAIT_OPERATOR for a volume (R86). -/
def Core.waitingFor (c : Core) (v : SlotId) : Nat :=
  (c.queue.filter (fun j => j.state == .waitOperator && (j.side.map (·.slot)) == some v)).length

/-- The OPERATOR_NEEDED notice of a volume, for every SERVICE link (R86). -/
def Core.operatorNotice (c : Core) (v : SlotId) : Core :=
  c.notifyRole .service (.operatorNeeded v ((c.vol v).bind (·.label)) (c.waitingFor v))

/-- Whether a job's unit is under way: it reads its directory entry or its extent (R70, R89). -/
def JobState.reading : JobState → Bool
  | .readingDirectory | .sending => true
  | _ => false

/-- The head of a drive's service order (R28). -/
def Core.head (c : Core) (d : DriveId) : Option Job :=
  match (c.drv d).service with
  | [] => none
  | id :: _ => c.job id

/-- Whether a job unit is under way on a drive (R70). -/
def Core.unitUnderWay (c : Core) (d : DriveId) : Bool :=
  match c.head d with
  | some j => j.state.reading
  | none => false

/-- The drive on which the engine's units and the jobs' take turns (R70): that of its claim, or the filing drive where it holds
none. -/
def Core.turnDrive (c : Core) : Option DriveId := c.engine.claim.orElse fun _ => c.findDrive (fun _ x => x.filingFlag)

/-- Whether the head of a drive's service order may read without a turn (R70, R89): the drive is not the filing drive, or the
engine holds no claim and no turn that it has given is running. -/
def Core.mayRead (c : Core) (d : DriveId) : Bool :=
  !((c.drv d).filingFlag && (c.engine.claim == some d || (c.engine.claim.isNone && c.engine.state == .committing)))

/-- A job takes its claim on the drive that holds its side (R88): its drive field, the claim count, the tail of the service
order, and its state. -/
def Core.claimJob (c : Core) (d : DriveId) (id : JobId) : Core :=
  let first := (c.drv d).service.isEmpty
  let c1 := (c.takeClaim d).onDrive d (fun x => { x with service := x.service ++ [id] })
  c1.onJob id (fun j =>
    { j with drive := some d, state := if first && c1.mayRead d then .readingDirectory else .waitDrive })

/-- A job releases its claim and leaves the service order wherever it stands (R27, R28). -/
def Core.unclaimJob (e : Fixed) (c : Core) (id : JobId) : Core :=
  match (c.job id).bind (·.drive) with
  | some d =>
    ((c.onDrive d (fun x => { x with service := x.service.filter (· ≠ id) })).releaseClaim e d).onJob id
      (fun j => { j with drive := none })
  | none => c

/-! ### Mount requests, mount operations and pending moves (2-3, 2-4-1) -/

/-- Whether a requester is a job of the given link and tag. -/
def Requester.isJob (r : Requester) (id : JobId) : Bool := r == .job id

/-- A requester leaves every mount operation and every waiting request (R36). -/
def Core.dropRequester (c : Core) (r : Requester) : Core :=
  { c with
    requests := c.requests.filter (fun q => q.who ≠ r)
    mounts := c.mounts.map (fun m => { m with requesters := m.requesters.filter (· ≠ r) }) }

/-- Whether a requester stands in a mount operation or in a waiting request. -/
def Core.isRequester (c : Core) (r : Requester) : Bool :=
  c.requests.any (fun q => q.who == r) || c.mounts.any (fun m => m.requesters.contains r)

/-- The class and priority of a requester (table of 2-3). -/
def Core.precedence (c : Core) (r : Requester) : Nat × Nat :=
  match r with
  | .engine => (5, 0)
  | .job id =>
    match c.job id with
    | some j => if j.walk.isSome then (2, 0) else (3, j.prio)
    | none => (2, 0)

/-- The mount operation of an arrival number. -/
def Core.mount (c : Core) (arrival : Nat) : Option MountOp := c.mounts.find? (fun m => m.arrival == arrival)

/-- The mount operation that wants a side. -/
def Core.mountFor (c : Core) (sd : Side) : Option MountOp := c.mounts.find? (fun m => m.target == .side sd)

/-- The mount operation of an arrival number changed by `f`. -/
def Core.onMount (c : Core) (arrival : Nat) (f : MountOp → MountOp) : Core :=
  { c with mounts := c.mounts.map (fun m => if m.arrival = arrival then f m else m) }

/-- The mount operation ends. -/
def Core.dropMount (c : Core) (arrival : Nat) : Core :=
  { c with mounts := c.mounts.filter (fun m => m.arrival ≠ arrival) }

/-- The pending moves that serve a mount operation changed by `f`. -/
def Core.onMountMove (c : Core) (arrival : Nat) (f : Move → Move) : Core :=
  { c with moves := c.moves.map (fun m => if m.serves = .mount arrival then f m else m) }

/-- The load or swap move of a mount operation leaves the set. -/
def Core.dropMountMove (c : Core) (arrival : Nat) : Core :=
  { c with moves := c.moves.filter (fun m => m.serves ≠ .mount arrival) }

/-- A move joins the pending-move set with a new arrival number (R37). -/
def Core.joinMove (c : Core) (src : Position) (dst : Dest) (cls : Nat) (by_ : Option LinkId) (serves : Serves)
    (carries : Option SlotId) : Core :=
  { c with
    moves := c.moves ++ [{ src, dst, cls, prio := 0, arrival := c.nextArrival, orderedBy := by_, serves, carries }]
    nextArrival := c.nextArrival + 1 }

/-- Whether a mount operation lasts as long as a binding (R150, R160): an import's, or that of a slot's cartridge in inventory. -/
def MountTarget.heldBy : MountTarget → Binding → Bool
  | .importing, .importing => true
  | .slotCartridge _, .inventory => true
  | _, _ => false

/-- A binding ends, and with it the mount operation that lasts as long (R150; notes/assumptions/55.md). -/
def Core.endBoundMount (c : Core) (b : Binding) : Core := { c with mounts := c.mounts.filter (fun m => !m.target.heldBy b) }

/-- A move of an import or an inventory under its binding joins the set: with the arrival number of the mount operation that
lasts as long as the binding, or with a new one where the binding has none (R37, R150; notes/assumptions/55.md). -/
def Core.joinBoundMove (c : Core) (b : Binding) (src : Position) (dst : Dest) (by_ : Option LinkId) (serves : Serves)
    (carries : Option SlotId) : Core :=
  match c.mounts.find? (fun m => m.target.heldBy b) with
  | some op =>
    { c with moves := c.moves ++ [{ src, dst, cls := 4, prio := 0, arrival := op.arrival, orderedBy := by_, serves, carries }] }
  | none => c.joinMove src dst 4 by_ serves carries

/-- A mount operation is created, and its move joins the set with its class, priority and arrival number (R30, R34,
R150, R160). -/
def Core.newMount (c : Core) (target : MountTarget) (requesters : List Requester) (cls prio : Nat) (src : Position)
    (dst : Dest) (by_ : Option LinkId) (carries : Option SlotId) : Core :=
  let n := c.nextArrival
  { c with
    mounts := c.mounts ++ [{ target, requesters, cls, prio, arrival := n, drive := none, step := .waiting }]
    moves := c.moves ++ [{ src, dst, cls, prio, arrival := n, orderedBy := by_, serves := .mount n, carries }]
    nextArrival := n + 1 }

/-- A requester joins a mount operation, which raises its class and priority (R30). -/
def Core.joinMount (c : Core) (arrival : Nat) (r : Requester) : Core :=
  let p := c.precedence r
  (c.onMount arrival (fun m =>
    { m with requesters := m.requesters ++ [r], cls := max m.cls p.1, prio := max m.prio p.2 })).onMountMove arrival
    (fun m => { m with cls := max m.cls p.1, prio := max m.prio p.2 })

/-- A requester's mount request waits to be acted on (R30). -/
def Core.request (c : Core) (who : Requester) (side : Side) : Core :=
  { c with requests := c.requests ++ [{ who, side }] }

/-- The position of a destination whose drive is chosen. -/
def Dest.position : Dest → Option Position
  | .fixed p => some p
  | .anyDrive _ => none

/-! ### The mailslot (8-1) -/

/-- The arbiter's free-destination test for the mailslot (R146). -/
def mailslotFree (e : Fixed) (c : Core) : Bool := c.mailslot == .empty && !e.panel.level.cartridgePresent

/-- The content of the mailslot settled at start (R146). -/
def settledMailslot (level : Bool) (c : Core) : Mailslot :=
  if level then
    match allSlots.find? (fun v => c.location v == some .inMailslot) with
    | some v => .volume v
    | none => .inserted
  else .empty

/-! ### Moves (R37, R39, R43) -/

/-- The effects of a move's start on what it leaves behind (R3, R23, R146): the volume carried is IN_PICKER, a drive source
loses its loaded side and filing flag, a mailslot source becomes EMPTY and a mailslot destination RESERVED. -/
def Core.depart (c : Core) (src dst : Position) (carries : Option SlotId) : Core :=
  let c1 : Core := match carries with
    | some v => c.setLoc v (.inPicker src dst)
    | none => c
  let c2 : Core := match src with
    | .drive d _ => c1.onDrive d (fun x => { x with loaded := none, filingFlag := false })
    | .mailslot => { c1 with mailslot := .empty }
    | .slot _ => c1
  if dst = .mailslot ∧ c2.mailslot = .empty then { c2 with mailslot := .reserved } else c2

/-- A cartridge stands at a position (R3, R23): the location of an identified volume, the loaded side or the
unnamed-cartridge mark of a drive. -/
def Core.arrive (c : Core) (p : Position) (carries : Option SlotId) : Core :=
  let c1 : Core := match carries with
    | some v => c.setLoc v p.location
    | none => c
  match p, carries with
  | .drive d f, some v => c1.seat d ⟨v, f⟩
  | .drive d f, none => c1.onDrive d (fun x => { x with loaded := none, unnamed := true, presented := some f })
  | _, _ => c1

/-- A recovery that returns the cartridge of a move to its source (R43, R146). One returned to the mailslot sets its content whatever
that has become, INSERTED at a rise of cartridge-present among it (DESIGN CHOICE, notes/assumptions/91.md). -/
def Core.returnToSource (c : Core) (src dst : Position) (carries : Option SlotId) : Core :=
  let c1 : Core := match src with
    | .drive d f =>
      match carries with
      | some _ => c.arrive src carries
      | none => c.onDrive d (fun x => { x with presented := some f })
    | _ => c.arrive src carries
  let c2 : Core := if dst = .mailslot ∧ c1.mailslot = .reserved then { c1 with mailslot := .empty } else c1
  if src = .mailslot then
    { c2 with mailslot := match carries with
      | some v => .volume v
      | none => .inserted }
  else c2

/-- The picker takes up a motion: MOVING under a new 30 s stall timer (R37, R43). -/
def Core.beginMotion (c : Core) (m : Motion) : Core :=
  { c with picker := { c.picker with state := .moving, motion := some m, stall := some Config.stallLimit,
                                     stalled := false, lateDone := false, lateProbe := none } }

/-- The picker becomes IDLE, holding nothing. -/
def Core.pickerIdle (c : Core) : Core :=
  { c with picker := { state := .idle, motion := none, stall := none, stalled := false, lateDone := false,
                       lateProbe := none, by_ := none, clearing := false } }

/-- A waiting hold is granted: DONE is sent to its link (R40). -/
def Core.grantHold (c : Core) : Core :=
  match c.hold with
  | .waiting o => { c with hold := .granted o.link }.emit o.link (.done o.tag .empty)
  | _ => c

/-- The link whose RESUME MECHANISM or CLEAR FAULT began the recovery is sent its DONE (R43). -/
def Core.recoveryDone (c : Core) (outcome : MediaOutcome) : Core :=
  match c.picker.by_ with
  | some o => { c with picker := { c.picker with by_ := none } }.mediaDone o outcome none
  | none => c

/-- Whether a hold is granted to another link than `l` (R26, R42, R45). -/
def Core.heldAgainst (c : Core) (l : LinkId) : Bool :=
  match c.hold with
  | .granted h => h != l
  | _ => false

/-- Whether the gate permits starting: the front door closed and no stop standing (R38). -/
def gateOpen (e : Fixed) : Bool := !e.panel.level.frontDoor && !e.panel.stop

/-- The conditions on which RESUME MECHANISM and CLEAR FAULT for the picker are refused HELD (R42, R44). A stop that stands with the
keys released is none of them, and CLEAR FAULT begins its motion under it (DESIGN CHOICE, notes/assumptions/56.md). -/
def recoveryBarred (e : Fixed) (c : Core) (l : LinkId) : Bool :=
  e.panel.level.frontDoor || e.panel.level.kLeft || e.panel.level.kRight || c.heldAgainst l

end Sys2Proof.Machine
end

