-- ==== Sys2Proof/Machine/Retrieval.lean ====
section
/-! DEFINITION. The Work Queue: the ready estimate, the placing of jobs, the reading of a directory entry and of an extent,
the steps of a walk, and the ends of jobs (chapters 4 and 5). -/

namespace Sys2Proof.Machine

/-! ### The ready estimate (R100) -/

/-- The drive that has a side loaded. -/
def Core.driveOfSide (c : Core) (sd : Side) : Option DriveId := c.findDrive (fun _ x => x.loaded == some sd)

/-- The jobs of a list of requesters. -/
def jobsAmong (rs : List Requester) : List JobId :=
  rs.filterMap (fun r => match r with | .job id => some id | .engine => none)

/-- The jobs whose pages count into the estimate of a new job for a side (R100). -/
def Core.jobsAhead (c : Core) (sd : Side) : List JobId :=
  let joined := match c.mountFor sd with
    | some m => jobsAmong m.requesters
    | none => []
  match c.driveOfSide sd with
  | some d =>
    let x := c.drv d
    if x.state = .spinningUp then jobsAmong ((c.requests.filter (fun q => q.side == sd)).map (·.who))
    else x.service ++ joined
  | none => joined

/-- The known pages of a job, 0 when not known. -/
def Core.pagesOf (c : Core) (id : JobId) : Nat := ((c.job id).bind (·.knownPages)).getD 0

/-- The number of pending moves of class 3 or above but the move of the mount operation for a side (R100). -/
def Core.movesAhead (c : Core) (sd : Side) : Nat :=
  (c.moves.filter (fun m =>
    3 ≤ m.cls && !(match c.mountFor sd with
      | some op => m.serves == .mount op.arrival
      | none => false))).length

/-- The mount term of the estimate (R100). A side is loaded in a drive when the drive's record names it, which it does not before the
start probe has matched: such a side has the third row's term (DESIGN CHOICE, notes/assumptions/90.md). -/
def mountTerm (st : Settings) (c : Core) (sd : Side) : Nat :=
  let far := (if (c.findDrive (fun _ x => x.state == .empty)).isSome then 0 else st.tDown + st.tMove)
    + st.tMove + (if sd.face = .b then st.tFlip else 0) + st.tSpin + st.tMove * c.movesAhead sd
  match c.driveOfSide sd with
  | some d =>
    let x := c.drv d
    if x.state = .ready then (if x.idleSpinDown then st.tSpin else 0)
    else if x.state = .spunDown ∨ x.state = .spinningUp then st.tSpin
    else far
  | none => far

/-- The ready estimate of a new job, absent for DEFERRED and for an off-line volume (R100). -/
def estimate (e : Fixed) (c : Core) (side : Option Side) : Option Nat :=
  match side with
  | none => none
  | some sd =>
    if ((c.location sd.slot).map Location.offline).getD true then none
    else
      let wait := e.settings.tPage * ((c.jobsAhead sd).map c.pagesOf).sum
      some (min (wait + mountTerm e.settings c sd + e.settings.tSeek) 65535)

/-! ### Leaving the queue (R80, R96, R101, R111) -/

/-- The pages, steps, class and marks of a job as an item (R118). -/
def Job.item (j : Job) (partialWalk : Bool) : Item :=
  { station := j.station, cls := j.cls, courtesy := j.courtesy
    rn := match j.walk with
      | some w => w.start
      | none => j.rn
    pages := match j.entry with
      | some en => en.pages
      | none => 0
    steps := match j.walk with
      | some w => w.steps
      | none => 0
    offline := j.offline, partialWalk, snap := j.snap }

/-- A job leaves the queue, its mount operation or request, and its place among those that wait for the operator (R36,
R80, R86). -/
def Core.removeJob (c : Core) (id : JobId) : Core :=
  match c.job id with
  | some j =>
    let c1 := c.dropRequester (.job id)
    let c2 := { c1 with queue := c1.queue.filter (fun k => k.id ≠ id) }
    match j.state, j.side with
    | .waitOperator, some sd => c2.operatorNotice sd.slot
    | _, _ => c2
  | none => c

/-- The DONE of a job joins its link's output (R101, R112). -/
def Core.jobDone (c : Core) (id : JobId) (d : JobDone) : Core := c.emit id.link (.done id.tag (.job d))

/-- A FETCH ends without a charge (R87, R91, R92, R95, R97, R99). -/
def endFetch (e : Fixed) (c : Core) (j : Job) (outcome : JobOutcome) : Core :=
  ((c.unclaimJob e j.id).removeJob j.id).jobDone j.id { outcome, stop := none, amount := j.sent, charge := none }

/-- A FETCH ends DONE: the claim is released, the job is priced and tallied, it leaves the queue, and its DONE is produced
(R96). -/
def endFetchCharged (e : Fixed) (c : Core) (j : Job) : Core :=
  let p := (c.unclaimJob e j.id).charge (j.item false)
  (p.1.removeJob j.id).jobDone j.id { outcome := .done, stop := none, amount := j.sent, charge := some p.2 }

/-- Whether a stop reason leaves the walk PARTIAL (R111). -/
def StopReason.partialReason : StopReason → Bool
  | .media | .cancelled | .driveFault => true
  | _ => false

/-- The outcome of a walk that ends with no step (R111). -/
def StopReason.outcomeNoSteps : StopReason → JobOutcome
  | .driveFault => .failed .driveFault
  | .cancelled => .cancelled
  | _ => .failed .mediaError

/-- A walk ends: its record takes the stop reason, which its DONE carries (R103); claim, charge, queue, DONE, in this order
(R111). -/
def endWalk (e : Fixed) (c : Core) (j : Job) (w : WalkFields) (stop : StopReason) : Core :=
  let w' := { w with stop := some stop }
  let c1 := (c.onJob j.id (fun k => { k with walk := some w' })).unclaimJob e j.id
  if w.steps = 0 then
    (c1.removeJob j.id).jobDone j.id { outcome := stop.outcomeNoSteps, stop := w'.stop, amount := 0, charge := none }
  else
    let p := c1.charge ({ j with walk := some w' }.item stop.partialReason)
    (p.1.removeJob j.id).jobDone j.id { outcome := .done, stop := w'.stop, amount := w.steps, charge := some p.2 }

/-- A job ends CANCELLED (R97, R110). -/
def endCancelled (e : Fixed) (c : Core) (j : Job) : Core :=
  match j.walk with
  | some w => endWalk e c j w .cancelled
  | none => endFetch e c j .cancelled

/-- A job ends because what it must read cannot be read or found (R87, R91, R105, R108). -/
def endUnreadable (e : Fixed) (c : Core) (j : Job) : Core :=
  match j.walk with
  | some w => endWalk e c j w .media
  | none => endFetch e c j (.failed .mediaError)

/-- A job that holds a claim on a faulted drive ends (R99, R110). -/
def endFaulted (e : Fixed) (c : Core) (j : Job) : Core :=
  if j.cancelled then endCancelled e c j
  else match j.walk with
    | some w => endWalk e c j w .driveFault
    | none => endFetch e c j (.failed .driveFault)

/-- Whether a READ of the job is in flight (R97). -/
def Core.readInFlight (c : Core) (j : Job) : Bool :=
  match j.drive with
  | some d =>
    match (c.drv d).op with
    | some o => o.user == .jobDirectory j.id || o.user == .jobChunk j.id
    | none => false
  | none => false

/-- A CANCEL is taken by a job, or the SILENT event of its link (R97, R98): the cancel mark while a READ is in flight,
the end at once otherwise. -/
def cancelJob (e : Fixed) (c : Core) (j : Job) : Core :=
  if c.readInFlight j then c.onJob j.id (fun k => { k with cancelled := true }) else endCancelled e c j

/-- The jobs of a link are ended by its SILENT event (R98, R184), in the order of the work queue, the manual giving none (DESIGN
CHOICE, notes/assumptions/61.md). -/
def cancelJobsOf (e : Fixed) (c : Core) (l : LinkId) : Core :=
  (c.queue.filter (fun j => j.id.link == l)).foldl (fun c j => cancelJob e c j) c

/-! ### Placing (R85 to R87, R104, R109) -/

/-- A job whose number has a side is placed (R85): WAIT_OPERATOR for an off-line volume, and otherwise a mount request,
which is acted on in the same event. -/
def Core.placeJob (c : Core) (id : JobId) (sd : Side) : Core :=
  if c.offline sd.slot then
    (c.onJob id (fun j => { j with state := .waitOperator, offline := true })).operatorNotice sd.slot
  else (c.onJob id (fun j => { j with state := .waitMount })).request (.job id) sd

/-- The known pages learned from the directory buffer at a resolution (R84, R87); a walk holds 0 (R103). -/
def Core.pagesAt (c : Core) (j : Job) (sd : Side) (index : Nat) : Option Nat :=
  if j.walk.isSome then j.knownPages
  else match c.bufferEntry sd index with
    | some en => some en.pages
    | none => j.knownPages

/-- A waiting job resolves its number again and acts on the outcome (R87, R108, R109). -/
def resolveJob (e : Fixed) (c : Core) (j : Job) : Core :=
  match resolve e c j.rn with
  | .onSide sd index =>
    (c.onJob j.id (fun k => { k with side := some sd, index, knownPages := c.pagesAt j sd index })).placeJob j.id sd
  | .deferred => c.onJob j.id (fun k => { k with state := .queued, side := none })
  | _ => endUnreadable e c j

/-- A job leaves WAIT_OPERATOR: the notice carries the new count (R86). -/
def Core.leaveOperator (c : Core) (j : Job) : Core :=
  match j.state, j.side with
  | .waitOperator, some sd => (c.onJob j.id (fun k => { k with state := .queued })).operatorNotice sd.slot
  | _, _ => c

/-- Whether a waiting job is to be placed or resolved again: its resolution was DEFERRED and the table is COMPLETE, its
volume has become vacant, or its volume is no longer off-line, from the start of its return move on (R86, R87; DESIGN CHOICE against
R149, notes/assumptions/84.md). -/
def Core.wakes (c : Core) (j : Job) : Bool :=
  match j.side with
  | none => j.state == .queued && !c.rebuilding
  | some sd =>
    if (c.vol sd.slot).isNone then j.drive.isNone else j.state == .waitOperator && !c.offline sd.slot

/-- The job is placed or resolved again when it is due (R86, R87). -/
def wakeJob (e : Fixed) (c : Core) (id : JobId) : Core :=
  match c.job id with
  | some j =>
    if c.wakes j then
      match j.side with
      | none => resolveJob e c j
      | some sd =>
        let c1 := (c.leaveOperator j).dropRequester (.job id)
        if (c.vol sd.slot).isNone then resolveJob e c1 j else c1.placeJob id sd
    else c
  | none => c

/-- Every waiting job that is due is placed or resolved again, in acceptance order (R86, R87). -/
def wakeJobs (e : Fixed) (c : Core) : Core := c.queue.foldl (fun c j => wakeJob e c j.id) c

/-! ### Reading the directory entry and the extent (R90 to R96, R105 to R108) -/

/-- The READ of the next chunk of a job's extent is issued (R93). -/
def Core.issueChunk (c : Core) (d : DriveId) (id : JobId) (en : DirEntry) (sent : Nat) : Core :=
  c.issue d (.read (en.start + sent) (min Config.chunkSectors (sectorsOf en.size - sent))) (.jobChunk id)

/-- A FETCH has obtained its entry (R92). -/
def fetchEntry (e : Fixed) (c : Core) (d : DriveId) (j : Job) (en : DirEntry) : Core :=
  if en.kind = 0 then endFetch e c j (.failed .withdrawn)
  else
    (c.onJob j.id (fun k => { k with state := .sending, entry := some en, knownPages := some en.pages })).issueChunk d j.id
      en j.sent

/-- The walk fields after a step (R106). -/
def WalkFields.step (w : WalkFields) (en : DirEntry) : WalkFields :=
  { w with
    steps := w.steps + 1
    startParcel := if w.steps = 0 then (if en.kind = 0 then none else en.parcel) else w.startParcel
    next := en.prior }

/-- The first stop check that applies after a step (R107); `w` holds the fields after the step. -/
def WalkFields.stopAt (w : WalkFields) (en : DirEntry) : Option StopReason :=
  if en.kind = 0 then some .withdrawn
  else if w.stopKinds.getLsbD en.kind then some .kindMatch
  else if w.parcelMatch ∧ 2 ≤ w.steps ∧ en.parcel ≠ w.startParcel then some .mismatch
  else if en.prior = none then some .finished
  else if w.steps = w.limit then some .limit
  else none

/-- The ENTRY frame of a step (R106). -/
def entryFrame (rn step : Nat) (en : DirEntry) : EntryFrame :=
  { step, rn, kind := en.kind, parcel := if en.kind = 0 then none else en.parcel,
    prior := if en.kind = 0 then none else en.prior, pages := en.pages, day := en.day, time := en.time }

/-- A walk goes on to its next number (R108). -/
def walkNext (e : Fixed) (c : Core) (d : DriveId) (j : Job) (w : WalkFields) (rn : Nat) : Core :=
  let c1 := c.onJob j.id (fun k => { k with rn, walk := some w })
  match resolve e c1 rn with
  | .onSide sd index =>
    if j.side = some sd then
      c1.onJob j.id (fun k => { k with index, state := if c.mayRead d then .readingDirectory else .waitDrive })
    else ((c1.unclaimJob e j.id).onJob j.id (fun k => { k with side := some sd, index })).placeJob j.id sd
  | .deferred => (c1.unclaimJob e j.id).onJob j.id (fun k => { k with state := .queued, side := none })
  | _ => endWalk e c1 { j with rn, walk := some w } w .media

/-- A step of a walk is taken (R106 to R108). -/
def walkStep (e : Fixed) (c : Core) (d : DriveId) (j : Job) (w : WalkFields) (en : DirEntry) : Core :=
  let w' := w.step en
  let c1 := (c.emit j.id.link (.entry j.id.tag (entryFrame j.rn w'.steps en))).onJob j.id
    (fun k => { k with walk := some w' })
  match w'.stopAt en, en.prior with
  | some stop, _ => endWalk e c1 j w' stop
  | none, some rn => walkNext e c1 d j w' rn
  | none, none => endWalk e c1 j w' .finished

/-- The entry of a job has been obtained (R92, R105). -/
def takeEntry (e : Fixed) (c : Core) (d : DriveId) (j : Job) (en : DirEntry) : Core :=
  match j.walk with
  | some w => walkStep e c d j w en
  | none => fetchEntry e c d j en

/-- The head of a service order, READING_DIRECTORY, asks again where its entry lies and reads it (R16, R90). -/
def readEntry (e : Fixed) (c : Core) (d : DriveId) (j : Job) : Core :=
  match j.side with
  | some sd =>
    match c.bufferEntry sd j.index with
    | some en => takeEntry e c d j en
    | none => c.issue d (.read (directoryOf false j.index) 1) (.jobDirectory j.id)
  | none => endUnreadable e c j

/-- What a directory READ gives at a position (R91). -/
def entryRead (r : ReadResult) (position : Nat) : Option DirEntry :=
  match r with
  | .good data => entryGiven data position
  | _ => none

/-- A directory READ of a job completes (R91, R105); `start` is the sector read. -/
def directoryRead (e : Fixed) (c : Core) (d : DriveId) (j : Job) (start : Nat) (r : ReadResult) : Core :=
  if j.cancelled then endCancelled e c j
  else match entryRead r (positionOf j.index) with
    | some en => takeEntry e c d j en
    | none =>
      if start < Config.directoryB then c.issue d (.read (directoryOf true j.index) 1) (.jobDirectory j.id)
      else endUnreadable e c j

/-- The bytes of the `k`-th sector of an image of `size` bytes that are sent: 1,024, or the remainder in the last (R94). -/
def frameBytesOf (size k : Nat) (sector : List Byte) : List Byte :=
  if k + 1 = sectorsOf size then sector.take (size - Config.sectorBytes * k) else sector

/-- The DATA frames of a chunk (R94). -/
def chunkFrames (size sent : Nat) (data : List Byte) (count : Nat) : List (Nat × List Byte) :=
  (List.range count).map (fun k => (sent + k, frameBytesOf size (sent + k) (sectorOf data k)))

/-- The frames of a chunk join the link's output in sector order (R94). -/
def Core.emitFrames (c : Core) (id : JobId) (frames : List (Nat × List Byte)) : Core :=
  frames.foldl (fun c f => c.emit id.link (.data id.tag f.1 f.2)) c

/-- A chunk READ of a FETCH completes (R93 to R96). -/
def chunkRead (e : Fixed) (c : Core) (d : DriveId) (j : Job) (en : DirEntry) (r : ReadResult) : Core :=
  if j.cancelled then endFetch e c j .cancelled
  else match r with
    | .good data =>
      let count := min Config.chunkSectors (sectorsOf en.size - j.sent)
      let frames := chunkFrames en.size j.sent data count
      let sent := j.sent + count
      let crc := crc32Update j.crc (frames.flatMap (·.2))
      let c1 := (c.emitFrames j.id frames).onJob j.id (fun k => { k with sent, crc, retry := false })
      if sent = sectorsOf en.size then
        if crc32Final crc = en.crc then endFetchCharged e c1 { j with sent, crc }
        else endFetch e c1 { j with sent, crc } (.failed .mediaError)
      else c1.issueChunk d j.id en sent
    | _ =>
      if j.retry then endFetch e c j (.failed .mediaError)
      else (c.onJob j.id (fun k => { k with retry := true })).issueChunk d j.id en j.sent

end Sys2Proof.Machine
end

