-- ==== Sys2Proof/Machine/Filing.lean ====
section
/-! DEFINITION. The Filing Engine's work on the head of the pending list: its choice, mounting, writing, verifying, commit,
flush, seal, the turns of the filing drive, and what a drive fault does to it (chapter 3, R7 to R12, R17, R18). -/

namespace Sys2Proof.Machine

/-! ### The engine's record and its request -/

/-- Core with the engine's record changed by `f`. -/
def Core.onEngine (c : Core) (f : Engine → Engine) : Core := { c with engine := f c.engine }

/-- An event of R59 reaches the engine: one that is STALLED for a drive fault or an off-line side chooses anew, as IDLE does
(R59, R61, R75). The other stalls last only while the choice gives them. -/
def Engine.reached (g : Engine) : Engine :=
  match g.state with
  | .stalled .driveFault | .stalled .sideOffline => { g with state := .idle }
  | _ => g

/-- The engine releases the claim it holds (R60). -/
def Core.engineRelease (e : Fixed) (c : Core) : Core :=
  match c.engine.claim with
  | some d => (c.releaseClaim e d).onEngine (fun g => { g with claim := none })
  | none => c

/-- The engine enters IDLE, STALLED or HALTED: it releases its claim and leaves what it waited for (R59, R60). -/
def Core.engineRest (e : Fixed) (c : Core) (st : EngineState) : Core :=
  ((c.engineRelease e).dropRequester .engine).onEngine (fun g => { g with state := st })

/-- The state of the engine's head entry (R57). -/
def Core.headState (c : Core) : Option PendingState := c.pendingList.head?.map (·.state)

/-- The head entry's state becomes `st` (R58). -/
def Core.setHead (c : Core) (st : PendingState) : Core :=
  match c.pendingList with
  | p :: ps => { c with pendingList := { p with state := st } :: ps }
  | [] => c

/-- The head goes back to STAGED from WRITING or VERIFYING (R58). -/
def Core.stageHead (c : Core) : Core :=
  if c.headState = some .writing ∨ c.headState = some .verifying then c.setHead .staged else c

/-- The staging blocks of a list are returned to the free blocks (R51). -/
def freeBlocks (map : List Bool) (bs : List Nat) : List Bool := bs.foldl (fun m b => m.set b false) map

/-! ### The choice (R59) -/

/-- What the engine chooses by its head (R59). -/
inductive Choice where
  | rest (st : EngineState)
  | placeholder
  | mounting
deriving DecidableEq, Repr

/-- The OPEN side as the engine has it: a side that the running inventory has rebuilt as OPEN is handed over only at the
inventory's end (R162 steps 2, 3 and 6; notes/assumptions/49.md). -/
def Core.filingSide (c : Core) : Option (Side × SideRecord) :=
  c.openSide.filter (fun p =>
    match c.inventory with
    | some i => i.rebuiltOpen != some p.1
    | none => true)

/-- Whether a WITHDRAWN head can be committed with no drive operation before it (R72): a side is OPEN with room in its entry count,
and no flush, restart seal or interrupted seal is due on it. That a seal cut short by a drive fault bars it until it has been
written is a DESIGN CHOICE (notes/assumptions/86.md). -/
def Core.placeable (c : Core) : Bool :=
  match c.filingSide with
  | some p => p.2.entryCount < Config.maxEntries && c.dirbuf.length < Config.entriesPerSector
      && !c.engine.restartSealMark && !c.engine.flushRetryMark && c.engine.sealing.isNone
  | none => false

/-- The choice by the head, in the order of R59. -/
def choose (e : Fixed) (c : Core) : Choice :=
  if e.counter.isNone || !e.pendingValid then .rest (.stalled .storeLost)
  else match c.headState with
    | none => .rest .idle
    | some .awaitingResubmit => .rest (.stalled .headAwaiting)
    | some .withdrawn => if c.placeable then .placeholder else .mounting
    | some _ => .mounting

/-- The side the engine fills: the OPEN side, or the side selected for opening. -/
def Core.engineSide (c : Core) : Option Side :=
  match c.filingSide with
  | some p => some p.1
  | none => c.selection.map (·.side)

/-- A selection of the Media Map; while the range table is REBUILDING, or an OPEN side waits for the end of the inventory that
rebuilt it, it finds no eligible side (R17, R21, R162). -/
def Core.selectSide (c : Core) : Option Selection :=
  if c.rebuilding || c.openSide.isSome then none else c.select

/-- Whether a volume's cartridge stands in a FAULTED drive (R75). -/
def Core.inFaultedDrive (c : Core) (v : SlotId) : Bool :=
  match c.location v with
  | some (.inDrive d _) => (c.drv d).state == .faulted
  | _ => false

/-- What keeps the engine from obtaining the side it needs (R18, R61, R75): DRIVE_FAULT while the OPEN side lies in a FAULTED
drive, whatever the drive was doing, and SIDE_OFFLINE for a selected side as for the OPEN one (DESIGN CHOICE,
notes/assumptions/70.md). A selected side in a FAULTED drive does not stall it: its request waits (R30, R69). -/
def Core.mountBlock (c : Core) : Option StallReason :=
  match c.engineSide with
  | none => if c.alarms.contains .noBlank && c.selectSide.isNone then some .noBlank else none
  | some sd =>
    if c.offline sd.slot then some .sideOffline
    else if c.filingSide.isSome && c.inFaultedDrive sd.slot then some .driveFault
    else none

/-- The Media Map's selection while NO_BLANK stands (R18): the first that finds a side clears the alarm and hands the side to
the engine. -/
def Core.reselect (c : Core) : Core :=
  if c.alarms.contains .noBlank then
    match c.selectSide with
    | some sel => { c with selection := some sel }.clearAlarm .noBlank
    | none => c
  else c

/-! ### Commit (R66, R72) -/

/-- The directory entry of a pending entry whose extent starts at `start` (R66). -/
def PendingEntry.directoryEntry (p : PendingEntry) (start : Nat) : DirEntry :=
  { kind := p.desc.kind, station := p.desc.station, pages := p.desc.pages, day := p.day,
    sectors := sectorsOf p.desc.size, parcel := some p.desc.parcel, prior := p.desc.prior, time := p.time, start,
    size := p.desc.size, crc := p.desc.crc }

/-- The directory entry of a placeholder (R72). -/
def PendingEntry.placeholderEntry (p : PendingEntry) : DirEntry :=
  { kind := 0, station := p.desc.station, pages := 0, day := p.day, sectors := 0, parcel := none, prior := none,
    time := p.time, start := 0, size := 0, crc := 0 }

/-- The side record after a commit of `rn` (R10; a gap before it: DESIGN CHOICE, notes/assumptions/88.md). -/
def SideRecord.commit (r : SideRecord) (rn sectors : Nat) : SideRecord :=
  { r with lastRn := some rn, entryCount := r.entryCount + 1, committedSectors := r.committedSectors + sectors }

/-- The commit event (R66): the entry joins the buffer, the side record and its range grow, the head leaves the list with its
blocks, and FILED is produced. `start` is absent for a placeholder. Also where a number above `first_rn` + entry count is committed
after a loss of PENDING, the entry goes to the tail of the buffer, last_rn becomes the number and the count grows by 1 (DESIGN CHOICE,
notes/assumptions/88.md). -/
def Core.commit (c : Core) (sd : Side) (p : PendingEntry) (start : Option Nat) : Core :=
  let en := match start with
    | some s => p.directoryEntry s
    | none => p.placeholderEntry
  let c1 := { c with
    dirbuf := c.dirbuf ++ [en]
    pendingList := c.pendingList.drop 1
    blockMap := freeBlocks c.blockMap (p.blocks.getD []) }
  ((c1.onSide sd (·.commit p.rn en.sectors)).notify p.link
    (.filed [{ rn := p.rn, side := sd, start }] false)).onEngine (fun g => { g with attempts := 0 })

/-- The hand-over of a committed number to the Fee Unit when its receipt day is today (R66, R126). -/
def courtesyHandOver (e : Fixed) (c : Core) (p : PendingEntry) : Core :=
  match e.counter with
  | some k => if p.day = k.day then { c with courtesy := c.courtesy.append p.rn k.day } else c
  | none => c

/-! ### Flush and seal (R67 to R69) -/

/-- The sectors of a directory sector's two copies for a flush (R67). -/
def flushSector (copyB : Bool) (r : SideRecord) : Nat :=
  (if copyB then Config.directoryB else Config.directoryA) + r.flushed

/-- A flush begins with the WRITE of copy A (R67). -/
def Core.beginFlush (c : Core) (d : DriveId) (r : SideRecord) : Core :=
  (c.onEngine (fun g => { g with state := .flushing, flush := some { step := .writeA, aOk := false } })).issue d
    (.write (flushSector false r) 1 (directorySector c.dirbuf)) .engineFlush

/-- The seal sector is written (R69 step 2). -/
def Core.writeSeal (c : Core) (d : DriveId) (r : SideRecord) (why : SealReason) : Core :=
  (c.onEngine (fun g => { g with state := .sealing, sealing := some why, flush := none })).issue d
    (.write 1 1 (sealSector r.lastRn r.entryCount why)) .engineSeal

/-- A seal begins (R69): a partial flush while the buffer holds entries, and then the seal sector. The head goes back to
STAGED (R58). -/
def Core.beginSeal (c : Core) (d : DriveId) (r : SideRecord) (why : SealReason) : Core :=
  let c1 := (c.stageHead).onEngine (fun g => { g with sealing := some why })
  if c.dirbuf.isEmpty then c1.writeSeal d r why else c1.beginFlush d r

/-- Whether the fit check seals for space (R62); a placeholder checks the entry count only. -/
def fitFails (r : SideRecord) (p : PendingEntry) : Bool :=
  r.entryCount == Config.maxEntries ||
    (p.state != .withdrawn && decide (Config.dataLimit < r.writePtr + sectorsOf p.desc.size))

/-- An attempt to write the head: the fit check, and the WRITE of its extent or a seal for space (R62, R63). -/
def Core.attempt (c : Core) (d : DriveId) (r : SideRecord) (p : PendingEntry) : Core :=
  if fitFails r p then c.beginSeal d r .space
  else
    let n := sectorsOf p.desc.size
    ((c.setHead .writing).onEngine (fun g => { g with state := .writing })).issue d
      (.write r.writePtr n (padTo (Config.sectorBytes * n) p.image)) .engineWrite

/-- A failed attempt (R65): another attempt, or at the third a seal for write failures. -/
def Core.failAttempt (c : Core) (d : DriveId) (r : SideRecord) (p : PendingEntry) : Core :=
  let n := c.engine.attempts + 1
  let c1 := c.onEngine (fun g => { g with attempts := n })
  if n < Config.maxAttempts then c1.attempt d r p else c1.beginSeal d r .writeFailures

/-! ### The end of a unit: turns and the next choice (R59, R70) -/

/-- The end of a commit, a flush or a seal: the engine chooses again. A placeholder is left to the choice's next round. -/
def chooseAgain (e : Fixed) (c : Core) : Core :=
  match choose e c with
  | .rest st => c.engineRest e st
  | _ => c.onEngine (fun g => { g with state := .mounting })

/-- A job has its turn: it reads its directory entry, or goes on with the extent that it is sending (R70;
notes/assumptions/76.md). -/
def JobState.given : JobState → JobState
  | .sending => .sending
  | _ => .readingDirectory

/-- The turn of the filing drive at the end of a commit and its flush, a placeholder's without a claim too (R70): the head of the
service order is given one unit while the engine stays COMMITTING. A unit that is already under way is the one given (DESIGN
CHOICE, notes/assumptions/76.md). -/
def giveTurn (e : Fixed) (c : Core) : Core :=
  match c.turnDrive.bind (fun d => (c.drv d).service.head?) with
  | some id =>
    (c.onJob id (fun j => { j with state := j.state.given })).onEngine (fun g => { g with state := .committing })
  | none => chooseAgain e c

/-- After a commit: the flush when the buffer is full and the claim is held, the turn otherwise (R66, R72). -/
def afterCommit (e : Fixed) (c : Core) (sd : Side) : Core :=
  if Config.entriesPerSector ≤ c.dirbuf.length then
    match c.engine.claim, c.sideRecord sd with
    | some d, some r => c.beginFlush d r
    | _, _ => c.onEngine (fun g => { g with state := .mounting })
  else giveTurn e c

/-- The placeholder commit of the head (R72). -/
def placeholderCommit (e : Fixed) (c : Core) : Core :=
  match c.openSide, c.pendingList with
  | some q, p :: _ => afterCommit e (c.commit q.1 p none) q.1
  | _, _ => c

/-! ### MOUNTING (R61) -/

/-- The head is served with the claim held on the OPEN side and nothing due before it (R61 step 5, R62, R72). -/
def serveHead (e : Fixed) (c : Core) (d : DriveId) (sd : Side) (r : SideRecord) : Core :=
  match c.pendingList with
  | [] => chooseAgain e c
  | p :: _ =>
    match p.state with
    | .withdrawn => if fitFails r p then c.beginSeal d r .space else afterCommit e (c.commit sd p none) sd
    | .awaitingResubmit => chooseAgain e c
    | _ => c.attempt d r p

/-- The reason of a restart seal (R78). -/
def restartSealReason (c : Core) (r : SideRecord) : SealReason :=
  match c.pendingList with
  | p :: _ => if fitFails r p then .space else .writeFailures
  | [] => .writeFailures

/-- The marks of R78, an interrupted seal, a full buffer and the head, served in this order with the claim held on the OPEN
side (R61 steps 4 and 5, R75). -/
def serveOpen (e : Fixed) (c : Core) (d : DriveId) (sd : Side) (r : SideRecord) : Core :=
  if c.engine.flushRetryMark then c.beginFlush d r
  else if c.engine.restartMark then c.issue d (.findBlank r.writePtr (Config.dataLimit - 1)) .engineFind
  else if c.engine.restartSealMark then c.writeSeal d r (restartSealReason c r)
  else match c.engine.sealing with
    | some why => c.beginSeal d r why
    | none => if Config.entriesPerSector ≤ c.dirbuf.length then c.beginFlush d r else serveHead e c d sd r

/-- The header of the selected side is written (R61 step 3). -/
def Core.writeHeader (c : Core) (d : DriveId) (sel : Selection) (p : PendingEntry) : Core :=
  let label := ((c.vol sel.side.slot).bind (·.label)).getD []
  c.issue d (.write 0 1 (Header.sector { label, face := sel.side.face, openSeq := sel.openSeq, firstRn := p.rn }))
    .engineHeader

/-- MOUNTING with the claim held: the next unit begins once no job unit is under way on the drive (R61, R70). -/
def serveClaim (e : Fixed) (c : Core) (d : DriveId) : Option Core :=
  if (c.drv d).op.isSome || c.unitUnderWay d then none
  else if (c.drv d).loaded ≠ c.engineSide then some (c.engineRelease e)
  else match c.filingSide, c.selection, c.pendingList with
    | some q, _, _ => some (serveOpen e c d q.1 q.2)
    | none, some sel, p :: _ => some (c.writeHeader d sel p)
    | none, _, _ => some (c.engineRelease e)

/-- The engine asks for a selection (R17, R18, R61 step 1). -/
def askSelection (e : Fixed) (c : Core) : Core :=
  match c.selectSide with
  | some sel => { c with selection := some sel }.clearAlarm .noBlank
  | none => (c.setAlarm .noBlank).engineRest e (.stalled .noBlank)

/-- One step of the engine in MOUNTING (R61). -/
def mountingStep (e : Fixed) (c : Core) : Option Core :=
  match c.engine.claim with
  | some d => serveClaim e c d
  | none =>
    if choose e c = .placeholder ∧ c.isRequester .engine = false then some (placeholderCommit e c)
    else match c.mountBlock with
      | some why => some ((c.onEngine (fun g => { g with attempts := 0 })).engineRest e (.stalled why))
      | none =>
        match c.engineSide with
        | none => some (askSelection e c)
        | some sd => if c.isRequester .engine then none else some (c.request .engine sd)

/-- The state a choice leads to while nothing may be mounted yet. -/
def Choice.state : Choice → EngineState
  | .rest st => st
  | _ => .mounting

/-- Whether the cause of a stall for a drive fault or an off-line side still stands; the engine then stays STALLED until an
event of R59 reaches it (R61, R75). -/
def Core.stallStands (c : Core) : Bool :=
  match c.engine.state, c.engineSide with
  | .stalled .driveFault, some sd => c.inFaultedDrive sd.slot
  | .stalled .sideOffline, some sd => c.offline sd.slot
  | _, _ => false

/-- The engine chooses in IDLE or STALLED (R59, R61, R75): the state it goes to, absent when it stays. -/
def restStep (e : Fixed) (c : Core) : Option Core :=
  let next := match choose e c with
    | .rest st => st
    | .placeholder => .mounting
    | .mounting => match c.mountBlock with
      | some why => .stalled why
      | none => .mounting
  if c.stallStands ∨ next = c.engine.state then none
  else match next with
    | .mounting => some (c.onEngine (fun g => { g with state := .mounting }))
    | st => some (c.engineRest e st)

/-- The next thing the engine does of itself, if it can do anything (R59, R61, R70). During the start of the mechanism it
takes its state and waits (R197 step 8), also where its head is a placeholder that needs no drive (DESIGN CHOICE,
notes/assumptions/80.md). -/
def engineStep (e : Fixed) (c : Core) : Option Core :=
  match c.engine.state with
  | .halted | .writing | .verifying | .flushing | .sealing => none
  | .committing =>
    if c.turnDrive.any c.unitUnderWay then none else some (chooseAgain e c)
  | st =>
    if c.startPhase ≠ .settled then
      if (choose e c).state = st then none else some (c.onEngine (fun g => { g with state := (choose e c).state }))
    else match st with
      | .mounting => mountingStep e c
      | _ => restStep e c

/-! ### Completions on the open side -/

/-- The write pointer passes an extent of `n` sectors, void when the outcome is a failure (R9). -/
def SideRecord.written (r : SideRecord) (n : Nat) (failed : Bool) : SideRecord :=
  { r with writePtr := r.writePtr + n, voidCount := if failed then r.voidCount + n else r.voidCount }

/-- An extent of `n` sectors is rejected by the verify (R9). -/
def SideRecord.rejected (r : SideRecord) (n : Nat) : SideRecord := { r with voidCount := r.voidCount + n }

/-- The record of the OPEN side and the head, when both exist. -/
def Core.openAndHead (c : Core) : Option (Side × SideRecord × PendingEntry) :=
  match c.openSide, c.pendingList with
  | some q, p :: _ => some (q.1, q.2, p)
  | _, _ => none

/-- The WRITE of the head's extent completes (R63). -/
def instrumentWritten (c : Core) (d : DriveId) (r : WriteResult) : Core :=
  match c.openAndHead with
  | some (sd, rec, p) =>
    let n := sectorsOf p.desc.size
    match r with
    | .good =>
      (((c.onSide sd (·.written n false)).setHead .verifying).onEngine (fun g => { g with state := .verifying })).issue d
        (.read rec.writePtr n) .engineVerify
    | .mediaError => (c.onSide sd (·.written n true)).failAttempt d (rec.written n true) p
  | none => c

/-- Whether the verify read accepts the extent (R64). -/
def verifyAccepts (p : PendingEntry) (r : ReadResult) : Bool :=
  match r with
  | .good data => crc32 (data.take p.desc.size) == p.desc.crc
  | _ => false

/-- The verify read completes (R64): the commit event, or a failed attempt. The extent starts `n` sectors below the write
pointer. -/
def extentVerified (e : Fixed) (c : Core) (d : DriveId) (r : ReadResult) : Core :=
  match c.openAndHead with
  | some (sd, rec, p) =>
    let n := sectorsOf p.desc.size
    if verifyAccepts p r then
      let c1 := (courtesyHandOver e (c.commit sd p (some (rec.writePtr - n))) p).onEngine
        (fun g => { g with state := .committing })
      afterCommit e c1 sd
    else (c.onSide sd (·.rejected n)).failAttempt d (rec.rejected n) p
  | none => c

/-- The open event of a selected side (R7). -/
def SideRecord.opened (openSeq firstRn : Nat) : SideRecord :=
  { SideRecord.blank with state := .opened, openSeq := some openSeq, firstRn := some firstRn }

/-- The record of a side ended by a header fault (R8). -/
def SideRecord.headerFault (openSeq : Nat) : SideRecord :=
  { SideRecord.blank with state := .suspect, openSeq := some openSeq, sealReason := some .writeFailures }

/-- The opening ends in a header fault (R8): SIDE_SUSPECT is evaluated, the hold on the volume ends. -/
def Core.faultHeader (c : Core) : Core :=
  match c.selection with
  | some sel => { c.onSide sel.side (fun _ => .headerFault sel.openSeq) with selection := none }.evalSuspect
  | none => c

/-- The WRITE of the selected side's header completes (R61 step 3, R7, R8). The directory buffer of the new OPEN side is
empty (R6). -/
def headerWritten (e : Fixed) (c : Core) (d : DriveId) (r : WriteResult) : Core :=
  match r with
  | .mediaError => c.faultHeader.engineRelease e
  | .good =>
    match c.selection, c.pendingList with
    | some sel, p :: _ =>
      { (c.onSide sel.side (fun _ => .opened sel.openSeq p.rn)).onDrive d (fun x => { x with filingFlag := true }) with
        selection := none, dirbuf := [] }
    | _, _ => c

/-- An OPEN side ended without a seal, its record brought down to the entries that stand on its platter directory (R6, R161
step 2, R194): the entry count becomes at most 32 for each flushed directory sector, and last_rn follows it. -/
def SideRecord.ended (r : SideRecord) : SideRecord :=
  let n := min r.entryCount (Config.entriesPerSector * r.flushed)
  { r with
    state := .suspect
    sealReason := some .writeFailures
    entryCount := n
    lastRn := if n = 0 then none else r.firstRn.map (· + n - 1) }

/-- The OPEN side's record at the completion of its seal write (R12). -/
def SideRecord.sealed (r : SideRecord) (why : SealReason) (good : Bool) : SideRecord :=
  { r with state := if good ∧ why = .space then .full else .suspect, sealReason := some why }

/-- The OPEN side ends at the completion of the seal write (R12, R13, R69 step 3): the filing flag of its drive clears. -/
def Core.endSeal (c : Core) (d : DriveId) (good : Bool) : Core :=
  match c.openSide, c.engine.sealing with
  | some q, some why =>
    let c1 := (c.onSide q.1 (·.sealed why good)).onDrive d (fun x => { x with filingFlag := false })
    let c2 := if (q.2.sealed why good).state = .suspect then c1.evalSuspect else c1
    c2.onEngine (fun g => { g with sealing := none, restartSealMark := false, restartMark := false,
                                   flushRetryMark := false, attempts := 0 })
  | _, _ => c

/-- The WRITE of the seal sector completes (R69): the engine releases its claim and chooses with the same head. -/
def sealWritten (e : Fixed) (c : Core) (d : DriveId) (r : WriteResult) : Core :=
  chooseAgain e ((c.endSeal d (r == .good)).engineRelease e)

/-- The end of a flush (R11, R67, R68): the buffer emptied, or the engine HALTED. -/
def endFlush (e : Fixed) (c : Core) (d : DriveId) (sd : Side) (r : SideRecord) (verified : Bool) : Core :=
  if verified then
    let c1 := { (c.onSide sd (fun x => { x with flushed := x.flushed + 1 })).onEngine
      (fun g => { g with flush := none, flushRetryMark := false }) with dirbuf := [] }
    let c2 := c1.clearAlarm .directoryFault
    match c.engine.sealing with
    | some why => c2.writeSeal d { r with flushed := r.flushed + 1 } why
    | none => giveTurn e c2
  else
    ((c.stageHead).setAlarm .directoryFault |>.onEngine (fun g => { g with flush := none, sealing := none })).engineRest e
      .halted

/-- The next operation of a flush (R67). -/
def Core.flushNext (c : Core) (d : DriveId) (r : SideRecord) (step : FlushStep) (aOk : Bool) : Core :=
  let c1 := c.onEngine (fun g => { g with flush := some { step, aOk } })
  match step with
  | .writeA => c1.issue d (.write (flushSector false r) 1 (directorySector c.dirbuf)) .engineFlush
  | .readA => c1.issue d (.read (flushSector false r) 1) .engineFlush
  | .writeB => c1.issue d (.write (flushSector true r) 1 (directorySector c.dirbuf)) .engineFlush
  | .readB => c1.issue d (.read (flushSector true r) 1) .engineFlush

/-- Whether a read-back compares equal with the buffer (R67). -/
def compares (c : Core) (r : ReadResult) : Bool :=
  match r with
  | .good data => data == directorySector c.dirbuf
  | _ => false

/-- One of the four operations of a flush completes (R67); absent when the completion is not of the operation in flight. -/
def flushDone (e : Fixed) (c : Core) (d : DriveId) (r : FlushResult) : Option Core :=
  match c.engine.flush, c.openSide with
  | some f, some (sd, rec) =>
    match f.step, r with
    | .writeA, .wrote .good => some (c.flushNext d rec .readA false)
    | .writeA, .wrote .mediaError => some (c.flushNext d rec .writeB false)
    | .readA, .read x => some (c.flushNext d rec .writeB (compares c x))
    | .writeB, .wrote .good => some (c.flushNext d rec .readB f.aOk)
    | .writeB, .wrote .mediaError => some (endFlush e c d sd rec f.aOk)
    | .readB, .read x => some (endFlush e c d sd rec (f.aOk || compares c x))
    | _, _ => none
  | _, _ => none

/-- The length of an extent written and not verified before the reset (R78); the manual's difference can be negative only
where the record is inconsistent, and is then a free value. -/
def unverifiedLength (r : SideRecord) : Nat :=
  if 2 + r.voidCount + r.committedSectors ≤ r.writePtr then r.writePtr - 2 - r.voidCount - r.committedSectors
  else Config.unverifiedOfInconsistentSide r.writePtr r.voidCount r.committedSectors

/-- The OPEN side's record at the completion of the restart FIND BLANK (R9, R78). -/
def SideRecord.found (r : SideRecord) (f : FindResult) : SideRecord :=
  let s := match f with
    | .good s => s
    | .none => Config.dataLimit
  { r with writePtr := s, voidCount := r.voidCount + (s - r.writePtr) + unverifiedLength r }

/-- The restart FIND BLANK completes (R78): the restart mark clears. -/
def restartFound (c : Core) (f : FindResult) : Core :=
  match c.openSide with
  | some q => (c.onSide q.1 (·.found f)).onEngine (fun g => { g with restartMark := false })
  | none => c

/-! ### The engine and a side rebuilt as OPEN (R161, R162) -/

/-- The selection ends when an inventory rebuilds an OPEN side: the side being opened is ended as by a header fault when its
header WRITE is in flight (R8; notes/assumptions/49.md). -/
def Core.dropSelection (c : Core) : Core :=
  match c.engine.claim with
  | some d =>
    if (c.drv d).op.map (fun o => o.user) = some .engineHeader then c.faultHeader else { c with selection := none }
  | none => { c with selection := none }

/-- The state of an engine that has let go of its side: it chooses again unless it rests. -/
def EngineState.letGo : EngineState → EngineState
  | .idle => .idle
  | .stalled why => .stalled why
  | .halted => .halted
  | _ => .mounting

/-- An inventory has rebuilt an OPEN side, and the engine lets go of the side it filled or was to open: the head goes back to
STAGED, the claim and the mount request end, and an operation still in flight ends without effect
(notes/assumptions/49.md). -/
def engineLetGo (e : Fixed) (c : Core) : Core :=
  let c1 := ((c.dropSelection.stageHead).engineRelease e).dropRequester .engine
  c1.onEngine (fun _ => Engine.atStart c.engine.state.letGo)

/-! ### A fault of the drive on which the engine holds its claim (R75) -/

/-- What the TIMEOUT of the engine's own operation does to the side (R8, R9, R12, R63, R64). -/
def Core.engineTimeout (c : Core) (d : DriveId) (user : Option OpUser) : Core :=
  match user, c.openAndHead with
  | some .engineWrite, some (sd, _, p) => c.onSide sd (·.written (sectorsOf p.desc.size) true)
  | some .engineVerify, some (sd, _, p) => c.onSide sd (·.rejected (sectorsOf p.desc.size))
  | some .engineHeader, _ => c.faultHeader
  | some .engineSeal, _ => c.endSeal d false
  | _, _ => c

/-- Whether the engine, MOUNTING with no claim, waits on drive `d` for a cartridge that stands in it: its mount has bound the
drive, or the drive spins up for it (R35, R75). -/
def Core.engineWaitsOn (c : Core) (d : DriveId) : Bool :=
  match c.engine.state, c.engine.claim, c.engineSide with
  | .mounting, none, some sd =>
    (c.location sd.slot == some (.inDrive d .a) || c.location sd.slot == some (.inDrive d .b)) &&
      match (c.drv d).bound with
      | some (.mount n) => (c.mount n).any (fun m => m.requesters.contains .engine)
      | _ => (c.drv d).state == .spinningUp && c.requests.contains { who := .engine, side := sd }
  | _, _, _ => false

/-- The engine takes the fault of drive `d` (R75). With its claim there: the claim is released (R25), the head goes
back to STAGED, the attempt count is 0, and it is STALLED while a side is OPEN, which stands in the faulted drive; where the
fault has ended the side, it chooses again (R61, R69). With no claim it is STALLED where `waits` says that it waited on the
drive for the cartridge in it. -/
def engineFault (e : Fixed) (c : Core) (d : DriveId) (user : Option OpUser) (waits : Bool) : Core :=
  if c.engine.claim = some d then
    let c1 := (((c.engineTimeout d user).stageHead).engineRelease e).onEngine
      (fun g => { g with attempts := 0, flush := none })
    if c1.filingSide.isSome then c1.engineRest e (.stalled .driveFault) else chooseAgain e c1
  else if waits then (c.onEngine (fun g => { g with attempts := 0 })).engineRest e (.stalled .driveFault)
  else c

end Sys2Proof.Machine
end

