-- ==== Sys2Proof/Machine/Cartridge.lean ====
section
/-! DEFINITION. Import and inventory: the judgement of a cartridge by its headers, enrolment, the rebuilding of side records,
the settlement of slots, and the end of an inventory (chapter 8). -/

namespace Sys2Proof.Machine

/-! ### The course of a cartridge after its judgement (R154) -/

/-- Whether a volume stays in the drive (R154): a job waits for the operator on it, or NO_BLANK stands and it has a BLANK
side. -/
def Core.stays (c : Core) (v : SlotId) : Bool :=
  decide (0 < c.waitingFor v) ||
    (c.alarms.contains .noBlank &&
      match c.vol v with
      | some x => x.sideA.state == .blank || x.sideB.state == .blank
      | none => false)

/-- The face presented in a drive; A where the part cannot know it (notes/assumptions/23.md). -/
def Drive.face (x : Drive) : Face := x.presented.getD .a

/-- The binding `b` ends and the drive stands READY with its idle timer running (R154, R159). -/
def Core.unbindReady (e : Fixed) (c : Core) (d : DriveId) (b : Binding) : Core :=
  ((c.endBoundMount b).onDrive d (fun x => { x with bound := none })).startIdle e d

/-! ### Import (R149 to R154) -/

/-- The import's record changed by `f`. -/
def Core.onImport (c : Core) (f : ImportOp → ImportOp) : Core := { c with importOp := c.importOp.map f }

/-- The volume that a header of face `f` identifies (R151). -/
def Core.identify (c : Core) (f : Face) (h : Header) : Option SlotId :=
  allSlots.find? (fun v =>
    match c.vol v with
    | some x => x.loc == .out && x.label == some h.label && agrees x f (.header h)
        && (f == .a || x.sideA.firstRn == none)
    | none => false)

/-- What a judgement gives (R151). -/
inductive Judgement where
  | returned (v : SlotId)
  | enrolled (v : SlotId)
  | rejected (outcome : MediaOutcome)
deriving DecidableEq, Repr

/-- Identification by a header (R151). -/
def Core.judgeByHeader (c : Core) (f : Face) (h : Header) : Judgement :=
  match c.identify f h with
  | some v => .returned v
  | none => .rejected .foreign

/-- A present volume that carries a label and meets a condition. -/
def Core.labelled (c : Core) (label : Label) (p : Volume → Bool) : Option SlotId :=
  allSlots.find? (fun v =>
    match c.vol v with
    | some x => x.label == some label && p x
    | none => false)

/-- The lowest-numbered vacant slot (R153). -/
def Core.lowestVacant (c : Core) : Option SlotId := allSlots.find? (fun v => (c.vol v).isNone)

/-- The judgement of a blank cartridge (R151). -/
def Core.judgeBlank (c : Core) (label : Label) : Judgement :=
  match c.labelled label (fun x => x.loc == .out && x.sideA.firstRn == none && x.sideB.firstRn == none) with
  | some v => .returned v
  | none =>
    if (c.labelled label (fun _ => true)).isSome then .rejected .labelInUse
    else match c.lowestVacant with
      | some v => .enrolled v
      | none => .rejected .noSuchVolume

/-- The judgement by both faces (R151); absent when face B has still to be read. -/
def Core.judge (c : Core) (label : Label) (a : HeaderRead) (b : Option HeaderRead) : Option Judgement :=
  match a, b with
  | .header h, _ => some (c.judgeByHeader .a h)
  | _, none => none
  | _, some (.header h) => some (c.judgeByHeader .b h)
  | .blank, some .blank => some (c.judgeBlank label)
  | _, some _ => some (.rejected .foreign)

/-- An identified or enrolled cartridge stands in drive `d` (R152, R153). -/
def Core.place (c : Core) (d : DriveId) (v : SlotId) : Core :=
  let f := (c.drv d).face
  (c.setLoc v (.inDrive d f)).seat d ⟨v, f⟩

/-- The further course of a volume after RETURNED or enrolment (R154). -/
def importCourse (e : Fixed) (c : Core) (op : ImportOp) (d : DriveId) (v : SlotId) (outcome : MediaOutcome) : Core :=
  if c.stays v then
    ((wakeJobs e { c.unbindReady e d .importing with importOp := none }).reselect).mediaDone op.by_ outcome (some v)
  else (c.onImport (fun o => { o with phase := .goingHome v outcome })).beginUnload d

/-- The judgement of an import is carried out (R152, R153, R154). -/
def importJudged (e : Fixed) (c : Core) (op : ImportOp) (d : DriveId) (j : Judgement) : Core :=
  match j with
  | .returned v => importCourse e (c.place d v) op d v .returned
  | .enrolled v =>
    let x : Volume := { label := some op.label, loc := .unknown, sideA := .blank, sideB := .blank }
    importCourse e ((c.setVol v (some x)).place d v) op d v .enrolled
  | .rejected outcome => (c.onImport (fun o => { o with phase := .settingBack outcome })).beginUnload d

/-- The mount operation of an identification is created (R150). -/
def Core.importMount (c : Core) (op : ImportOp) : Core :=
  { c with importOp := some { op with phase := .mounting } }.newMount .importing [] 4 0 .mailslot (.anyDrive .a)
    (some op.by_.link) none

/-- An identification that the emergency stop kept waiting goes on once it is cleared (R30). -/
def importStep (e : Fixed) (c : Core) : Option Core :=
  match c.importOp with
  | some op => if op.phase = .requested ∧ e.panel.stop = false then some (c.importMount op) else none
  | none => none

/-- The read of sector 0 of the face presented is issued (R151). -/
def Core.importReadHeader (c : Core) (d : DriveId) (phase : ImportPhase) : Core :=
  (c.onImport (fun o => { o with phase })).issue d (.read 0 1) .importRead

/-- An import's header read completes (R151): a judgement, or the turn to face B. -/
def importRead (e : Fixed) (c : Core) (op : ImportOp) (d : DriveId) (r : ReadResult) : Core :=
  if op.phase = .readingB then
    match c.judge op.label op.faceA (some (headerRead (some .b) r)) with
    | some j => importJudged e c op d j
    | none => c
  else
    let a := headerRead (some .a) r
    match c.judge op.label a none with
    | some j => importJudged e c op d j
    | none => (c.onImport (fun o => { o with phase := .turning, faceA := a })).beginUnload d

/-! ### Export (R157) -/

/-- An export begins where its volume can be moved (R157): from its home slot the move to the mailslot joins the set, and a
drive is bound and unloaded. -/
def Core.beginExport (c : Core) (op : ExportOp) : Option Core :=
  match c.location op.slot with
  | some .home =>
    some ({ c with exportOp := some { op with begun := true } }.joinMove (.slot op.slot) (.fixed .mailslot) 4
      (some op.by_.link) .exportOut (some op.slot))
  | some (.inDrive d _) =>
    let x := c.drv d
    if x.unloadable && x.bound.isNone && x.claims == 0 then
      some (({ c with exportOp := some { op with drive := some d, begun := true } }.onDrive d
        (fun x => { x with bound := some .exporting })).beginUnload d)
    else none
  | _ => none

/-- An export ends with outcome FAULTED, and the export mark is removed (R157). -/
def Core.faultExport (c : Core) (op : ExportOp) : Core :=
  { c with exportOp := none }.mediaDone op.by_ .faulted (some op.slot)

/-- An export accepted for a volume that could not be moved yet begins, or ends where its volume is not found or stands in a
FAULTED drive (notes/assumptions/51.md). -/
def exportStep (c : Core) : Option Core :=
  match c.exportOp with
  | some op =>
    if op.begun then none
    else if c.location op.slot = some .unknown || c.inFaultedDrive op.slot then some (c.faultExport op)
    else c.beginExport op
  | none => none

/-! ### Inventory: kinds of record (R158) -/

/-- Present, UNKNOWN, label absent. -/
def Core.unsettled (c : Core) (v : SlotId) : Bool :=
  match c.vol v with
  | some x => x.loc == .unknown && x.label.isNone
  | none => false

/-- Present, UNKNOWN, label present. -/
def Core.lostRecord (c : Core) (v : SlotId) : Bool :=
  match c.vol v with
  | some x => x.loc == .unknown && x.label.isSome
  | none => false

/-- Vacant. -/
def Core.vacant (c : Core) (v : SlotId) : Bool := (c.vol v).isNone

/-- The inventory's record changed by `f`. -/
def Core.onInventory (c : Core) (f : Inventory → Inventory) : Core := { c with inventory := c.inventory.map f }

/-- The reading changed by `f`. -/
def Core.onReading (c : Core) (f : Reading → Reading) : Core :=
  c.onInventory (fun i => { i with reading := i.reading.map f })

/-- A fresh scan of a face (R161). -/
def Scan.fresh : Scan :=
  { step := .header, header := .blank, sealRead := .blank, writePtr := 2, flushedA := 0, flushed := 0, sector := 0,
    copyB := false, lastEntries := 0, sum := 0, badSector := false }

/-- No count yet. -/
def InventoryCounts.zero : InventoryCounts := ⟨0, 0, 0, 0, 0⟩

/-- Whether a VOLUMES loss has not been settled by an inventory (R158): the table is being rebuilt, or records are unsettled, which
such a loss alone leaves (R21). -/
def Core.inventoryDue (c : Core) : Bool := c.rebuilding || allSlots.any c.unsettled

/-- An inventory starts (R158). -/
def Core.startInventory (c : Core) (by_ : Option Orderer) : Core :=
  let i : Inventory :=
    { by_, phase := .probing, probes := Vector.replicate 64 .unprobed, assigned := [], reading := none, cursor := 0,
      rebuiltOpen := none, unsealedSeq := none, afterLoss := c.inventoryDue, counts := .zero }
  { c with inventory := some i }

/-! ### Inventory: rebuilding a side record (R161) -/

/-- The entry count rebuilt for a readable header. -/
def Scan.entryCount (s : Scan) : Nat :=
  match s.sealRead with
  | .sealed _ n _ => n
  | _ => if s.flushed = 0 then 0 else Config.entriesPerSector * (s.flushed - 1) + s.lastEntries

/-- The state and the seal reason rebuilt for a readable header. -/
def Scan.stateAndReason (s : Scan) : SideState × Option SealReason :=
  if s.badSector then (.suspect, some .writeFailures)
  else match s.sealRead with
    | .sealed _ _ .space => (.full, some .space)
    | .sealed _ _ .writeFailures => (.suspect, some .writeFailures)
    | .blank => (.opened, none)
    | .unreadable => (.suspect, some .writeFailures)

/-- The write pointer less the sectors below it that a sum of sector counts leaves void; a free value where the sum exceeds
the write pointer. -/
def voidLeft (writePtr sum : Nat) : Nat :=
  if sum + 2 ≤ writePtr then writePtr - 2 - sum else Config.voidOfInconsistentSide writePtr sum

/-- Whether the face's side was found unsealed: a readable header and a BLANK seal sector (R161 step 2). -/
def Scan.unsealed (s : Scan) : Bool :=
  match s.header with
  | .header _ => s.sealRead == .blank
  | _ => false

/-- The side record rebuilt from a face (R161). -/
def Scan.record (s : Scan) : SideRecord :=
  match s.header with
  | .blank => .blank
  | .unreadable =>
    { state := .suspect, openSeq := none, firstRn := none, lastRn := none, entryCount := 0, writePtr := s.writePtr,
      voidCount := s.writePtr - 2, flushed := 0, sealReason := some .writeFailures, committedSectors := 0 }
  | .header h =>
    let n := s.entryCount
    { state := s.stateAndReason.1, openSeq := some h.openSeq, firstRn := some h.firstRn,
      lastRn := if n = 0 then none else some (h.firstRn + n - 1), entryCount := n, writePtr := s.writePtr,
      voidCount := voidLeft s.writePtr s.sum, flushed := s.flushed, sealReason := s.stateAndReason.2,
      committedSectors := s.sum }

/-! ### Inventory: judging and settling a cartridge (R159, R160) -/

/-- The header of a face that was read, if it has one. -/
def FaceResult.head? (r : FaceResult) : Option Header :=
  match r.header with
  | .header h => some h
  | _ => none

/-- The label a cartridge's headers carry: face A's, or face B's when A carries none (R161). A duplicate is looked for by this label
alone (DESIGN CHOICE, notes/assumptions/82.md). -/
def cartridgeLabel (a b : FaceResult) : Option Label := ((a.head?).orElse (fun _ => b.head?)).map (·.label)

/-- The label of an enrolled cartridge whose headers carry none: "BLNK" and the four-digit slot number (R161). -/
def blankLabel (v : SlotId) : Label :=
  let n := v.val + 1
  [0x42, 0x4C, 0x4E, 0x4B, BitVec.ofNat 8 (0x30 + n / 1000 % 10), BitVec.ofNat 8 (0x30 + n / 100 % 10),
   BitVec.ofNat 8 (0x30 + n / 10 % 10), BitVec.ofNat 8 (0x30 + n % 10)]

/-- Whether two ranges overlap. -/
def rangesOverlap (x y : Option (Nat × Nat)) : Bool :=
  match x, y with
  | some (a, b), some (p, q) => a ≤ q && p ≤ b
  | _, _ => false

/-- Whether a rebuilt side collides with a side of a present volume (R159). -/
def Core.collides (c : Core) (r : SideRecord) : Bool :=
  c.sides.any (fun p => rangesOverlap r.range p.2.range || (r.openSeq.isSome && r.openSeq == p.2.openSeq))

/-- The lost record that a header of the cartridge identifies (R159): face A's goes before face B's (DESIGN CHOICE,
notes/assumptions/82.md). -/
def Core.matchingLost (c : Core) (a b : FaceResult) : Option SlotId :=
  let by_ (f : Face) (r : FaceResult) : Option SlotId :=
    match r.head? with
    | some h => allSlots.find? (fun v =>
        c.lostRecord v && match c.vol v with
          | some x => x.label == some h.label && agrees x f (.header h)
          | none => false)
    | none => none
  (by_ .a a).orElse (fun _ => by_ .b b)

/-- Whether a label is carried by a present volume (R159, R160). -/
def Core.labelInUse (c : Core) (label : Option Label) : Bool :=
  match label with
  | some l => (c.labelled l (fun _ => true)).isSome
  | none => false

/-- The open sequence of a side found unsealed (R161 step 2). -/
def FaceResult.unsealedSeq (r : FaceResult) : Option Nat := if r.unsealed then r.record.openSeq else none

/-- Whether a record is OPEN with an open sequence below `seq`, that of another side (R161 step 2, R162 step 2). -/
def yields (r : SideRecord) (seq : Option Nat) : Bool :=
  match seq with
  | some n => r.state == .opened && decide (r.openSeq.getD 0 < n)
  | none => false

/-- A record after the conflict of OPEN sides with a side of open sequence `seq` (R161 step 2). -/
def settleOpen (r : SideRecord) (seq : Option Nat) : SideRecord := if yields r seq then r.ended else r

/-- Whether the map's OPEN side yields to a face of the cartridge being enrolled (R161 step 2). -/
def Core.openYields (c : Core) (a b : FaceResult) : Bool :=
  match c.openSide with
  | some p => yields p.2 a.unsealedSeq || yields p.2 b.unsealedSeq
  | none => false

/-- The map's OPEN side has yielded to a rebuilt one (R161 step 2): it becomes SUSPECT with what stands on its platter, as at the
loss of its buffer (R6, R194; notes/assumptions/54.md), and the filing flag of its drive clears. The buffer stays as it is
(R162 step 3). -/
def Core.demoteOpen (c : Core) : Core :=
  match c.openSide with
  | some (sd, _) =>
    { c.onSide sd (·.ended) with
      drives := c.drives.map (fun x => if x.loaded = some sd then { x with filingFlag := false } else x) }
  | none => c

/-- The record of a face of a cartridge being enrolled, settled against its other face, the map's OPEN side and the sides that the
inventory has rebuilt unsealed (R161 step 2, R162 step 2; notes/assumptions/67.md). -/
def Core.settledRecord (c : Core) (r : SideRecord) (other : FaceResult) : SideRecord :=
  [other.unsealedSeq, c.openSide.bind (·.2.openSeq), c.inventory.bind (·.unsealedSeq)].foldl settleOpen r

/-- Two OPEN faces of one cartridge with equal open sequences: face B yields (notes/assumptions/32.md). -/
def breakTie (b a : SideRecord) : SideRecord :=
  if b.state = .opened ∧ a.state = .opened ∧ b.openSeq = a.openSeq then b.ended else b

/-- The OPEN side of a cartridge being enrolled, if it has one. -/
def openFace (v : SlotId) (a b : SideRecord) : Option Side :=
  if a.state = .opened then some ⟨v, .a⟩ else if b.state = .opened then some ⟨v, .b⟩ else none

/-- The higher of two open sequences, either of which may be absent. -/
def higherSeq (x y : Option Nat) : Option Nat :=
  match x, y with
  | some a, some b => some (max a b)
  | none, z => z
  | z, none => z

/-- A cartridge is enrolled into a slot with the records rebuilt from its faces (R159, R160). Where the map's OPEN side yields to
one of them, or one of them is left OPEN, the engine lets go of its side. -/
def enrolRebuilt (e : Fixed) (c : Core) (d : DriveId) (v : SlotId) (a b : FaceResult) : Core :=
  let ra := c.settledRecord a.record b
  let rb := c.settledRecord (breakTie b.record a.record) a
  let label := (cartridgeLabel a b).getD (blankLabel v)
  let c0 := if (openFace v ra rb).isSome || c.openYields a b then engineLetGo e c else c
  let c1 := if c.openYields a b then c0.demoteOpen else c0
  let c2 := c1.setVol v (some { label := some label, loc := .unknown, sideA := ra, sideB := rb })
  ((c2.place d v).evalSuspect).onInventory (fun i =>
    { i with
      assigned := v :: i.assigned
      rebuiltOpen := (openFace v ra rb).orElse (fun _ => i.rebuiltOpen)
      unsealedSeq := higherSeq i.unsealedSeq (higherSeq a.unsealedSeq b.unsealedSeq)
      counts := { i.counts with enrolled := i.counts.enrolled + 1 } })

/-- The inventory has done with the cartridge it was reading. -/
def Core.endReading (c : Core) : Core := c.onInventory (fun i => { i with reading := none })

/-- The cartridge is set into the mailslot as FOREIGN (R154, R159, R160). -/
def Core.setOut (c : Core) (d : DriveId) : Core :=
  (c.onReading (fun r => { r with phase := .settingOut })).beginUnload d

/-- A cartridge kept by inventory goes home or stays loaded by the rule of R154 (R160). -/
def inventoryCourse (e : Fixed) (c : Core) (d : DriveId) (v : SlotId) : Core :=
  if c.stays v then (c.unbindReady e d .inventory).endReading
  else (c.onReading (fun r => { r with phase := .goingHome v })).beginUnload d

/-- A volume of a lost record is placed where its cartridge stands (R159, R160). -/
def Core.placeLost (c : Core) (d : DriveId) (v : SlotId) : Core :=
  (c.place d v).onInventory (fun i => { i with counts := { i.counts with placed := i.counts.placed + 1 } })

/-- The slot a rebuildable cartridge found in a drive is enrolled into (R159). -/
def Core.slotForDrive (c : Core) (i : Inventory) : Option SlotId :=
  allSlots.find? (fun v =>
    i.probes[v] == .empty && (c.unsettled v || c.vacant v) && !i.assigned.contains v)

/-- The judgement of a cartridge found in a drive (R159). -/
def judgeDrive (e : Fixed) (c : Core) (i : Inventory) (d : DriveId) (a b : FaceResult) : Core :=
  match c.matchingLost a b with
  | some v => ((c.placeLost d v).unbindReady e d .inventory).endReading
  | none =>
    if c.labelInUse (cartridgeLabel a b) || c.collides a.record || c.collides b.record then c.setOut d
    else match c.slotForDrive i with
      | some v => ((enrolRebuilt e c d v a b).unbindReady e d .inventory).endReading
      | none => c.setOut d

/-- A volume whose cartridge is not in the cabinet becomes OUT, counted (R160). -/
def Core.makeOut (c : Core) (v : SlotId) : Core :=
  (c.setLoc v .out).onInventory (fun i => { i with counts := { i.counts with madeOut := i.counts.madeOut + 1 } })

/-- An unsettled record becomes vacant, counted (R160). -/
def Core.settleVacant (c : Core) (v : SlotId) : Core :=
  if c.unsettled v then
    (c.makeVacant v).onInventory (fun i =>
      { i with counts := { i.counts with madeVacant := i.counts.madeVacant + 1 } })
  else c

/-- The judgement of a cartridge found in slot `v` by its slot's record (R160). -/
def judgeSlot (e : Fixed) (c : Core) (d : DriveId) (v : SlotId) (a b : FaceResult) : Core :=
  if c.lostRecord v then
    match c.vol v with
    | some x =>
      if agrees x .a a.header && agrees x .b b.header then inventoryCourse e (c.placeLost d v) d v
      else (c.makeOut v).setOut d
    | none => c
  else if c.unsettled v || c.vacant v then
    if c.labelInUse (cartridgeLabel a b) || c.collides a.record || c.collides b.record then
      (c.settleVacant v).setOut d
    else inventoryCourse e (enrolRebuilt e c d v a b) d v
  else c.setOut d

/-- Both faces of a cartridge have been read: it is judged (R159, R160). -/
def judgeCartridge (e : Fixed) (c : Core) (i : Inventory) (rd : Reading) (d : DriveId) (a b : FaceResult) : Core :=
  match rd.slot with
  | some v => judgeSlot e c d v a b
  | none => judgeDrive e c i d a b

/-! ### Inventory: the operations of a face (R161) -/

/-- The operation of a scan's step is issued (R161). -/
def Core.issueScan (c : Core) (d : DriveId) (s : Scan) : Core :=
  let c1 := c.onReading (fun r => { r with phase := .scanning, scan := s })
  match s.step with
  | .header => c1.issue d (.read 0 1) .inventoryRead
  | .sealSector => c1.issue d (.read 1 1) .inventoryRead
  | .writePointer => c1.issue d (.findBlank Config.dataStart (Config.dataLimit - 1)) .inventoryFind
  | .findA => c1.issue d (.findBlank Config.directoryA Config.directoryALast) .inventoryFind
  | .findB => c1.issue d (.findBlank Config.directoryB Config.directoryBLast) .inventoryFind
  | .directory =>
    c1.issue d (.read ((if s.copyB then Config.directoryB else Config.directoryA) + s.sector) 1) .inventoryRead

/-- A face has been read: the cartridge is turned for the other, or judged (R159, R160). -/
def faceDone (e : Fixed) (c : Core) (i : Inventory) (rd : Reading) (d : DriveId) (s : Scan) : Core :=
  let f := (c.drv d).face
  let res : FaceResult := { header := s.header, record := s.record, unsealed := s.unsealed }
  let a := if f = .a then some res else rd.faceA
  let b := if f = .b then some res else rd.faceB
  let c1 := c.onReading (fun r => { r with faceA := a, faceB := b, scan := s })
  match a, b with
  | some ra, some rb => judgeCartridge e c1 i rd d ra rb
  | _, _ => (c1.onReading (fun r => { r with phase := .turning })).beginUnload d

/-- The next directory sector of a scan, or the end of the face (R161 step 4). -/
def scanNext (e : Fixed) (c : Core) (i : Inventory) (rd : Reading) (d : DriveId) (s : Scan) : Core :=
  if s.sector < s.flushed then c.issueScan d { s with step := .directory, copyB := false }
  else faceDone e c i rd d s

/-- A header read of inventory: what it gives, and the face it shows to be presented (R161). -/
def scanHeader (e : Fixed) (c : Core) (i : Inventory) (rd : Reading) (d : DriveId) (r : ReadResult) : Core :=
  let h := headerRead (c.drv d).presented r
  let f := match (c.drv d).presented, h with
    | some f, _ => f
    | none, .header hd => hd.face
    | none, _ => .a
  let c1 := c.onDrive d (fun x => { x with presented := some f })
  match h with
  | .blank => faceDone e c1 i rd d { Scan.fresh with header := .blank }
  | .unreadable => c1.issueScan d { Scan.fresh with step := .writePointer, header := .unreadable }
  | .header hd => c1.issueScan d { Scan.fresh with step := .sealSector, header := .header hd }

/-- A directory sector has been read, or can be read in neither copy (R161 step 4). -/
def scanSector (e : Fixed) (c : Core) (i : Inventory) (rd : Reading) (d : DriveId) (r : ReadResult) : Core :=
  let s := rd.scan
  match r with
  | .good data =>
    let es := entriesOf data
    scanNext e c i rd d
      { s with sector := s.sector + 1, lastEntries := es.length, sum := s.sum + (es.map (fun x => sectorsOf x.size)).sum }
  | _ =>
    if s.copyB then
      scanNext e c i rd d
        { s with sector := s.sector + 1, lastEntries := Config.entriesPerSector, badSector := true }
    else c.issueScan d { s with copyB := true }

/-- A READ of inventory completes (R161). -/
def inventoryRead (e : Fixed) (c : Core) (i : Inventory) (rd : Reading) (d : DriveId) (r : ReadResult) : Option Core :=
  match rd.scan.step with
  | .header => some (scanHeader e c i rd d r)
  | .sealSector => some (c.issueScan d { rd.scan with step := .writePointer, sealRead := sealRead r })
  | .directory => some (scanSector e c i rd d r)
  | _ => none

/-- The first unwritten position within a copy that a FIND BLANK gives, or 512 at NONE (R161 step 4). -/
def positionIn (base : Nat) (f : FindResult) : Nat :=
  match f with
  | .good s => s - base
  | .none => Config.directorySectors

/-- A FIND BLANK of inventory completes (R161 steps 3 and 4). A face whose header is unreadable ends with its write pointer: step 1
has given it flushed 0 and entry count 0, and no FIND BLANK over the directory copies is issued (DESIGN CHOICE,
notes/assumptions/93.md). -/
def inventoryFind (e : Fixed) (c : Core) (i : Inventory) (rd : Reading) (d : DriveId) (f : FindResult) : Option Core :=
  let s := rd.scan
  match s.step with
  | .writePointer =>
    let s' := { s with writePtr := match f with | .good x => x | .none => Config.dataLimit }
    some (if s.header = .unreadable then faceDone e c i rd d s' else c.issueScan d { s' with step := .findA })
  | .findA => some (c.issueScan d { s with step := .findB, flushedA := positionIn Config.directoryA f })
  | .findB =>
    some (scanNext e c i rd d { s with flushed := max s.flushedA (positionIn Config.directoryB f), sector := 0 })
  | _ => none

/-! ### The course of an inventory (R159, R160) -/

/-- Whether a probe move is pending or under way. -/
def Core.probeOut (c : Core) : Bool :=
  let isProbe (m : Move) : Bool := match m.serves with
    | .inventoryProbe _ => true
    | _ => false
  c.moves.any isProbe ||
    match c.picker.motion with
    | some (.move m) => isProbe m
    | some (.recovery m _) => isProbe m
    | _ => false

/-- The probe table takes the result of a probe of slot `v` (R159). -/
def Core.recordProbe (c : Core) (v : SlotId) (occupied : Bool) : Core :=
  c.onInventory (fun i => { i with probes := i.probes.set v (if occupied then .occupied else .empty) })

/-- The link that orders an inventory's moves (R158). -/
def Inventory.link (i : Inventory) : Option LinkId := i.by_.map (·.link)

/-- A cartridge to read, its drive known or not yet. -/
def Reading.begin (slot : Option SlotId) (drive : Option DriveId) (phase : ReadingPhase) : Reading :=
  { slot, drive, phase, scan := .fresh, faceA := none, faceB := none }

/-- A drive is bound to the inventory and its own cartridge spun up (R159). The drive shows LOADING, as at the load of R150, though no
move has set its cartridge in (DESIGN CHOICE, notes/assumptions/94.md). -/
def Core.inventoryLoad (c : Core) (d : DriveId) : Core :=
  (c.onDrive d (fun x => { x with bound := some .inventory, idle := none })).beginLoad d

/-- The first phase: the next probe, or the second phase (R159). -/
def probeStep (c : Core) (i : Inventory) : Option Core :=
  if c.probeOut then none
  else match allSlots.find? (fun v =>
      i.probes[v] == .unprobed && (c.unsettled v || c.lostRecord v || c.vacant v)) with
    | some v => some (c.joinMove (.slot v) (.fixed (.slot v)) 4 i.link (.inventoryProbe v) none)
    | none => some (c.onInventory (fun i => { i with phase := .drives }))

/-- The second phase: the next drive with an unnamed cartridge, or the third phase (R159). It waits at such a drive that is FAULTED
(DESIGN CHOICE, notes/assumptions/74.md). -/
def driveStep (c : Core) : Option Core :=
  match c.findDrive (fun _ x => x.unnamed) with
  | some d =>
    let x := c.drv d
    if x.state = .faulted ∨ x.bound.isSome ∨ x.op.isSome then none
    else some ((c.onInventory (fun i => { i with reading := some (.begin none (some d) .loading) })).inventoryLoad d)
  | none => some (c.onInventory (fun i => { i with phase := .slots }))

/-- A slot that the probe table shows EMPTY is settled without a move (R160). -/
def Core.settleEmpty (c : Core) (v : SlotId) : Core :=
  if c.unsettled v then c.settleVacant v else if c.lostRecord v then c.makeOut v else c

/-- The third phase: the next slot (R160). While the emergency stop stands the mount of a slot's cartridge is kept waiting
(R30). The EMPTY slots are settled in the same pass as the OCCUPIED ones, between their readings (DESIGN CHOICE,
notes/assumptions/87.md). -/
def slotStep (e : Fixed) (c : Core) (i : Inventory) (v : SlotId) : Option Core :=
  let c1 := c.onInventory (fun i => { i with cursor := i.cursor + 1 })
  if i.assigned.contains v then some c1
  else match i.probes[v] with
    | .unprobed => some c1
    | .empty => some (c1.settleEmpty v)
    | .occupied =>
      if e.panel.stop then none
      else some ((c1.onInventory (fun i => { i with reading := some (.begin (some v) none .mounting) })).newMount
        (.slotCartridge v) [] 4 0 (.slot v) (.anyDrive .a) i.link none)

/-- A cartridge whose drive faulted is read again once CLEAR FAULT has left it ejected and unnamed (R161), and judged again, one that
had been judged and was being set out too (DESIGN CHOICE, notes/assumptions/95.md). -/
def readAgain (c : Core) (rd : Reading) : Option Core :=
  match rd.phase, rd.drive with
  | .awaitingClear, some d =>
    let x := c.drv d
    if x.state = .empty ∧ x.unnamed ∧ x.op = none ∧ x.bound = none then
      some ((c.onReading (fun r => { r with phase := .loading, scan := .fresh, faceA := none, faceB := none })).inventoryLoad
        d)
    else none
  | _, _ => none

/-! ### The end of an inventory (R162) -/

/-- A side with an unreadable header receives an open sequence (R162 step 1). -/
def Core.giveSeq (c : Core) (sd : Side) : Core :=
  match c.sideRecord sd with
  | some r =>
    if r.state ≠ .blank ∧ r.openSeq = none then
      let n := c.highestSeq
      c.onSide sd (fun x => { x with
        openSeq := some (if n < Config.maxOpenSeq then n + 1 else Config.openSeqAfterLast) })
    else c
  | none => c

/-- The 128 sides in ascending side number. -/
def allSides : List Side := allSlots.flatMap (fun v => [⟨v, .a⟩, ⟨v, .b⟩])

/-- The buffer's entries are counted into the rebuilt OPEN side (R162 step 3). -/
def SideRecord.withBuffer (r : SideRecord) (buf : List DirEntry) : SideRecord :=
  let n := r.entryCount + buf.length
  let sum := (buf.map (·.sectors)).sum
  { r with
    entryCount := n
    lastRn := match r.firstRn with
      | some a => if n = 0 then none else some (a + n - 1)
      | none => none
    voidCount := voidLeft r.writePtr (r.committedSectors + sum)
    committedSectors := r.committedSectors + sum }

/-- The buffer is counted when the side left OPEN was rebuilt (R162 step 3). -/
def Core.countBuffer (c : Core) (i : Inventory) : Core :=
  match c.openSide with
  | some p => if i.rebuiltOpen = some p.1 ∧ c.dirbuf ≠ [] then c.onSide p.1 (·.withBuffer c.dirbuf) else c
  | none => c

/-- The third completion of R192, at the end of an inventory that follows a VOLUMES loss: a head that the rebuilt OPEN side
already holds is removed. -/
def Core.dropCommittedHead (c : Core) : Core :=
  match c.openSide, c.pendingList with
  | some q, p :: ps =>
    match q.2.lastRn with
    | some b => if p.rn ≤ b then { c with pendingList := ps, blockMap := freeBlocks c.blockMap (p.blocks.getD []) } else c
    | none => c
  | _, _ => c

/-- The inventory ends, in one event (R162). The head is looked at again where it follows a VOLUMES loss (R192). -/
def endInventory (e : Fixed) (c : Core) (i : Inventory) : Core :=
  let c1 := (allSides.foldl Core.giveSeq c).countBuffer i
  let c2 := if i.afterLoss then c1.dropCommittedHead else c1
  let c3 := wakeJobs e { c2 with rebuilding := false, inventory := none }
  let c4 := c3.evalSuspect
  let c5 := if c4.openSide.isSome then c4.clearAlarm .noBlank else c4.reselect
  match i.by_ with
  | some o => c5.emit o.link (.done o.tag (.inventory i.counts))
  | none => c5

/-- The next thing an inventory does of itself (R159, R160, R162). -/
def inventoryStep (e : Fixed) (c : Core) : Option Core :=
  match c.inventory with
  | none => none
  | some i =>
    if c.startPhase ≠ .settled then none
    else match i.reading with
    | some rd => readAgain c rd
    | none =>
      match i.phase with
      | .probing => probeStep c i
      | .drives => driveStep c
      | .slots => if h : i.cursor < 64 then slotStep e c i ⟨i.cursor, h⟩ else some (endInventory e c i)

end Sys2Proof.Machine
end

