-- ==== Sys2Proof/Machine/Mechanism.lean ====
section
/-! DEFINITION. Drive and Picker Control at work: mount requests, the picker arbiter, the completions of moves and drive
operations, drive faults, picker recovery and the start of the mechanism (chapter 2). -/

namespace Sys2Proof.Machine

/-! ### Mount requests (R30, R35) -/

/-- How a mount request is acted on (R30). -/
inductive Answer where
  | ready (d : DriveId)
  | spinUp (d : DriveId)
  | join (arrival : Nat)
  | load
  | swap (d : DriveId) (f : Face)
  | offline
  /-- It waits for a cartridge, a drive or a spin-up. -/
  | wait
  /-- It is kept waiting by the stop or by the start of the mechanism. -/
  | kept
deriving DecidableEq, Repr

/-- A request that would create a mount operation or start a spin-up is kept while the stop stands (R30). -/
def unlessStop (e : Fixed) (a : Answer) : Answer := if e.panel.stop then .kept else a

/-- A request for a side loaded on the wanted face of drive `d` (R30, R35). A drive LOADING for a mount operation has been joined
before; under a service MOVE the request waits (DESIGN CHOICE, notes/assumptions/78.md). -/
def answerLoaded (e : Fixed) (x : Drive) (d : DriveId) : Answer :=
  match x.state with
  | .ready => if x.idleSpinDown || x.bound.isSome then .wait else .ready d
  | .spunDown => if x.bound.isNone && x.op.isNone then unlessStop e (.spinUp d) else .wait
  | _ => .wait

/-- A request for a side by the location of its volume (R30). -/
def answerAt (e : Fixed) (c : Core) (sd : Side) (loc : Location) : Answer :=
  match loc with
  | .home => unlessStop e .load
  | .inDrive d f =>
    let x := c.drv d
    if x.state = .faulted ∨ x.state = .unloading then .wait
    else if f = sd.face then answerLoaded e x d
    else unlessStop e (.swap d f)
  | .inPicker _ _ => .wait
  | _ => .offline

/-- How a mount request for a side is acted on (R30, R48). -/
def answer (e : Fixed) (c : Core) (sd : Side) : Answer :=
  if c.startPhase ≠ .settled then .kept
  else match c.location sd.slot with
    | none => .wait
    | some loc =>
      if loc.offline || c.exportMarked sd.slot then .offline
      else match c.mountFor sd with
        | some m => .join m.arrival
        | none => answerAt e c sd loc

/-- A requester is told that its side is READY, and takes its claim (R27, R60, R88). -/
def Core.grantSide (c : Core) (d : DriveId) (r : Requester) : Core :=
  match r with
  | .engine => (c.takeClaim d).onEngine (fun g => { g with claim := some d })
  | .job id => c.claimJob d id

/-- The state of a job whose request waits (R85). -/
def Core.setWaiting (c : Core) (r : Requester) (st : JobState) : Core :=
  match r with
  | .engine => c
  | .job id => c.onJob id (fun j => { j with state := st })

/-- The state a job shows for an answer that leaves its request waiting (R85). -/
def Answer.waitState : Answer → JobState
  | .kept => .queued
  | _ => .waitMount

/-- A request that cannot be taken because the volume is off-line: a job waits for the operator (R86). -/
def Core.refuseMount (c : Core) (q : MountRequest) : Core :=
  match q.who with
  | .engine => c
  | .job id => c.placeJob id q.side

/-- A request is acted on and leaves the waiting requests (R30). -/
def Core.act (c : Core) (q : MountRequest) (a : Answer) : Core :=
  let c1 := { c with requests := c.requests.erase q }
  let p := c.precedence q.who
  match a with
  | .ready d => c1.grantSide d q.who
  | .join n => (c1.joinMount n q.who).setWaiting q.who .waitMount
  | .load =>
    (c1.newMount (.side q.side) [q.who] p.1 p.2 (.slot q.side.slot) (.anyDrive q.side.face) none
      (some q.side.slot)).setWaiting q.who .waitMount
  | .swap d f =>
    (c1.newMount (.side q.side) [q.who] p.1 p.2 (.drive d f) (.fixed (.drive d q.side.face)) none
      (some q.side.slot)).setWaiting q.who .waitMount
  | .offline => c1.refuseMount q
  | _ => c1

/-- A spin-up is started; the request goes on waiting for it (R35). -/
def Core.beginSpinUp (c : Core) (d : DriveId) : Core :=
  (c.onDrive d (fun x => { x with state := .spinningUp })).issue d (.loadSpinUp false) .mechanism

/-- Whether a waiting requester's job shows another state than `st`. -/
def Core.jobShows (c : Core) (r : Requester) (st : JobState) : Bool :=
  match r with
  | .engine => true
  | .job id => (c.job id).map (·.state) == some st

/-- One waiting request acted on, absent when it goes on waiting unchanged (R30). -/
def serveRequest (e : Fixed) (c : Core) (q : MountRequest) : Option Core :=
  match answer e c q.side with
  | .spinUp d => some ((c.beginSpinUp d).setWaiting q.who .waitMount)
  | .wait => if c.jobShows q.who .waitMount then none else some (c.setWaiting q.who .waitMount)
  | .kept => if c.jobShows q.who .queued then none else some (c.setWaiting q.who .queued)
  | a => some (c.act q a)

/-- The first waiting request that can be acted on (R30), in the order in which they were made (DESIGN CHOICE,
notes/assumptions/77.md). -/
def requestStep (e : Fixed) (c : Core) : Option Core := c.requests.findSome? (serveRequest e c)

/-! ### Mount operations whose cartridge has gone elsewhere -/

/-- The operation's requesters become waiting requests again, to be acted on anew (R25, R30). -/
def Core.dissolveMount (c : Core) (m : MountOp) : Core :=
  let c1 := (c.dropMount m.arrival).dropMountMove m.arrival
  match m.target with
  | .side sd => { c1 with requests := c1.requests ++ m.requesters.map (fun r => { who := r, side := sd }) }
  | _ => c1

/-- The move an operation for a side needs by the location of its volume (R30). -/
def planFor (sd : Side) (loc : Location) : Option (Position × Dest) :=
  match loc with
  | .home => some (.slot sd.slot, .anyDrive sd.face)
  | .inDrive d f => if f = sd.face then none else some (.drive d f, .fixed (.drive d sd.face))
  | _ => none

/-- The pending move of a mount operation. -/
def Core.mountMove (c : Core) (arrival : Nat) : Option Move := c.moves.find? (fun m => m.serves == .mount arrival)

/-- Whether an unbound operation no longer finds its cartridge at its move's source, and the cartridge stands somewhere it
can be fetched or is loaded as wanted. -/
def Core.astray (c : Core) (m : MountOp) (sd : Side) : Bool :=
  match c.mountMove m.arrival, c.location sd.slot with
  | some mv, some loc =>
    match loc with
    | .inPicker _ _ => false
    | .inDrive d _ => mv.src.location != loc && (c.drv d).state != .unloading && (c.drv d).state != .faulted
    | _ => mv.src.location != loc
  | _, _ => false

/-- An operation whose cartridge has gone elsewhere is planned anew, keeping its class, priority and arrival number, or
gives its requesters back when no move is needed (R30; notes/assumptions/31.md). -/
def Core.replan (c : Core) (m : MountOp) (sd : Side) : Core :=
  let c1 := match m.drive with
    | some d => c.emptyDrive d
    | none => c
  match (c1.location sd.slot).bind (planFor sd) with
  | some (src, dst) =>
    (c1.onMountMove m.arrival (fun mv => { mv with src, dst })).onMount m.arrival
      (fun x => { x with drive := none, step := .waiting })
  | none => c1.dissolveMount m

/-- The first mount operation to be planned anew. -/
def replanStep (c : Core) : Option Core :=
  (c.mounts.find? (fun m =>
    match m.target with
    | .side sd => (m.step == .waiting || m.step == .moveReady) && c.astray m sd
    | _ => false)).bind (fun m =>
    match m.target with
    | .side sd => some (c.replan m sd)
    | _ => none)

/-! ### Heads of the service orders (R89, R90) -/

/-- The head of a drive's service order begins to read, or reads its entry (R89, R90). -/
def headStep (e : Fixed) (c : Core) (d : DriveId) : Option Core :=
  if (c.drv d).usable then
    match c.head d with
    | some j =>
      match j.state with
      | .waitDrive => if c.mayRead d then some (c.onJob j.id (fun k => { k with state := .readingDirectory })) else none
      | .readingDirectory => some (readEntry e c d j)
      | _ => none
    | none => none
  else none

/-- The first drive whose head can go on. -/
def headsStep (e : Fixed) (c : Core) : Option Core := Four.indices.findSome? (headStep e c)

/-! ### The picker arbiter (R31, R34, R37, R38) -/

/-- Whether a drive can be bound to a load as it stands (R31 step 1). -/
def Drive.free (x : Drive) : Bool := x.state == .empty && !x.unnamed && x.bound.isNone && x.op.isNone

/-- Whether a drive holds the filing side while the pending list is not empty (R31, R34). -/
def Core.filingBusy (c : Core) (x : Drive) : Bool := x.filingFlag && !c.pendingList.isEmpty

/-- Whether a drive is evictable (R31 step 2). -/
def Core.evictable (c : Core) (x : Drive) : Bool :=
  x.claims == 0 && x.bound.isNone && x.quiet && !x.unnamed && (x.state == .ready || x.state == .spunDown)
    && !c.filingBusy x &&
    match x.loaded with
    | some sd => !c.heldForOpening sd.slot
    | none => false

/-- The evictable drive of oldest last-use time, the lower-numbered of equals (R31 step 2). -/
def Core.evictionChoice (c : Core) : Option DriveId :=
  (Four.indices.filter (fun d => c.evictable (c.drv d))).foldl (fun best d =>
    match best with
    | none => some d
    | some b => if (c.drv d).lastUse < (c.drv b).lastUse then some d else some b) none

/-- Whether a drive may be bound to a face swap (R34). -/
def Core.swappable (c : Core) (x : Drive) : Bool :=
  x.claims == 0 && (x.state == .ready || x.state == .spunDown) && x.bound.isNone && x.quiet && !c.filingBusy x

/-- Whether the mailslot holds a cartridge that an IMPORT can take (R146, R148). -/
def Mailslot.holds : Mailslot → Bool
  | .inserted | .volume _ => true
  | _ => false

/-- Whether the source of a move holds its cartridge (R37). An identification takes what lies in the mailslot, which the end of a
start may have settled as a volume since the IMPORT was accepted (R146; notes/assumptions/68.md). -/
def Core.sourceHolds (c : Core) (m : Move) : Bool :=
  match m.carries, m.src with
  | some v, src => c.location v == some src.location && (src != .mailslot || c.mailslot == .volume v)
  | none, .drive d _ => (c.drv d).unnamed
  | none, .mailslot => c.mailslot.holds
  | none, .slot _ => true

/-- Whether a home slot is a free destination (R37): its own cartridge is not there, and no other cartridge that inventory
has found in it and not yet settled is (notes/assumptions/33.md). -/
def Core.slotFree (c : Core) (v : SlotId) : Bool :=
  c.location v != some .home &&
    match c.inventory with
    | some i =>
      let fetching := match i.reading with
        | some rd => rd.slot == some v && rd.phase == .mounting
        | none => false
      !(i.probes[v] == .occupied && !i.assigned.contains v && (decide (i.cursor ≤ v.val) || fetching))
    | none => true

/-- Whether the destination of a move is free (R37, R146). -/
def destinationFree (e : Fixed) (c : Core) (m : Move) (p : Position) : Bool :=
  match p with
  | .slot v => c.slotFree v
  | .mailslot => mailslotFree e c
  | .drive d _ =>
    match m.src with
    | .drive s _ => s == d
    | _ => !(c.drv d).holdsCartridge

/-- Whether a move touches the mailslot. -/
def Move.viaMailslot (m : Move) : Bool := m.src == .mailslot || m.dst == .fixed .mailslot

/-- Whether a move is a probe of inventory, whose source and destination are one slot (R159). -/
def Move.isProbe (m : Move) : Bool :=
  match m.serves with
  | .inventoryProbe _ => true
  | _ => false

/-- Whether a load or swap move of a mount operation can be chosen at its operation's step (R31, R34, R37). -/
def Core.stepAllows (c : Core) (m : Move) : Bool :=
  match m.serves with
  | .mount n =>
    match c.mount n with
    | some op =>
      match op.step with
      | .moveReady => true
      | .waiting =>
        match m.dst, m.src with
        | .anyDrive _, _ => (c.findDrive (fun _ x => x.free)).isSome || (c.evictionChoice).isSome
        | .fixed _, .drive d _ => c.swappable (c.drv d)
        | _, _ => false
      | _ => false
    | none => false
  | _ => true

/-- Whether the hold permits a move (R37, R38). -/
def Hold.permits (h : Hold) (m : Move) : Bool :=
  match h with
  | .none => true
  | .waiting _ => false
  | .granted l => m.orderedBy == some l

/-- Whether a pending move is startable (R37). A move into or out of the mailslot waits until the end of a start has settled the
mailslot's content (R146; notes/assumptions/68.md). -/
def startable (e : Fixed) (c : Core) (m : Move) : Bool :=
  c.hold.permits m && c.stepAllows m && (!m.viaMailslot || (!e.panel.level.mailslotDoor && c.startPhase == .settled)) &&
    (m.isProbe || (c.sourceHolds m &&
      match m.dst with
      | .anyDrive _ => true
      | .fixed p => destinationFree e c m p))

/-- Whether a move goes before another: class, then priority, then the lower arrival number (R37). -/
def Move.before (x y : Move) : Bool :=
  if x.cls ≠ y.cls then y.cls < x.cls
  else if x.prio ≠ y.prio then y.prio < x.prio
  else x.arrival < y.arrival

/-- The startable move of highest precedence (R37). -/
def chooseMove (e : Fixed) (c : Core) : Option Move :=
  (c.moves.filter (startable e c)).foldl (fun best m =>
    match best with
    | none => some m
    | some b => if m.before b then some m else some b) none

/-- A move is started toward a chosen destination (R37): it leaves the set, and the picker is MOVING. -/
def Core.startMove (c : Core) (m : Move) (dst : Position) : Core :=
  let m' := { m with dst := .fixed dst }
  let c1 := ({ c with moves := c.moves.erase m }.depart m.src dst m.carries).beginMotion (.move m')
  match m.serves with
  | .mount n => c1.onMount n (fun op => { op with step := .moving })
  | _ => c1

/-- A load move takes an EMPTY drive and starts at once (R31 step 1). -/
def Core.bindFree (c : Core) (m : Move) (n : Nat) (d : DriveId) (f : Face) : Core :=
  (((c.onDrive d (fun x => { x with state := .loading, bound := some (.mount n) })).onMount n
    (fun op => { op with drive := some d })).startMove m (.drive d f))

/-- A load move binds an evictable drive, whose eviction begins (R31 step 2, R32). -/
def Core.bindEvict (c : Core) (m : Move) (n : Nat) (d : DriveId) (f : Face) : Core :=
  let c1 := ((c.onDrive d (fun x => { x with bound := some (.mount n) })).onMount n
    (fun op => { op with drive := some d, step := .evicting })).beginUnload d
  { c1 with moves := c1.moves.map (fun x => if x = m then { x with dst := .fixed (.drive d f) } else x) }

/-- A swap binds its drive and begins to unload it (R34). -/
def Core.bindSwap (c : Core) (n : Nat) (d : DriveId) : Core :=
  ((c.onDrive d (fun x => { x with bound := some (.mount n) })).onMount n
    (fun op => { op with drive := some d, step := .swapping })).beginUnload d

/-- The move chosen is started, or binds its drive (R31, R34, R37). -/
def Core.take (c : Core) (m : Move) : Core :=
  match m.serves, m.dst, m.src with
  | .mount n, .anyDrive f, _ =>
    match c.findDrive (fun _ x => x.free), c.evictionChoice with
    | some d, _ => c.bindFree m n d f
    | none, some d => c.bindEvict m n d f
    | none, none => c
  | .mount n, .fixed p, .drive d _ =>
    if (c.mount n).map (·.step) = some .waiting then c.bindSwap n d else c.startMove m p
  | _, .fixed p, _ => c.startMove m p
  | _, _, _ => c

/-- The arbiter chooses whenever the picker is IDLE and the gate permits starting (R37, R38). -/
def arbiterStep (e : Fixed) (c : Core) : Option Core :=
  if c.picker.state = .idle ∧ gateOpen e then (chooseMove e c).map c.take else none

/-! ### The start of the mechanism (R48, R158, R197 step 8) -/

/-- Whether the probe of every drive has ended (R48). -/
def Core.probesEnded (c : Core) : Bool := c.drives.toList.all (fun x => x.probe == .ended)

/-- The start of the mechanism ends: the volume table is settled, SIDE_SUSPECT evaluated, the mailslot content settled, and
an inventory starts where one is called for (R13, R20, R146, R158), beside an IMPORT or EXPORT accepted before, and not where
INVENTORY has started one (DESIGN CHOICE, notes/assumptions/73.md). -/
def startStep (e : Fixed) (c : Core) : Option Core :=
  if c.startPhase = .probing ∧ c.probesEnded then
    let c1 := { c with startPhase := .settled }.evalSuspect
    let c2 := { c1 with mailslot := settledMailslot e.panel.level.cartridgePresent c1 }
    some (if c2.inventoryDue ∧ c2.inventory = none then c2.startInventory none else c2)
  else none

/-- Some job is to be placed or resolved again (R86, R87). -/
def wakeStep (e : Fixed) (c : Core) : Option Core := if c.queue.any c.wakes then some (wakeJobs e c) else none

/-- NO_BLANK's selection finds a side (R18). It is looked for whenever a side may have become eligible, so also where an export
that ends FAULTED takes its mark away with no change of a location (R157), which R18's list does not name (DESIGN CHOICE,
notes/assumptions/63.md). -/
def reselectStep (c : Core) : Option Core :=
  if c.alarms.contains .noBlank && c.openSide.isNone && c.selectSide.isSome then some c.reselect else none

/-! ### The work that follows an event -/

/-- The next thing the blocks do of themselves in the event taken, if any; the order among independent things is
notes/assumptions/8.md. -/
def settleStep (e : Fixed) (c : Core) : Option Core :=
  (startStep e c).orElse fun _ => (wakeStep e c).orElse fun _ => (replanStep c).orElse fun _ =>
  (reselectStep c).orElse fun _ => (importStep e c).orElse fun _ => (exportStep c).orElse fun _ =>
  (requestStep e c).orElse fun _ => (headsStep e c).orElse fun _ => (engineStep e c).orElse fun _ =>
  (inventoryStep e c).orElse fun _ => arbiterStep e c

/-- Everything the blocks do of themselves in the event taken, at most `fuel` things. -/
def settle (fuel : Nat) (e : Fixed) (c : Core) : Core :=
  match fuel with
  | 0 => c
  | n + 1 =>
    match settleStep e c with
    | some c' => settle n e c'
    | none => c

/-- More than any event brings about (notes/assumptions/8.md). -/
@[irreducible] def settleFuel : Nat := 65536

/-! ### Drive faults (R25) -/

/-- Each job that holds a claim on the drive ends (R25, R99, R110), in the order of acceptance, the manual giving none
(DESIGN CHOICE, notes/assumptions/61.md). -/
def faultJobs (e : Fixed) (c : Core) (d : DriveId) : Core :=
  (c.queue.filter (fun j => j.drive == some d)).foldl (fun c j => endFaulted e c j) c

/-- A mount operation bound to the faulted drive gives it up (R25): its move is again one whose drive is not yet chosen. A
swap's move that is still pending stays pending, and waits with its requesters for CLEAR FAULT to release the cartridge; where
the cartridge wanted has been set into the faulted drive, the requesters wait for that release. -/
def Core.giveUpMount (c : Core) (d : DriveId) (n : Nat) : Core :=
  match c.mount n with
  | some op =>
    match op.target, op.step with
    | .side sd, .evicting =>
      (c.onMountMove n (fun m => { m with dst := .anyDrive sd.face })).onMount n
        (fun x => { x with drive := none, step := .waiting })
    | .side _, .swapping => c.onMount n (fun x => { x with drive := none, step := .waiting })
    | .side sd, _ => if (c.location sd.slot).any (fun l => l == .inDrive d .a || l == .inDrive d .b)
        then c.dissolveMount op else c
    | _, .evicting =>
      (c.onMountMove n (fun m => { m with dst := .anyDrive .a })).onMount n
        (fun x => { x with drive := none, step := .waiting })
    | _, _ => c
  | none => c

/-- The inventory's cartridge stands in the faulted drive (R161): inventory waits for CLEAR FAULT, at a second failure of LOAD+SPIN UP
as at a TIMEOUT. Of a fault after the judgement R161 says nothing: with a volume on its way home inventory has done, and goes on
without waiting; for a cartridge being set out it waits, reads it again and judges it again (DESIGN CHOICE,
notes/assumptions/95.md). -/
def Core.faultReading (c : Core) : Core :=
  match c.inventory.bind (·.reading) with
  | some rd =>
    match rd.phase with
    | .goingHome _ => c.endReading
    | _ => c.onReading (fun r => { r with phase := .awaitingClear })
  | none => c

/-- What had taken the drive is told of the fault (R25, R45, R155, R157, R161). A service MOVE is answered FAULTED after a second
failure of its LOAD+SPIN UP as after a TIMEOUT (DESIGN CHOICE, notes/assumptions/89.md). -/
def Core.faultBinding (c : Core) (d : DriveId) : Core :=
  match (c.drv d).bound with
  | some (.mount n) => c.giveUpMount d n
  | some (.service m) => c.mediaDone m.by_ .faulted (some m.slot)
  | some .importing =>
    match c.importOp with
    | some op => { c with importOp := none }.mediaDone op.by_ .faulted none
    | none => c
  | some .exporting =>
    match c.exportOp with
    | some op => c.faultExport op
    | none => c
  | some .inventory => c.faultReading
  | none => c

/-- A drive becomes FAULTED and the claims on it are released (R25); `user` is the user of the operation that timed out, if one did.
The DONEs of the jobs and of what had taken the drive go before the notice of DRIVE_FAULT (DESIGN CHOICE,
notes/assumptions/83.md). -/
def driveFault (e : Fixed) (c : Core) (d : DriveId) (user : Option OpUser) : Core :=
  let c1 := c.onDrive d (fun x => { x with state := .faulted, idle := none, op := none })
  let c2 := engineFault e (faultJobs e c1 d) d user (c.engineWaitsOn d)
  let c3 := c2.faultBinding d
  let c4 := match (c.drv d).bound with
    | some b => c3.endBoundMount b
    | none => c3
  (c4.onDrive d (fun x => { x with service := [], claims := 0, bound := none })).setAlarm (.driveFault d)

/-! ### Start probes (R20, R48) -/

/-- The volume that a drive is said to hold, by its location (R20). -/
def Core.volumeIn (c : Core) (d : DriveId) : Option (SlotId × Face) :=
  (allSlots.findSome? (fun v =>
    match c.location v with
    | some (.inDrive k f) => if k = d then some (v, f) else none
    | _ => none))

/-- The volume said to be in a drive is not found there (R20). -/
def Core.unplace (c : Core) (d : DriveId) : Core :=
  match c.volumeIn d with
  | some (v, _) => c.setLoc v .unknown
  | none => c

/-- The probe of a drive ends (R48). -/
def Core.endProbe (c : Core) (d : DriveId) (st : DriveState) (unnamed : Bool) : Core :=
  c.onDrive d (fun x => { x with state := st, unnamed, probe := .ended })

/-- Whether a start probe's read of sector 0 agrees with a volume's record (R20). A GOOD read that is not a header matches no
volume, the side ended by a header fault included (R199, notes/assumptions/53.md). -/
def probeAgrees (x : Volume) (f : Face) (r : ReadResult) : Bool :=
  match r, headerRead (some f) r with
  | .good _, .header h => agrees x f (.header h)
  | .good _, _ => false
  | _, h => agrees x f h

/-- The probe's read of sector 0 is judged against the volume said to be in the drive (R20): the volume it confirms. -/
def Core.probeMatch (c : Core) (d : DriveId) (r : ReadResult) : Option Side :=
  match c.volumeIn d with
  | some (v, f) =>
    match c.vol v with
    | some x => if probeAgrees x f r then some ⟨v, f⟩ else none
    | none => none
  | none => none

/-- A start probe's read completes (R48): the match is recorded and SPIN DOWN issued. -/
def Core.probeRead (c : Core) (d : DriveId) (r : ReadResult) : Core :=
  let c1 := match c.probeMatch d r with
    | some sd => c.seat d sd
    | none =>
      let face := match headerRead none r with
        | .header h => some h.face
        | _ => none
      (c.unplace d).onDrive d (fun x => { x with loaded := none, unnamed := true, presented := face, filingFlag := false })
  (c1.onDrive d (fun x => { x with probe := .stopping })).issue d .spinDown .probe

/-- The cartridge that a drive's record names when its start probe faults: as the probe has recorded it, or else the volume
stored as in the drive, whose location stays as it was (R25), or an unnamed one (notes/assumptions/12.md). -/
def Core.nameProbed (c : Core) (d : DriveId) : Core :=
  if (c.drv d).holdsCartridge then c
  else match c.volumeIn d with
    | some (v, f) => c.seat d ⟨v, f⟩
    | none => c.onDrive d (fun x => { x with unnamed := true })

/-- A start probe's drive becomes FAULTED (R25, R48). -/
def Core.probeFault (c : Core) (d : DriveId) : Core :=
  ((c.nameProbed d).onDrive d (fun x =>
    { x with state := .faulted, op := none, idle := none, probe := .ended })).setAlarm (.driveFault d)

/-! ### Completions of drive operations -/

/-- The drive is READY for the requesters of its mount operation (R33 step 3). -/
def mountReady (e : Fixed) (c : Core) (d : DriveId) (n : Nat) : Core :=
  let rs := ((c.mount n).map (·.requesters)).getD []
  rs.foldl (fun c r => c.grantSide d r) (((c.dropMount n).makeReady d).startIdle e d)

/-- LOAD+SPIN UP completes GOOD (R33, R35, R45, R150, R159). -/
def loadGood (e : Fixed) (c : Core) (d : DriveId) : Core :=
  match (c.drv d).bound with
  | some (.mount n) => mountReady e c d n
  | some (.service m) => ((c.makeReady d).startIdle e d).mediaDone m.by_ .done (some m.slot)
  | some .importing =>
    let c1 := c.onDrive d (fun x => { x with state := .ready })
    match c.importOp.map ImportOp.phase with
    | some .turning => c1.importReadHeader d .readingB
    | _ => c1.importReadHeader d .readingA
  | some .inventory =>
    (c.onDrive d (fun x => { x with state := .ready })).issueScan d .fresh
  | _ => (c.makeReady d).startIdle e d

/-- LOAD+SPIN UP completes on a drive in its start probe (R48). At GOOD the drive is READY, as the READ of its sector 0 asks
(R24), and stays so until the probe's SPIN DOWN ends. -/
def probeLoad (c : Core) (d : DriveId) (r : LoadResult) (second : Bool) : Core :=
  match r with
  | .good => (c.onDrive d (fun x => { x with state := .ready, probe := .reading })).issue d (.read 0 1) .probe
  | .noMedia => (c.unplace d).endProbe d .empty false
  | .notReady => if second then c.probeFault d else c.issue d (.loadSpinUp true) .probe

/-- LOAD+SPIN UP completes (R33, R35). -/
def loadDone (e : Fixed) (c : Core) (d : DriveId) (r : LoadResult) (o : DriveOp) : Core :=
  let second := o.kind == .loadSpinUp true
  if o.user = .probe then probeLoad c d r second
  else match r with
    | .good => loadGood e c d
    | _ => if second then driveFault e c d none else c.issue d (.loadSpinUp true) .mechanism

/-- SPIN DOWN completes GOOD (R29, R32, R48). -/
def spinDownDone (c : Core) (d : DriveId) (o : DriveOp) : Core :=
  if o.user = .probe then c.endProbe d .spunDown (c.drv d).unnamed
  else if (c.drv d).state = .unloading then c.issue d .eject .mechanism
  else c.onDrive d (fun x => { x with state := .spunDown })

/-- The position of the cartridge in a drive, by the face presented. -/
def Core.positionOfDrive (c : Core) (d : DriveId) : Position := .drive d (c.drv d).face

/-- The other face of the cartridge in a drive, presented in the same drive (R150). -/
def Core.turned (c : Core) (d : DriveId) : Dest := .fixed (.drive d (otherFace (c.drv d).face))

/-- The link an eviction's return move is ordered by: that of the move it makes room for (notes/assumptions/34.md). -/
def Core.mountLink (c : Core) (n : Nat) : Option LinkId := (c.mountMove n).bind (·.orderedBy)

/-- The return move of an evicted volume joins the set (R32 step 3). -/
def Core.joinReturn (c : Core) (d : DriveId) (n : Nat) : Core :=
  match (c.drv d).loaded with
  | some sd =>
    { c with moves := c.moves ++
        [{ src := .drive d sd.face, dst := .fixed (.slot sd.slot), cls := 1, prio := 0, arrival := n,
           orderedBy := c.mountLink n, serves := .evict d, carries := some sd.slot }] }
  | none => c

/-- EJECT completes GOOD in a bound drive (R32, R34, R45, R150, R154, R157, R161). A move under the binding of an import
or an inventory carries its mount operation's arrival number, the move home or to the mailslot too (DEDUCED,
notes/assumptions/55.md). -/
def ejectBound (c : Core) (d : DriveId) (b : Binding) : Core :=
  let src := c.positionOfDrive d
  match b with
  | .mount n =>
    if (c.mount n).map (·.step) = some .swapping then c.onMount n (fun op => { op with step := .moveReady })
    else c.joinReturn d n
  | .service m => c.joinMove src (.fixed (.slot m.slot)) 4 (some m.by_.link) (.service m) (some m.slot)
  | .importing =>
    match c.importOp with
    | some op =>
      match op.phase with
      | .turning => c.joinBoundMove b src (c.turned d) (some op.by_.link) .importTurn none
      | .goingHome v _ => c.joinBoundMove b src (.fixed (.slot v)) (some op.by_.link) .importHome (some v)
      | .settingBack o => c.joinBoundMove b src (.fixed .mailslot) (some op.by_.link) (.importBack o) none
      | _ => c
    | none => c
  | .exporting =>
    match c.exportOp with
    | some op => c.joinMove src (.fixed .mailslot) 4 (some op.by_.link) .exportOut (some op.slot)
    | none => c
  | .inventory =>
    match c.inventory with
    | some i =>
      match i.reading.map Reading.phase with
      | some .turning => c.joinBoundMove b src (c.turned d) i.link .inventoryTurn none
      | some (.goingHome v) => c.joinBoundMove b src (.fixed (.slot v)) i.link .inventoryHome (some v)
      | some .settingOut => c.joinBoundMove b src (.fixed .mailslot) i.link .inventoryOut none
      | _ => c
    | none => c

/-- EJECT completes GOOD in a drive being cleared (R26 steps 2 and 4). -/
def ejectCleared (c : Core) (d : DriveId) (o : Orderer) : Core :=
  match (c.drv d).loaded with
  | some sd =>
    ((c.onDrive d (fun x => { x with state := .unloading })).clearAlarm (.driveFault d)).joinMove (.drive d sd.face)
      (.fixed (.slot sd.slot)) 4 (some o.link) (.clearReturn d) (some sd.slot)
  | none =>
    ((c.onDrive d (fun x => { x with state := .empty, clearing := none })).clearAlarm (.driveFault d)).mediaDone o
      .cleared none

/-- EJECT completes GOOD (R26, R32). -/
def ejectDone (c : Core) (d : DriveId) : Core :=
  let x := c.drv d
  match x.state, x.clearing, x.bound with
  | .faulted, some o, _ => ejectCleared c d o
  | _, _, some b => ejectBound c d b
  | _, _, none => c

/-- A drive operation ends TIMEOUT (R24, R25, R26 step 3, R48). -/
def operationTimeout (e : Fixed) (c : Core) (d : DriveId) (o : DriveOp) : Core :=
  if o.user = .probe then c.probeFault d
  else
    match (c.drv d).state, (c.drv d).clearing with
    | .faulted, some by_ =>
      (c.onDrive d (fun x => { x with op := none, clearing := none })).mediaDone by_ .faulted none
    | _, _ => driveFault e c d (some o.user)

/-! ### Completions of moves (R32 to R34, R39, R43, R44) -/

/-- A load or swap move of a mount operation is done (R33 step 2, R34, R150, R160). The mount operation of an import or of a
third phase inventory stands as long as the binding that follows (R150; notes/assumptions/55.md). -/
def mountMoveDone (c : Core) (n : Nat) (d : DriveId) : Core :=
  match c.mount n with
  | some op =>
    let c1 := c.onMount n (fun x => { x with step := .loading })
    match op.target with
    | .side _ => c1.beginLoad d
    | .importing =>
      ((c1.onDrive d (fun x => { x with bound := some .importing })).onImport (fun o => { o with drive := some d })).beginLoad d
    | .slotCartridge _ =>
      ((c1.onDrive d (fun x => { x with bound := some .inventory })).onReading
        (fun r => { r with drive := some d, phase := .loading })).beginLoad d
  | none => c

/-- The return move of an eviction is done: the drive is LOADING for its mount, whose move becomes startable (R32
step 5). -/
def evictDone (c : Core) (d : DriveId) : Core :=
  let c1 := c.onDrive d (fun x => { x with state := .loading })
  match (c.drv d).bound with
  | some (.mount n) => c1.onMount n (fun op => { op with step := .moveReady })
  | _ => c1

/-- A foreign or otherwise rejected cartridge stands in the mailslot (R146, R147, R154). -/
def Core.rejectInto (c : Core) (d : DriveId) (outcome : MediaOutcome) : Core :=
  let c1 := { c.emptyDrive d with mailslot := .rejected outcome }
  if outcome = .foreign then c1.setAlarm .foreignCartridge else c1

/-- The operation a move served continues from its DONE (R26, R32 to R34, R45, R149, R154, R157, R159, R160); `d` is the
drive at the move's source or destination, if one is. The ALARM and OPERATOR_NEEDED notices go before the operation's DONE (DESIGN
CHOICE, notes/assumptions/92.md). -/
def moveServed (e : Fixed) (c : Core) (m : Move) (d : Option DriveId) : Core :=
  match m.serves, d with
  | .mount n, some d => mountMoveDone c n d
  | .evict d, _ => evictDone c d
  | .service sv, some d =>
    if sv.toDrive then c.beginLoad d else (c.emptyDrive d).mediaDone sv.by_ .done (some sv.slot)
  | .clearReturn d, _ =>
    match (c.drv d).clearing with
    | some o => ((c.emptyDrive d).onDrive d (fun x => { x with clearing := none })).mediaDone o .cleared none
    | none => c.emptyDrive d
  | .importTurn, some d => c.beginLoad d
  | .importHome, some d =>
    let c1 := (c.endBoundMount .importing).emptyDrive d
    match c.importOp with
    | some op =>
      match op.phase with
      | .goingHome v outcome => { c1 with importOp := none }.mediaDone op.by_ outcome (some v)
      | _ => c1
    | none => c1
  | .importBack outcome, some d =>
    let c1 := (c.endBoundMount .importing).rejectInto d outcome
    match c.importOp with
    | some op => { c1 with importOp := none }.mediaDone op.by_ outcome none
    | none => c1
  | .importReturn, _ =>
    match c.importOp with
    | some op =>
      (({ c with importOp := none } |> wakeJobs e).reselect).mediaDone op.by_ .returned m.carries
    | none => c
  | .exportOut, d =>
    let c1 := match d with
      | some d => c.emptyDrive d
      | none => c
    match c.exportOp with
    | some op =>
      { c1 with exportOp := none, mailslot := .volume op.slot }.mediaDone op.by_ .exported (some op.slot)
    | none => c1
  | .inventoryTurn, some d => c.beginLoad d
  | .inventoryHome, some d => ((c.endBoundMount .inventory).emptyDrive d).endReading
  | .inventoryOut, some d =>
    ((c.endBoundMount .inventory).rejectInto d .foreign).onInventory (fun i =>
      { i with reading := none, counts := { i.counts with setAside := i.counts.setAside + 1 } })
  | _, _ => c

/-- The drive at an end of a move. -/
def driveOfMove (src dst : Position) : Option DriveId :=
  match src, dst with
  | .drive d _, _ => some d
  | _, .drive d _ => some d
  | _, _ => none

/-- A move completes DONE: the cartridge is at the destination, and the operation served continues (R3, R39). -/
def moveDone (e : Fixed) (c : Core) (m : Move) : Core :=
  match m.dst with
  | .fixed p => moveServed e (c.arrive p m.carries) m (driveOfMove m.src p)
  | .anyDrive _ => c

/-- The picker's motion fails or stalls (R39, R43, R47): the picker is FAULTED and holds the motion. The recovery's DONE goes
before that of a waiting hold (DESIGN CHOICE, notes/assumptions/69.md). -/
def Core.pickerFail (c : Core) (stalled : Bool) : Core :=
  let c1 := { c with picker := { c.picker with state := .faulted, stall := none, stalled, lateDone := false,
                                                  lateProbe := none } }
  (c1.setAlarm .pickerFault).recoveryDone .faulted |>.grantHold

/-- The gate halts a motion under way (R38, R43): its stall timer is suspended, a recovery's link is told, and a waiting hold
is granted, in this order (DESIGN CHOICE, notes/assumptions/69.md). -/
def Core.haltPicker (c : Core) : Core :=
  if c.picker.state = .moving then
    ({ c with picker := { c.picker with state := .halted } }.recoveryDone .failed).grantHold
  else c

/-- A move that a recovery has returned to its source is put back (R43). -/
def Core.putBack (c : Core) (m : Move) : Core :=
  let c1 := { c with moves := c.moves ++ [m] }
  match m.serves with
  | .mount n => c1.onMount n (fun op => { op with step := .moveReady })
  | _ => c1

/-- A service MOVE that CLEAR FAULT does not put back (R44): its link is sent DONE with outcome FAILED, before the
CLEAR FAULT's own DONE (DESIGN CHOICE, notes/assumptions/69.md). -/
def Core.failService (c : Core) (m : Move) (sv : ServiceMove) : Core :=
  let c1 := match m.src, m.dst with
    | .drive d _, _ => c.onDrive d (fun x => { x with state := .spunDown, bound := none })
    | _, .fixed (.drive d _) => c.emptyDrive d
    | _, _ => c
  c1.mediaDone sv.by_ .failed (some sv.slot)

/-- The recovery of a move ends with the cartridge at the move's source (R43, R44). The DONE of a service MOVE not put back goes
first, then that of the recovery, then that of a waiting hold (DESIGN CHOICE, notes/assumptions/69.md). -/
def Core.recovered (c : Core) (m : Move) : Core :=
  let c1 := match m.dst with
    | .fixed p => c.returnToSource m.src p m.carries
    | .anyDrive _ => c
  let c2 := match m.serves with
    | .service sv => if c.picker.clearing then c1.failService m sv else c1.putBack m
    | _ => c1.putBack m
  ((c2.recoveryDone .done).grantHold).pickerIdle

/-- The recovery motion that a held motion calls for (R43, R44, R47). -/
def recoveryOf : Motion → Motion
  | .move m => .recovery m false
  | .recovery m _ => .recovery m false
  | .emptyRehome => .emptyRehome
  | .start _ => .start .rehome

/-- A recovery motion begins (R43). -/
def Core.beginRecovery (c : Core) (o : Orderer) (clearing : Bool) (m : Motion) : Core :=
  let c1 := c.beginMotion (recoveryOf m)
  { c1 with picker := { c1.picker with by_ := some o, clearing } }

/-! ### The start recovery (R19, R47, R155) -/

/-- The volume stored as IN_PICKER (R19). -/
def Core.gripped (c : Core) : Option (SlotId × Position × Position) :=
  allSlots.findSome? (fun v =>
    match c.location v with
    | some (.inPicker src dst) => some (v, src, dst)
    | _ => none)

/-- The start recovery goes on to another part of its motion. -/
def Core.startMotion (c : Core) (m : StartMotion) : Core := { c with picker := { c.picker with motion := some (.start m) } }

/-- A drive's start probe begins with LOAD+SPIN UP (R48). -/
def Core.beginProbe (c : Core) (d : DriveId) : Core :=
  (c.onDrive d (fun x => { x with state := .spinningUp, probe := .loading })).issue d (.loadSpinUp false) .probe

/-- The start recovery ends: the picker is IDLE and the drive probes begin (R47, R48). -/
def Core.endStart (c : Core) : Core :=
  let c1 := ((c.recoveryDone .done).grantHold).pickerIdle
  Four.indices.foldl Core.beginProbe { c1 with startPhase := .probing }

/-- The re-home of the start recovery is done (R19, R47, R155). -/
def startRehomed (e : Fixed) (c : Core) (holding : Bool) : Core :=
  match holding, c.gripped with
  | true, some _ => c.startMotion .returning
  | true, none => if e.panel.level.cartridgePresent then c.pickerFail false else c.startMotion .returning
  | false, some (v, src, dst) =>
    if dst = .mailslot then
      (c.setLoc v (if e.panel.level.cartridgePresent then .inMailslot else src.location)).endStart
    else c.startMotion .probing
  | false, none => c.endStart

/-- The return of the start recovery is done: the volume is at its source, or an unidentified cartridge in the mailslot
(R19, R155). -/
def startReturned (c : Core) : Core :=
  match c.gripped with
  | some (v, src, _) =>
    let c1 := c.setLoc v src.location
    (if src = .mailslot then { c1 with mailslot := .volume v } else c1).endStart
  | none => { c with mailslot := .inserted }.endStart

/-- The probe of the destination of the volume stored as IN_PICKER is done (R19). -/
def startProbed (c : Core) (occupied : Bool) : Core :=
  match c.gripped with
  | some (v, src, dst) => (c.setLoc v (if occupied then dst.location else src.location)).endStart
  | none => c.endStart

end Sys2Proof.Machine
end

