-- ==== Sys2Proof/Machine/Event.lean ====
section
/-! DEFINITION. How a command is taken: as one event, with the updates of the retained store it brings (R190, R191), and for
a request the examination of its frame (R176, R177). -/

namespace Sys2Proof.Machine

/-- What a step answers. -/
abbrev Answered := Host.Outcome State Fault Refusal

/-! ### The retained store (11-1) -/

/-- A pending entry as the PENDING section holds it (R57): without its staging blocks, and with VERIFYING written as
WRITING. -/
def PendingEntry.stored (p : PendingEntry) : PendingEntry :=
  { p with blocks := none, image := [], state := if p.state = .verifying then .writing else p.state }

/-- The values of the nine sections as the two parts of the state hold them (11-1). -/
def valuesOf (e : Fixed) (c : Core) : StoreValues :=
  { counter := e.counter, volumes := c.volumes, pendingList := c.pendingList.map PendingEntry.stored,
    pendingValid := e.pendingValid, dirbuf := c.dirbuf, tallies := c.tallies, tallyDay := e.tallyDay,
    tallyLost := e.tallyLost, snapshot := e.snapshot, closeResult := e.closeResult, schedule := e.schedule,
    courtesy := c.courtesy, settings := e.settings, startRecord := e.startRecord }

/-- The store between the updates of an event: each section's word is that of its values (R190). -/
def storeOf (e : Fixed) (c : Core) : Retained := { valuesOf e c with words := (valuesOf e c).words }

/-- The retained store as the state holds it: the values of the nine sections, and their words. -/
def State.retained (s : State) : Retained := { valuesOf s.toFixed s.toCore with words := s.words }

/-- The values `a` with one section's as `b` has them. -/
def StoreValues.put (a b : StoreValues) (sec : Section) : StoreValues :=
  match sec with
  | .counter => { a with counter := b.counter }
  | .volumes => { a with volumes := b.volumes }
  | .pending => { a with pendingList := b.pendingList, pendingValid := b.pendingValid }
  | .dirbuf => { a with dirbuf := b.dirbuf }
  | .tallies => { a with tallies := b.tallies, tallyDay := b.tallyDay, tallyLost := b.tallyLost, snapshot := b.snapshot,
                         closeResult := b.closeResult }
  | .schedule => { a with schedule := b.schedule }
  | .courtesy => { a with courtesy := b.courtesy }
  | .settings => { a with settings := b.settings }
  | .start => { a with startRecord := b.startRecord }

/-- An update of one section (R190): the values of `b` are written, and then the check word over them is stored. -/
def Retained.put (a : Retained) (b : StoreValues) (sec : Section) : Retained :=
  { a.toStoreValues.put b sec with words := a.words.set sec (b.checkWord sec) }

/-- Whether a section holds the same values in two stores. -/
def StoreValues.agreesOn (a b : StoreValues) (sec : Section) : Bool := a.contents sec == b.contents sec

/-- Whether a section is valid (R190): it holds values, and its stored check word equals the word computed from its stored
contents. -/
def Retained.valid (r : Retained) (sec : Section) : Bool := r.holds sec && r.words.get sec == r.checkWord sec

/-- A section whose stored check word no longer matches (R190). -/
def Retained.spoil (r : Retained) (sec : Section) : Retained := { r with words := r.words.set sec (r.wrongWord sec) }

/-- The updates that lead a store to other values, each with the store as it stood before it: one for each section whose values
change (R190, R191). -/
def updates (a : Retained) (b : StoreValues) (order : List Section) : List (Section × Retained) :=
  match order with
  | [] => []
  | sec :: rest => if a.agreesOn b sec then updates a b rest else (sec, a) :: updates (a.put b sec) b rest

/-- The order of the updates of one group (R191): of a receipt, a commit, a close and a RESTORE COUNTER at once, since each
keeps this order among the sections it updates. An event that R191 does not list, as an open event that empties a buffer left over
or a failed write that begins a seal, updates its sections in this order too (DESIGN CHOICE, notes/assumptions/96.md). -/
def updateOrder : List Section :=
  [.dirbuf, .volumes, .pending, .tallies, .counter, .courtesy, .schedule, .settings, .start]

/-- The order of the updates at the end of a flush: VOLUMES, then DIRBUF (R191). -/
def flushOrder : List Section :=
  [.volumes, .dirbuf, .pending, .tallies, .counter, .courtesy, .schedule, .settings, .start]

/-- The order of the updates at the end of a job that is charged: R118 takes the courtesy decision, and with it the number out
of the list, before the item is added to the tallies, and R191 does not name this event (notes/assumptions/50.md). -/
def itemOrder : List Section :=
  [.dirbuf, .volumes, .pending, .courtesy, .tallies, .counter, .schedule, .settings, .start]

/-- The updates of the work that follows in the same event: each thing the blocks do is a group of its own, taken after the
groups before it (R190, R191). -/
def settleUpdates (n : Nat) (e : Fixed) (c : Core) : List (Section × Retained) :=
  match n with
  | 0 => []
  | n + 1 =>
    match settleStep e c with
    | some c' => updates (storeOf e c) (valuesOf e c') updateOrder ++ settleUpdates n e c'
    | none => []

/-- The values after a command's own effect: as they stood before the first update of the work that followed, or at the end. -/
def storeBetween (trace : List (Section × Retained)) (last : StoreValues) : StoreValues :=
  match trace with
  | p :: _ => p.2.toStoreValues
  | [] => last

/-- The words after updates: that of each section updated is the word of the values it ends with (R190). -/
def wordsAfter (w : CheckWords) (us : List (Section × Retained)) (last : StoreValues) : CheckWords :=
  us.foldl (fun w p => w.set p.1 (last.checkWord p.1)) w

/-- The updates of an event are recorded and the words of their sections stored: those of the command's own effect, in the order
of its group, and then those of the work that followed, which `after` has put behind the record of the last event (R190,
R191). An event that changes no section leaves that record. -/
def State.recordUpdates (before after : State) (order : List Section) : State :=
  let trace := after.journal.drop before.journal.length
  let last := valuesOf after.toFixed after.toCore
  let us := updates before.retained (storeBetween trace last) order ++ trace
  { after with words := wordsAfter before.words us last, journal := if us.isEmpty then before.journal else us }

/-! ### Events -/

/-- A command's effect `f` taken as one event. Nothing reaches the part between the end of a RESTART's answer and the reset
(R187). -/
def event (order : List Section) (s : State) (f : State → State) : Answered :=
  if s.resetDue then .next s else .next (s.recordUpdates (f s) order)

/-- The state with its core changed by `f`. -/
def State.onCore (s : State) (f : Core → Core) : State := { s with toCore := f s.toCore }

/-- The work that follows in the same event (notes/assumptions/8.md), its updates put behind the record. -/
def State.settled (s : State) : State :=
  { s.onCore (settle settleFuel s.toFixed) with journal := s.journal ++ settleUpdates settleFuel s.toFixed s.toCore }

/-- A command's effect on the core, and the work that follows. -/
def State.act (s : State) (f : Fixed → Core → Core) : State := (s.onCore (f s.toFixed)).settled

/-! ### Requests (R176, R177) -/

/-- A valid frame on a link reloads its silence timer and makes it ACTIVE (R176, R183, R185). -/
def State.validFrame (s : State) (l : LinkId) : State :=
  s.onCore (·.onLink l (·.validFrame (s.settings.silence.get l)))

/-- A refusal (R179). -/
def State.refuse (s : State) (r : Request) (code : RefusalCode) : State := s.onCore (·.refuse r code)

/-- A DONE in answer to a request. -/
def State.answer (s : State) (r : Request) (b : DoneBody) : State := s.onCore (·.answer r b)

/-- An ACCEPTED. -/
def State.accept (s : State) (r : Request) (b : AcceptedBody) : State := s.onCore (·.accept r b)

/-- A RESULT. -/
def State.result (s : State) (r : Request) (b : ResultBody) : State := s.onCore (·.result r b)

/-- The link and tag of a request, which a later DONE answers. -/
def ordererOf (r : Request) : Orderer := { link := r.link, tag := r.tag }

/-- A valid frame is examined (R177): role, then body length, and then its owner takes it. -/
def examine (k : RequestKind) (r : Request) (own : State → State) (s : State) : State :=
  let s1 := s.validFrame r.link
  if !k.permitted (s1.links.get r.link).role then s1.refuse r .role
  else if !k.lengthOk r.body then s1.refuse r .format
  else own s1

/-- A request taken as one event. -/
def request (k : RequestKind) (r : Request) (own : State → State) (s : State) : Answered :=
  event updateOrder s (examine k r own)

end Sys2Proof.Machine
end

