-- ==== Sys2Proof/Machine/AccountsLink.lean ====
section
/-! DEFINITION. The requests of an ACCOUNTS link: the schedule, the reception window, the clock, the tallies and the day close
(R49, R50, R115, R116, R134, R136 to R142). -/

namespace Sys2Proof.Machine

/-- SET SCHEDULE at the Fee Unit (R115). -/
def takeSetSchedule (r : Request) (s : State) : State :=
  match Schedule.parse r.body with
  | some sch => ({ s with schedule := sch }).answer r .empty
  | none => s.refuse r .schedule

/-- READ SCHEDULE at the Fee Unit (R116). -/
def takeReadSchedule (r : Request) (s : State) : State := s.result r (.schedule s.schedule)

/-- OPEN RECEPTION at the Filing Engine (R49). -/
def takeOpenReception (r : Request) (s : State) : State :=
  let minutes := fieldNat r.body 0 2
  if inRange 1 minutes 720 then ({ s with window := some (minutes * 60) }).answer r (.remaining (minutes * 60))
  else s.refuse r .format

/-- CLOSE RECEPTION at the Filing Engine (R50). -/
def takeCloseReception (r : Request) (s : State) : State := ({ s with window := none }).answer r .empty

/-- SET CLOCK at the Tally and Day Unit (R134). -/
def takeSetClock (r : Request) (s : State) : State :=
  let t := fieldNat r.body 0 4
  if t ≤ Config.maxClock then ({ s with clock := some t }).answer r .empty else s.refuse r .format

/-- READ TALLY at the Tally and Day Unit (R136): 1 CURRENT, 2 PREVIOUS. -/
def takeReadTally (r : Request) (s : State) : State :=
  let which := fieldNat r.body 0 1
  if which = 1 then
    s.result r (.tally false (if s.counter.isSome then some s.tallyDay else none) s.tallyLost s.tallies)
  else if which = 2 then s.result r (.tally true s.snapshot.day s.snapshot.tallyLost s.snapshot.stations)
  else s.refuse r .format

/-- The refusal of a CLOSE DAY whose reports are in range, if one is due (R137). -/
def closeRefusal (s : State) : Option RefusalCode :=
  if s.counter.isNone then some .storeLost else if s.window.isSome then some .dayOpen else none

/-- The close event (R138, R139): result, snapshot, clearing, courtesy list, day number, notice. -/
def State.closeDay (s : State) (rs : List TillReport) : State :=
  let res := closeResultOf s.tallies s.tallyDay s.tallyLost s.clock rs
  let day := nextDay s.tallyDay
  let s1 := { s with
    closeResult := some res
    snapshot := { day := some s.tallyDay, tallyLost := s.tallyLost, stations := s.tallies }
    tallies := zeroTallies
    tallyLost := false
    tallyDay := day
    courtesy := .empty
    counter := s.counter.map (fun k : Counter => { k with day := day }) }
  s1.onCore (·.notifyRole .accounts (.dayClosed res.day day res.outstanding res.flags))

/-- CLOSE DAY at the Tally and Day Unit (R137, R139). -/
def takeCloseDay (r : Request) (s : State) : State :=
  match parseCloseDay r.body with
  | none => s.refuse r .format
  | some rs =>
    match closeRefusal s with
    | some code => s.refuse r code
    | none => (s.closeDay rs).result r (.closeResult (s.closeDay rs).closeResult)

/-- READ CLOSE RESULT at the Tally and Day Unit (R142). -/
def takeReadCloseResult (r : Request) (s : State) : State := s.result r (.closeResult s.closeResult)

/-! ### Meanings -/

/-- SET SCHEDULE (R115). -/
def execSetSchedule (r : Request) (s : State) : Answered := request .setSchedule r (takeSetSchedule r) s

/-- READ SCHEDULE (R116). -/
def execReadSchedule (r : Request) (s : State) : Answered := request .readSchedule r (takeReadSchedule r) s

/-- OPEN RECEPTION (R49). -/
def execOpenReception (r : Request) (s : State) : Answered := request .openReception r (takeOpenReception r) s

/-- CLOSE RECEPTION (R50). -/
def execCloseReception (r : Request) (s : State) : Answered := request .closeReception r (takeCloseReception r) s

/-- SET CLOCK (R134). -/
def execSetClock (r : Request) (s : State) : Answered := request .setClock r (takeSetClock r) s

/-- READ TALLY (R136). -/
def execReadTally (r : Request) (s : State) : Answered := request .readTally r (takeReadTally r) s

/-- CLOSE DAY (R137 to R141). -/
def execCloseDay (r : Request) (s : State) : Answered := request .closeDay r (takeCloseDay r) s

/-- READ CLOSE RESULT (R142). -/
def execReadCloseResult (r : Request) (s : State) : Answered := request .readCloseResult r (takeReadCloseResult r) s

end Sys2Proof.Machine
end

