-- ==== Sys2Proof/Machine/AnyLink.lean ====
section
/-! DEFINITION. The requests of every role, the frames that are no known request, and the output side of a link (R46, R79,
R101, R174, R176 to R178, R182, R187, R188). -/

namespace Sys2Proof.Machine

/-! ### STATUS (R188) -/

/-- One entry of the drive summary (R46). A mount shows as bound for each thing that binds a drive, a service MOVE, an import, an
export and an inventory among them (DESIGN CHOICE, notes/assumptions/57.md). -/
def Drive.summary (x : Drive) : DriveSummary :=
  { state := x.state, loaded := x.loaded, claims := x.claims, filingFlag := x.filingFlag, jobs := x.service.length,
    bound := x.bound.isSome }

/-- The number of pending entries in AWAITING_RESUBMIT (R79). -/
def awaiting (ps : List PendingEntry) : Nat := (ps.filter (fun p => p.state == .awaitingResubmit)).length

/-- The STATUS record for a link, each value as held (R46, R79, R101, R174, R188). -/
def statusOf (s : State) (l : LinkId) : StatusRecord :=
  let u := s.links.get l
  { role := u.role, silence := s.settings.silence.get l, mask := u.mask, active := s.links.map (·.active)
    window := s.window, nextRn := s.counter.map (·.nextRn), pendingCount := s.pendingList.length
    awaitingCount := awaiting s.pendingList, engine := s.engine.state
    freeBlocks := (s.blockMap.filter (· == false)).length
    day := s.counter.map (·.day), clock := s.clock, jobs := s.queue.length
    waitOperator := (s.queue.filter (fun j => j.state == .waitOperator)).length
    picker := s.picker.state, hold := s.hold, moves := s.moves.length
    highMoves := (s.moves.filter (fun m => 3 ≤ m.cls)).length
    drives := s.drives.map Drive.summary, levels := s.panel.level, latches := s.panel.latches, stop := s.panel.stop
    alarms := s.alarms }

/-- STATUS (R188). -/
def takeStatus (r : Request) (s : State) : State := s.result r (.status (statusOf s r.link))

/-- READ START RECORD (R187, R196). -/
def takeReadStartRecord (r : Request) (s : State) : State := s.result r (.startRecord s.startRecord)

/-! ### SET NOTICE MASK (R182) -/

/-- The link's mask is replaced, DONE carries it, and the held notices it enables follow (R182). -/
def LinkUnit.setMask (u : LinkUnit) (tag : Half) (m : NoticeMask) : LinkUnit :=
  (({ u with mask := m }).emit (.done tag (.mask m))).releaseHeld

/-- SET NOTICE MASK (R182). -/
def takeSetNoticeMask (r : Request) (s : State) : State :=
  match NoticeMask.parse r.body with
  | some m => s.onCore (·.onLink r.link (·.setMask r.tag m))
  | none => s.refuse r .format

/-! ### The output side (R178, R187) -/

/-- Whether a frame is the DONE of a RESTART (R187). -/
def OutFrame.isRestart : OutFrame → Bool
  | .done _ .restarting => true
  | _ => false

/-- The head of a link's output list has been sent and leaves it (R178); when it is the DONE of a RESTART, the reset begins
(R187). -/
def takeFrameSent (l : LinkId) (s : State) : State :=
  let head := (s.links.get l).out.head?
  { s.onCore (·.onLink l (fun u => { u with out := u.out.drop 1 })) with
    resetDue := s.resetDue || (head.map OutFrame.isRestart).getD false }

/-! ### Meanings -/

/-- STATUS (R188). -/
def execStatus (r : Request) (s : State) : Answered := request .status r (takeStatus r) s

/-- READ START RECORD (R187, R196). -/
def execReadStartRecord (r : Request) (s : State) : Answered := request .readStartRecord r (takeReadStartRecord r) s

/-- SET NOTICE MASK (R182). -/
def execSetNoticeMask (r : Request) (s : State) : Answered := request .setNoticeMask r (takeSetNoticeMask r) s

/-- A valid frame of an unknown kind is refused FORMAT (R176, R177); the kind byte itself decides nothing more. -/
def execUnknownKindFrame (_kind : Byte) (r : Request) (s : State) : Answered :=
  event updateOrder s (fun s => (s.validFrame r.link).refuse r .format)

/-- A frame that is discarded is not answered and changes nothing (R176). -/
def execFrameDiscarded (_link : LinkId) (_why : DiscardCause) (s : State) : Answered := event updateOrder s id

/-- A frame has been sent (R178, R187). -/
def execFrameSent (l : LinkId) (s : State) : Answered := event updateOrder s (takeFrameSent l)

end Sys2Proof.Machine
end

