-- ==== Sys2Proof/Machine/CounterLink.lean ====
section
/-! DEFINITION. The requests of a COUNTER link: FETCH, WALK, CANCEL (R82 to R84, R97, R102, R103, R110). -/

namespace Sys2Proof.Machine

/-! ### Acceptance (R80 to R84, R102, R103) -/

/-- The checks that FETCH and WALK share after the range of their fields (R82, R102): the refusal, if one fails. -/
def jobRefusal (s : State) (r : Request) (rn : Nat) : Option RefusalCode :=
  if !s.schedule.isSet then some .schedule
  else if (s.toCore.job ⟨r.link, r.tag⟩).isSome then some .tagInUse
  else if Config.maxJobs ≤ s.queue.length ∨ Config.maxLinkJobs ≤ s.toCore.jobsOf r.link then some .busy
  else match resolve s.toFixed s.toCore rn with
    | .beyond | .unrecorded => some .unknownRn
    | .pending => some .notYetFiled
    | _ => none

/-- The side and index that a resolution gives. -/
def Resolution.place : Resolution → Option Side × Nat
  | .onSide sd i => (some sd, i)
  | _ => (none, 0)

/-- The record of a new job (R81, R84, R103). -/
def newJob (s : State) (r : Request) (station rn : Nat) (cls : FeeClass) (courtesy : Bool) (prio : Nat)
    (walk : Option WalkFields) : Job :=
  let p := (resolve s.toFixed s.toCore rn).place
  { id := ⟨r.link, r.tag⟩, station, rn, cls, courtesy, prio, snap := s.schedule.snapshot cls, offline := false,
    state := .queued, acceptNo := s.nextAccept, side := p.1, index := p.2, drive := none,
    knownPages := if walk.isSome then some 0
      else match p.1 with
        | some sd => (s.toCore.bufferEntry sd p.2).map (·.pages)
        | none => none
    entry := none, sent := 0, retry := false, cancelled := false, crc := crc32Init, walk }

/-- A job is placed at its acceptance (R85): QUEUED while its resolution is DEFERRED. -/
def Core.placeNew (c : Core) (j : Job) : Core :=
  match j.side with
  | some sd => c.placeJob j.id sd
  | none => c

/-- A job joins the queue, ACCEPTED carries its estimate, and it is placed (R84, R85). -/
def acceptJob (r : Request) (j : Job) (e : Fixed) (c : Core) : Core :=
  let estimated := estimate e c j.side
  let c1 := { c with queue := c.queue ++ [j], nextAccept := c.nextAccept + 1 }
  (c1.accept r (.estimate estimated)).placeNew j

/-- FETCH at the Work Queue (R82, R84). -/
def takeFetch (r : Request) (s : State) : State :=
  match FetchFields.parse r.tag r.body with
  | none => s.refuse r .format
  | some f =>
    match jobRefusal s r f.rn with
    | some code => s.refuse r code
    | none => s.act (acceptJob r (newJob s r f.station f.rn f.cls f.courtesy f.prio none))

/-- The walk fields at acceptance (R103). -/
def WalkRequest.fields (f : WalkRequest) : WalkFields :=
  { start := f.start, limit := f.limit, stopKinds := f.stopKinds, parcelMatch := f.parcelMatch, startParcel := none,
    steps := 0, next := none, stop := none }

/-- WALK at the Work Queue (R102, R103). -/
def takeWalk (r : Request) (s : State) : State :=
  match WalkRequest.parse r.tag r.body with
  | none => s.refuse r .format
  | some f =>
    match jobRefusal s r f.start with
    | some code => s.refuse r code
    | none => s.act (acceptJob r (newJob s r f.station f.start .search false 0 (some f.fields)))

/-! ### CANCEL (R97, R110) -/

/-- CANCEL of a job (R97): ACCEPTED with the cancel mark while a READ is in flight or the mark is set, DONE and then the end
otherwise. -/
def cancelRequest (r : Request) (j : Job) (e : Fixed) (c : Core) : Core :=
  if c.readInFlight j || j.cancelled then cancelJob e (c.accept r .empty) j
  else cancelJob e (c.answer r .empty) j

/-- CANCEL at the Work Queue (R97). -/
def takeCancel (r : Request) (s : State) : State :=
  match s.toCore.job ⟨r.link, r.tag⟩ with
  | none => s.refuse r .unknownTag
  | some j => s.act (cancelRequest r j)

/-! ### Meanings -/

/-- FETCH (R82). -/
def execFetch (r : Request) (s : State) : Answered := request .fetch r (takeFetch r) s

/-- WALK (R102). -/
def execWalk (r : Request) (s : State) : Answered := request .walk r (takeWalk r) s

/-- CANCEL (R97, R110). -/
def execCancel (r : Request) (s : State) : Answered := request .cancel r (takeCancel r) s

end Sys2Proof.Machine
end

