-- ==== Sys2Proof/Machine/DriveDone.lean ====
section
/-! DEFINITION. The completions of drive operations, each handed to the user that issued the operation (R24, R25, R29, R32, R33,
R48, R61, R63, R64, R67, R69, R78, R91, R93, R151, R161). A completion that no operation in flight waits for is discarded
(R24; notes/assumptions/6.md). -/

namespace Sys2Proof.Machine

/-- The operation in flight on a drive. -/
def Core.opOf (c : Core) (d : DriveId) : Option DriveOp := (c.drv d).op

/-- The completion of the operation in flight on a drive, when it is one that `f` takes (R24): the operation's timer ends,
it is no longer in flight, and its user acts. `f` is absent for any other operation. -/
def completion (d : DriveId) (f : Fixed → Core → DriveOp → Option Core) (s : State) : State :=
  match s.toCore.opOf d with
  | some o =>
    match f s.toFixed (s.toCore.endOp s.toFixed d) o with
    | some c => (s.onCore (fun _ => c)).settled
    | none => s
  | none => s

/-- The operation is a LOAD+SPIN UP. -/
def OpKind.isLoad : OpKind → Bool
  | .loadSpinUp _ => true
  | _ => false

/-- The operation is a READ. -/
def OpKind.isRead : OpKind → Bool
  | .read _ _ => true
  | _ => false

/-- A completed LOAD+SPIN UP (R33, R35, R48). -/
def takeLoad (d : DriveId) (r : LoadResult) (e : Fixed) (c : Core) (o : DriveOp) : Option Core :=
  if o.kind.isLoad then some (loadDone e c d r o) else none

/-- A completed SPIN DOWN (R29, R32, R48). -/
def takeSpinDown (d : DriveId) (_e : Fixed) (c : Core) (o : DriveOp) : Option Core :=
  if o.kind = .spinDown then some (spinDownDone c d o) else none

/-- A completed EJECT (R26, R32, R34, R45, R150, R154, R157, R161). -/
def takeEject (d : DriveId) (_e : Fixed) (c : Core) (o : DriveOp) : Option Core :=
  if o.kind = .eject then some (ejectDone c d) else none

/-- A completion for the engine's use `u` of the drive of its claim (R60). Where the engine has let go of the drive since, the
operation ends without effect (notes/assumptions/49.md). -/
def forEngine (u : OpUser) (d : DriveId) (f : Fixed → Core → Core) (e : Fixed) (c : Core) (o : DriveOp) : Option Core :=
  if o.user = u then some (if c.engine.claim = some d then f e c else c) else none

/-- One of a flush's four operations (R67). -/
def takeFlush (d : DriveId) (r : FlushResult) (e : Fixed) (c : Core) (o : DriveOp) : Option Core :=
  if o.user = .engineFlush then if c.engine.claim = some d then flushDone e c d r else some c else none

/-- A completed directory READ of a job (R91, R105). -/
def takeDirectoryRead (d : DriveId) (r : ReadResult) (e : Fixed) (c : Core) (o : DriveOp) : Option Core :=
  match o.user, o.kind with
  | .jobDirectory id, .read start _ => (c.job id).map (fun j => directoryRead e c d j start r)
  | _, _ => none

/-- A completed chunk READ of a FETCH (R93 to R97). -/
def takeChunkRead (d : DriveId) (r : ReadResult) (e : Fixed) (c : Core) (o : DriveOp) : Option Core :=
  match o.user with
  | .jobChunk id =>
    match c.job id with
    | some j => j.entry.map (fun en => chunkRead e c d j en r)
    | none => none
  | _ => none

/-- A completed READ of a start probe (R48). -/
def takeProbeRead (d : DriveId) (r : ReadResult) (_e : Fixed) (c : Core) (o : DriveOp) : Option Core :=
  if o.user = .probe ∧ o.kind.isRead then some (c.probeRead d r) else none

/-- A completed header READ of an import (R151). -/
def takeImportRead (d : DriveId) (r : ReadResult) (e : Fixed) (c : Core) (o : DriveOp) : Option Core :=
  if o.user = .importRead then c.importOp.map (fun op => importRead e c op d r) else none

/-- A completed operation of inventory's scan of a face, taken by `f` (R161). -/
def forScan (u : OpUser) (f : Inventory → Reading → Option Core) (c : Core) (o : DriveOp) : Option Core :=
  if o.user = u then
    match c.inventory with
    | some i => i.reading.bind (f i)
    | none => none
  else none

/-! ### Meanings -/

/-- LOAD+SPIN UP completes (R33). -/
def execLoadSpinUpComplete (d : DriveId) (r : LoadResult) (s : State) : Answered :=
  event updateOrder s (completion d (takeLoad d r))

/-- SPIN DOWN completes (R32). -/
def execSpinDownComplete (d : DriveId) (s : State) : Answered := event updateOrder s (completion d (takeSpinDown d))

/-- EJECT completes (R32). -/
def execEjectComplete (d : DriveId) (s : State) : Answered := event updateOrder s (completion d (takeEject d))

/-- The WRITE of the head's extent completes (R63). -/
def execInstrumentWriteComplete (d : DriveId) (r : WriteResult) (s : State) : Answered :=
  event updateOrder s (completion d (forEngine .engineWrite d (fun _ c => instrumentWritten c d r)))

/-- The verify read completes (R64). -/
def execVerifyReadComplete (d : DriveId) (r : ReadResult) (s : State) : Answered :=
  event updateOrder s (completion d (forEngine .engineVerify d (fun e c => extentVerified e c d r)))

/-- The WRITE of the header sector completes (R61). -/
def execHeaderWriteComplete (d : DriveId) (r : WriteResult) (s : State) : Answered :=
  event updateOrder s (completion d (forEngine .engineHeader d (fun e c => headerWritten e c d r)))

/-- The WRITE of the seal sector completes (R12, R69). -/
def execSealWriteComplete (d : DriveId) (r : WriteResult) (s : State) : Answered :=
  event updateOrder s (completion d (forEngine .engineSeal d (fun e c => sealWritten e c d r)))

/-- One of a flush's four operations completes (R67). -/
def execFlushOperationComplete (d : DriveId) (r : FlushResult) (s : State) : Answered :=
  event flushOrder s (completion d (takeFlush d r))

/-- A directory READ of a job completes (R91). -/
def execDirectoryReadComplete (d : DriveId) (r : ReadResult) (s : State) : Answered :=
  event updateOrder s (completion d (takeDirectoryRead d r))

/-- A chunk READ completes (R93). -/
def execChunkReadComplete (d : DriveId) (r : ReadResult) (s : State) : Answered :=
  event itemOrder s (completion d (takeChunkRead d r))

/-- A start probe's READ completes (R48). -/
def execProbeReadComplete (d : DriveId) (r : ReadResult) (s : State) : Answered :=
  event updateOrder s (completion d (takeProbeRead d r))

/-- An import's header READ completes (R151). -/
def execImportHeaderReadComplete (d : DriveId) (r : ReadResult) (s : State) : Answered :=
  event updateOrder s (completion d (takeImportRead d r))

/-- An inventory READ completes (R161). -/
def execInventoryReadComplete (d : DriveId) (r : ReadResult) (s : State) : Answered :=
  event updateOrder s (completion d (fun e c o => forScan .inventoryRead (fun i rd => inventoryRead e c i rd d r) c o))

/-- The restart FIND BLANK completes (R78). -/
def execRestartFindBlankComplete (d : DriveId) (r : FindResult) (s : State) : Answered :=
  event updateOrder s (completion d (forEngine .engineFind d (fun _ c => restartFound c r)))

/-- An inventory FIND BLANK completes (R161). -/
def execInventoryFindBlankComplete (d : DriveId) (r : FindResult) (s : State) : Answered :=
  event updateOrder s (completion d (fun e c o => forScan .inventoryFind (fun i rd => inventoryFind e c i rd d r) c o))

/-- The real completion of an operation that has ended is discarded (R24). -/
def execLateDriveCompletion (_d : DriveId) (s : State) : Answered := event updateOrder s id

end Sys2Proof.Machine
end

