-- ==== Sys2Proof/Machine/FilingLink.lean ====
section
/-! DEFINITION. The requests of a FILING link: SUBMIT, DATA, ABANDON, RESUBMIT (R51 to R55, R73, R74). -/

namespace Sys2Proof.Machine

/-! ### The staging store and the transfers (R51, R54) -/

/-- The number of free staging blocks (R51). -/
def freeCount (map : List Bool) : Nat := (map.filter (· == false)).length

/-- The `n` lowest-numbered free blocks (notes/assumptions/13.md). -/
def pickBlocks (map : List Bool) (n : Nat) : List Nat :=
  ((List.range map.length).filter (fun i => map[i]? == some false)).take n

/-- The blocks become reserved (R51). -/
def reserve (map : List Bool) (bs : List Nat) : List Bool := bs.foldl (fun m b => m.set b true) map

/-- The submission in transfer of a link. -/
def State.transfer (s : State) (l : LinkId) : Option Transfer := s.transfers.get l

/-- The transfer of a link becomes `t`. -/
def State.setTransfer (s : State) (l : LinkId) (t : Option Transfer) : State := { s with transfers := s.transfers.set l t }

/-- The transfers of SUBMITs: each holds a reserved pending slot (R52). -/
def State.submissions (s : State) : Nat :=
  (s.transfers.toList.filter (fun t => match t with
    | some x => match x.kind with
      | .submission _ => true
      | .resubmission _ => false
    | none => false)).length

/-- Whether a RESUBMIT for a number is in transfer (R71, R73). -/
def State.resubmitting (s : State) (rn : Nat) : Bool :=
  s.transfers.toList.any (fun t => match t with
    | some x => x.kind == .resubmission rn
    | none => false)

/-- A transfer ends without a receipt: its blocks are returned (R54). -/
def State.dropTransfer (s : State) (l : LinkId) : State :=
  match s.transfer l with
  | some t => ({ s with blockMap := freeBlocks s.blockMap t.blocks }).setTransfer l none
  | none => s

/-- A transfer is created, its blocks reserved, and ACCEPTED carries the expected frame count (R52, R73). -/
def State.beginTransfer (s : State) (r : Request) (kind : TransferKind) (size : Nat) (crc : Word) : State :=
  let blocks := pickBlocks s.blockMap (blocksOf size)
  let t : Transfer := { tag := r.tag, kind, size, crc, expected := sectorsOf size, nextSeq := 0, blocks, image := [] }
  (({ s with blockMap := reserve s.blockMap blocks }).setTransfer r.link (some t)).accept r (.frames (sectorsOf size))

/-! ### SUBMIT (R52) -/

/-- The refusal of a SUBMIT whose fields are in range, if one is due, in the order of R52. -/
def submitRefusal (s : State) (l : LinkId) (d : Descriptor) : Option RefusalCode :=
  match s.counter with
  | none => some .storeLost
  | some k =>
    if !s.pendingValid then some .storeLost
    else if s.window = none then some .closed
    else if (s.transfer l).isSome then some .busy
    else if Config.maxPending ≤ s.pendingList.length + s.submissions ∨ freeCount s.blockMap < blocksOf d.size
        ∨ Config.maxRn < k.nextRn + s.submissions then some .full
    else match d.prior with
      | some p => if p < k.nextRn then none else some .badLink
      | none => none

/-- SUBMIT at the Filing Engine (R52). -/
def takeSubmit (r : Request) (s : State) : State :=
  match Descriptor.parse r.body with
  | none => s.refuse r .format
  | some d =>
    match submitRefusal s r.link d with
    | some code => s.refuse r code
    | none => s.beginTransfer r (.submission d) d.size d.crc

/-! ### DATA (R53, R55, R74) -/

/-- The receipt event of a SUBMIT whose image has passed its checks (R55). -/
def State.receive (s : State) (r : Request) (t : Transfer) (d : Descriptor) (k : Counter) : State :=
  let p : PendingEntry :=
    { rn := k.nextRn, link := r.link, desc := d, day := k.day, time := s.clock, state := .staged, blocks := some t.blocks,
      image := t.image }
  (({ s with
      counter := some { k with nextRn := k.nextRn + 1 }
      pendingList := s.pendingList ++ [p]
      engine := s.engine.reached }).setTransfer r.link none).answer r (.receipt p.rn p.day p.time)

/-- The entry of the number resubmitted takes the image, and its link becomes the resubmitting link (R74). -/
def restored (l : LinkId) (t : Transfer) (rn : Nat) (p : PendingEntry) : PendingEntry :=
  if p.rn = rn then { p with state := .staged, blocks := some t.blocks, image := t.image, link := l } else p

/-- The end of a good resubmission (R74): the entry becomes STAGED with the image, its link the resubmitting link. Where no entry
of the number waits for it, the DATA is refused BAD_IMAGE and the blocks are returned (DESIGN CHOICE,
notes/assumptions/60.md). -/
def State.restoreEntry (s : State) (r : Request) (t : Transfer) (rn : Nat) : State :=
  match s.pendingList.find? (fun p => p.rn == rn && p.state == .awaitingResubmit) with
  | some p =>
    (({ s with
        pendingList := s.pendingList.map (restored r.link t rn)
        engine := s.engine.reached }).setTransfer r.link none).answer r
      (.receipt p.rn p.day p.time)
  | none => (s.dropTransfer r.link).refuse r .badImage

/-- The last frame of a transfer has been stored (R55, R74). -/
def State.endTransfer (s : State) (r : Request) (t : Transfer) : State :=
  if crc32 t.image ≠ t.crc then (s.dropTransfer r.link).refuse r .badImage
  else match t.kind with
    | .resubmission rn => (s.restoreEntry r t rn).settled
    | .submission d =>
      match s.window, s.counter with
      | some _, some k => (s.receive r t d k).settled
      | none, _ => (s.dropTransfer r.link).refuse r .closed
      | some _, none => (s.dropTransfer r.link).refuse r .storeLost

/-- The bytes a DATA frame of sequence number `seq` must carry (R53): 1,024, or the remainder in the last. -/
def frameLength (t : Transfer) (seq : Nat) : Nat :=
  if seq + 1 = t.expected then t.size - Config.sectorBytes * seq else Config.sectorBytes

/-- DATA at the Filing Engine (R53). -/
def takeData (r : Request) (s : State) : State :=
  match s.transfer r.link with
  | none => s.refuse r .noTransfer
  | some t =>
    let seq := fieldNat r.body 0 2
    let bytes := r.body.drop 2
    if r.tag ≠ t.tag then s.refuse r .noTransfer
    else if seq ≠ t.nextSeq ∨ bytes.length ≠ frameLength t seq then (s.dropTransfer r.link).refuse r .format
    else
      let t' := { t with nextSeq := t.nextSeq + 1, image := t.image ++ bytes }
      if seq + 1 = t.expected then (s.setTransfer r.link (some t')).endTransfer r t'
      else (s.setTransfer r.link (some t')).accept r (.sequence seq)

/-! ### ABANDON and RESUBMIT (R54, R73) -/

/-- ABANDON at the Filing Engine (R54). -/
def takeAbandon (r : Request) (s : State) : State :=
  if (s.transfer r.link).isSome then (s.dropTransfer r.link).answer r .empty else s.refuse r .noTransfer

/-- The refusal of a RESUBMIT whose fields are in range, if one is due, in the order of R73. With COUNTER alone lost it finds the
entries of the valid list (DESIGN CHOICE, notes/assumptions/81.md). -/
def resubmitRefusal (s : State) (l : LinkId) (f : ResubmitFields) : Option RefusalCode :=
  if (s.transfer l).isSome then some .busy
  else match s.pendingList.find? (fun p => p.rn == f.rn) with
    | none => some .unknownRn
    | some p =>
      if p.state ≠ .awaitingResubmit ∨ s.resubmitting f.rn then some .mediaBusy
      else if f.size ≠ p.desc.size ∨ f.crc ≠ p.desc.crc then some .badImage
      else if freeCount s.blockMap < blocksOf f.size then some .full
      else none

/-- RESUBMIT at the Filing Engine (R73). -/
def takeResubmit (r : Request) (s : State) : State :=
  match ResubmitFields.parse r.body with
  | none => s.refuse r .format
  | some f =>
    match resubmitRefusal s r.link f with
    | some code => s.refuse r code
    | none => s.beginTransfer r (.resubmission f.rn) f.size f.crc

/-! ### Meanings -/

/-- SUBMIT (R52). -/
def execSubmit (r : Request) (s : State) : Answered := request .submit r (takeSubmit r) s

/-- DATA (R53, R55, R74). -/
def execData (r : Request) (s : State) : Answered := request .data r (takeData r) s

/-- ABANDON (R54). -/
def execAbandon (r : Request) (s : State) : Answered := request .abandon r (takeAbandon r) s

/-- RESUBMIT (R73). -/
def execResubmit (r : Request) (s : State) : Answered := request .resubmit r (takeResubmit r) s

end Sys2Proof.Machine
end

