-- ==== Sys2Proof/Machine/Panel.lean ====
section
/-! DEFINITION. The panel and enclosure inputs: debouncing, latches, the emergency stop, the edges handed to the picker gate and to
the mailslot record (R38, R146, R147, R164 to R172). -/

namespace Sys2Proof.Machine

/-! ### Debouncing (R165) -/

/-- The debounce timer of an input after its raw level has become `active` (R165): started with the window held where the
levels differ and it stands stopped, stopped where they agree. -/
def debounceTimer (level active : Bool) (timer : Option Nat) (window : Nat) : Option Nat :=
  if active = level then none
  else match timer with
    | some n => some n
    | none => some window

/-- The panel after a raw level change (R165). -/
def Panel.rawChange (p : Panel) (window : Nat) (i : Input) (active : Bool) : Panel :=
  { p with raw := setLevel p.raw i active
           timers := p.timers.put i (debounceTimer (levelOf p.level i) active (p.timers.of i) window) }

/-- A raw input change at the Panel and Sensor Unit (R165). -/
def takeRawInput (i : Input) (active : Bool) (s : State) : State :=
  { s with panel := s.panel.rawChange s.settings.debounce i active }

/-! ### The debounced edge (R167 to R172) -/

/-- The other key of the two-key stop, if the input is a key. -/
def otherKey : Input → Option Input
  | .kLeft => some .kRight
  | .kRight => some .kLeft
  | _ => none

/-- Whether an edge raises the emergency stop (R172): a key's active edge while the other key is active and the stop is
CLEAR. -/
def Panel.raisesStop (p : Panel) (i : Input) (active : Bool) : Bool :=
  match otherKey i with
  | some k => active && levelOf p.level k && !p.stop
  | none => false

/-- The latch that an edge sets from clear (R168). -/
def Panel.newLatch (p : Panel) (i : Input) (active : Bool) : Option Latch :=
  match latchOf i active with
  | some l => if p.latches.has l then none else some l
  | none => none

/-- The panel at the end of a debounced edge (R165, R168, R172): the level taken, the timer stopped, the latch set, the stop
raised. -/
def Panel.edge (p : Panel) (i : Input) : Panel :=
  let active := levelOf p.raw i
  { p with
    level := setLevel p.level i active
    timers := p.timers.put i none
    latches := match latchOf i active with
      | some l => p.latches.setLatch l
      | none => p.latches
    stop := p.stop || p.raisesStop i active }

/-- The PANEL notices of an edge, with the values held at the end of the event (R168, R170, R172). Where one key's edge gives two,
that of the latch comes first (DESIGN CHOICE, notes/assumptions/65.md). -/
def Panel.edgeNotices (p : Panel) (i : Input) : List Notice :=
  let active := levelOf p.raw i
  (match p.newLatch i active with
   | some l => [(p.edge i).notice (.latch l)]
   | none => []) ++ (if p.raisesStop i active then [(p.edge i).notice .stopStands] else [])

/-- The mailslot record takes a rise of cartridge-present (R146). -/
def Core.mailslotRise (c : Core) : Core := if c.mailslot = .empty then { c with mailslot := .inserted } else c

/-- The mailslot record takes a fall of cartridge-present (R146): EMPTY; a volume IN_MAILSLOT becomes OUT (R4), and
FOREIGN_CARTRIDGE clears (R147). -/
def Core.mailslotFall (c : Core) : Core :=
  let c1 := match allSlots.find? (fun v => c.location v == some .inMailslot) with
    | some v => c.setLoc v .out
    | none => c
  { c1 with mailslot := .empty }.clearAlarm .foreignCartridge

/-- What an edge does at the neighbours (R167): the gate halts the picker at an opening front door and at a stop (R38), and the
mailslot record takes the sensor. The remaining effects follow when the blocks reconsider. -/
def Core.takeEdge (c : Core) (i : Input) (active raised : Bool) : Core :=
  match i with
  | .frontDoor => if active then c.haltPicker else c
  | .cartridgePresent => if active then c.mailslotRise else c.mailslotFall
  | .mailslotDoor => c
  | .kLeft | .kRight => if raised then c.haltPicker else c

/-- The core's part of an edge: the PANEL notices for every SERVICE link, and then the neighbours' effects with their frames
(R167, R170; the order is a DESIGN CHOICE, notes/assumptions/65.md). -/
def Core.panelEdge (c : Core) (p : Panel) (i : Input) : Core :=
  ((p.edgeNotices i).foldl (fun c n => c.notifyRole .service n) c).takeEdge i (levelOf p.raw i)
    (p.raisesStop i (levelOf p.raw i))

/-- A debounced edge at the Panel and Sensor Unit (R165, R167); an input whose timer stands stopped has none
(notes/assumptions/5.md). -/
def takeEdge (i : Input) (s : State) : State :=
  match s.panel.timers.of i with
  | none => s
  | some _ => ({ s with panel := s.panel.edge i }).act (fun _ c => c.panelEdge s.panel i)

/-! ### Meanings -/

/-- RAW INPUT CHANGE (R165). -/
def execRawInputChange (i : Input) (active : Bool) (s : State) : Answered := event updateOrder s (takeRawInput i active)

/-- DEBOUNCED EDGE (R167). -/
def execDebouncedEdge (i : Input) (s : State) : Answered := event updateOrder s (takeEdge i)

end Sys2Proof.Machine
end

