-- ==== Sys2Proof/Machine/PickerDone.lean ====
section
/-! DEFINITION. What the servo board reports of the picker's motions: DONE, FAILED and the late DONE of a move, the result of a
probe of inventory, and the parts of a recovery (R19, R38, R39, R43, R44, R47, R159). A report of a motion that the picker is not
in is discarded (notes/assumptions/6.md). -/

namespace Sys2Proof.Machine

/-- Whether a DONE of the motion held can be taken (R38, R39): the picker carries it out, or was halted in it. -/
def PickerState.takesDone : PickerState → Bool
  | .moving | .halted => true
  | _ => false

/-- The move the picker is carrying out or was halted in. -/
def Core.movingMove (c : Core) : Option Move :=
  if c.picker.state.takesDone then
    match c.picker.motion with
    | some (.move m) => some m
    | _ => none
  else none

/-- The faulted move of a stall, which can record a late DONE (R39). -/
def Core.stalledMove (c : Core) : Option Move :=
  if c.picker.state = .faulted ∧ c.picker.stalled then
    match c.picker.motion with
    | some (.move m) => some m
    | _ => none
  else none

/-- A late DONE is recorded in the faulted move (R39). -/
def Core.recordLate (c : Core) : Core :=
  if c.stalledMove.isSome then { c with picker := { c.picker with lateDone := true } } else c

/-- A move completes DONE (R39): the picker becomes IDLE, the operation served continues, and a waiting hold is granted
(R40), whose DONE goes last (DESIGN CHOICE, notes/assumptions/69.md). -/
def Core.moveCompleted (e : Fixed) (c : Core) (m : Move) : Core := (moveDone e c.pickerIdle m).grantHold

/-- A move's DONE is taken at the picker (R39). -/
def takeMoveDone (s : State) : State :=
  match s.toCore.movingMove with
  | some m => if m.isProbe then s else s.act (fun e c => c.moveCompleted e m)
  | none => s.onCore Core.recordLate

/-- A motion's FAILED is taken at the picker (R39, R43, R47); a FAILED after the stall is discarded. -/
def takeMoveFailed (s : State) : State :=
  if s.picker.state.takesDone ∧ s.picker.motion.isSome then s.act (fun _ c => c.pickerFail false) else s

/-- A probe of slot `v` reports (R159): the probe table takes the result, and no location changes. -/
def Core.probed (c : Core) (v : SlotId) (occupied : Bool) : Core := (c.pickerIdle.recordProbe v occupied).grantHold

/-- The late DONE of a stalled probe is recorded in the faulted move, with what it reports (R39). -/
def Core.recordLateProbe (occupied : Bool) (c : Core) : Core :=
  match c.stalledMove with
  | some m =>
    if m.isProbe then { c with picker := { c.picker with lateDone := true, lateProbe := some occupied } } else c
  | none => c

/-- The result of an inventory's probe is taken (R159). -/
def takeProbeDone (occupied : Bool) (s : State) : State :=
  match s.toCore.movingMove with
  | some m =>
    match m.serves with
    | .inventoryProbe v => s.act (fun _ c => c.probed v occupied)
    | _ => s
  | none => s.onCore (Core.recordLateProbe occupied)

/-- Whether the motion held has begun: it is under way, or was halted under way with its stall timer suspended (R38, R43). A start
recovery that the gate has not let begin has no stall timer (R47), and no report of it can be due. -/
def Picker.begun (p : Picker) : Bool := p.state == .moving || (p.state == .halted && p.stall.isSome)

/-- The motion whose parts' DONEs are taken: the gate reaches a recovery as it reaches any move (R43), so a DONE taken after the halt
counts (R38; how, notes/assumptions/20.md). -/
def Core.motionNow (c : Core) : Option Motion := if c.picker.begun then c.picker.motion else none

/-- A recovery's re-home is done, reporting whether the gripper holds a cartridge (R43, R44, R47). One that holds has its return to
come, on a HALTED picker still HALTED (DEDUCED, notes/assumptions/20.md). -/
def rehomed (gripped : Bool) (e : Fixed) (c : Core) : Core :=
  match c.motionNow with
  | some (.recovery m false) =>
    if gripped then { c with picker := { c.picker with motion := some (.recovery m true) } } else c.recovered m
  | some .emptyRehome => ((c.recoveryDone .done).grantHold).pickerIdle
  | some (.start .rehome) => startRehomed e c gripped
  | _ => c

/-- A recovery's return to the source is done (R19, R43, R155). -/
def returned (_e : Fixed) (c : Core) : Core :=
  match c.motionNow with
  | some (.recovery m true) => c.recovered m
  | some (.start .returning) => startReturned c
  | _ => c

/-- The start recovery's probe of the destination is done (R19). -/
def destinationProbed (occupied : Bool) (_e : Fixed) (c : Core) : Core :=
  match c.motionNow with
  | some (.start .probing) => startProbed c occupied
  | _ => c

/-! ### Meanings -/

/-- A move DONE (R39). -/
def execPickerMoveDone (s : State) : Answered := event updateOrder s takeMoveDone

/-- A move FAILED (R39). -/
def execPickerMoveFailed (s : State) : Answered := event updateOrder s takeMoveFailed

/-- A DONE after a stall (R39). -/
def execLateMoveDone (s : State) : Answered := event updateOrder s (·.onCore Core.recordLate)

/-- An inventory probe DONE (R159). -/
def execInventoryProbeDone (occupied : Bool) (s : State) : Answered := event updateOrder s (takeProbeDone occupied)

/-- A recovery's re-home DONE (R43). -/
def execRecoveryRehomeDone (gripped : Bool) (s : State) : Answered := event updateOrder s (·.act (rehomed gripped))

/-- A recovery's return DONE (R43). -/
def execRecoveryReturnDone (s : State) : Answered := event updateOrder s (·.act returned)

/-- The start recovery's re-home DONE (R47). -/
def execStartRecoveryRehomeDone (gripped : Bool) (s : State) : Answered := event updateOrder s (·.act (rehomed gripped))

/-- The start recovery's destination probe DONE (R19). -/
def execStartRecoveryDestinationProbeDone (occupied : Bool) (s : State) : Answered :=
  event updateOrder s (·.act (destinationProbed occupied))

end Sys2Proof.Machine
end

