-- ==== Sys2Proof/Machine/ServiceLink.lean ====
section
/-! DEFINITION. The requests of a SERVICE link: the hold, MOVE, the recoveries, import, export, inventory, WITHDRAW, RESTORE
COUNTER, PANEL ACK, SET CONFIG, RESTART (R26, R40 to R45, R71, R148, R149, R156 to R158, R163, R169, R186, R187). -/

namespace Sys2Proof.Machine

/-! ### The service hold (R40, R41) -/

/-- HOLD at Drive and Picker Control (R40). A second HOLD of the link whose hold waits is answered ACCEPTED, and the DONE to
come answers it (notes/assumptions/35.md). -/
def holdRequest (r : Request) (_e : Fixed) (c : Core) : Core :=
  match c.hold with
  | .granted l => if l = r.link then c.answer r .empty else c.refuse r .held
  | .waiting o => if o.link = r.link then { c with hold := .waiting (ordererOf r) }.accept r .empty else c.refuse r .held
  | .none =>
    if c.picker.state = .moving then { c with hold := .waiting (ordererOf r) }.accept r .empty
    else { c with hold := .granted r.link }.answer r .empty

/-- RELEASE at Drive and Picker Control (R41). The HOLD whose wait is withdrawn has no DONE of its own (DESIGN CHOICE,
notes/assumptions/79.md). -/
def releaseRequest (r : Request) (_e : Fixed) (c : Core) : Core :=
  match c.hold with
  | .granted l => if l = r.link then { c with hold := .none }.answer r .empty else c.refuse r .held
  | .waiting o => if o.link = r.link then { c with hold := .none }.answer r .empty else c.refuse r .held
  | .none => c.refuse r .held

/-! ### MOVE (R45) -/

/-- The checks of a slot→drive MOVE (R45 step 4, R157). -/
def Core.mayMoveToDrive (c : Core) (v : SlotId) (d : DriveId) : Bool :=
  c.location v == some .home && !c.heldForOpening v && !c.exportMarked v && (c.drv d).free

/-- The checks of a drive→slot MOVE (R45 step 5, R157). A drive that cannot be unloaded is refused too
(notes/assumptions/47.md). -/
def Core.mayMoveToSlot (c : Core) (v : SlotId) (d : DriveId) : Bool :=
  let x := c.drv d
  (c.location v == some (.inDrive d .a) || c.location v == some (.inDrive d .b)) && x.claims == 0 && x.bound.isNone
    && x.unloadable && !c.filingBusy x && !c.heldForOpening v && !c.exportMarked v

/-- A slot→drive MOVE is taken (R45 step 4). -/
def Core.moveToDrive (c : Core) (sv : ServiceMove) (d : DriveId) (f : Face) : Core :=
  (c.onDrive d (fun x => { x with state := .loading, bound := some (.service sv) })).joinMove (.slot sv.slot)
    (.fixed (.drive d f)) 4 (some sv.by_.link) (.service sv) (some sv.slot)

/-- A drive→slot MOVE is taken (R45 step 5). -/
def Core.moveToSlot (c : Core) (sv : ServiceMove) (d : DriveId) : Core :=
  (c.onDrive d (fun x => { x with bound := some (.service sv) })).beginUnload d

/-- The refusal of a MOVE whose positions are in range, if one is due, in the order of R45. -/
def moveRefusal (c : Core) (l : LinkId) (f : MoveFields) : Option RefusalCode :=
  if c.heldAgainst l then some .held
  else if (c.vol f.slot).isNone then some .noSuchVolume
  else if (if f.face.isSome then c.mayMoveToDrive f.slot f.drive else c.mayMoveToSlot f.slot f.drive) then none
  else some .mediaBusy

/-- A MOVE that passes its checks (R45). -/
def moveRequest (r : Request) (f : MoveFields) (_e : Fixed) (c : Core) : Core :=
  let sv : ServiceMove := { by_ := (ordererOf r), slot := f.slot, toDrive := f.face.isSome }
  match f.face with
  | some face => (c.accept r .empty).moveToDrive sv f.drive face
  | none => (c.accept r .empty).moveToSlot sv f.drive

/-- MOVE at Drive and Picker Control (R45). -/
def takeMove (r : Request) (s : State) : State :=
  match MoveFields.parse r.body with
  | none => s.refuse r .format
  | some f =>
    match moveRefusal s.toCore r.link f with
    | some code => s.refuse r code
    | none => s.act (moveRequest r f)

/-! ### RESUME MECHANISM and CLEAR FAULT (R26, R42 to R44) -/

/-- An accepted RESUME MECHANISM (R42): a HALTED picker begins its recovery motion. One begun again that a CLEAR FAULT had begun is
from then on RESUME MECHANISM's own, and a service MOVE is put back at its end (DESIGN CHOICE, notes/assumptions/85.md). -/
def resumeRequest (r : Request) (_e : Fixed) (c : Core) : Core :=
  match c.picker.state, c.picker.motion with
  | .halted, some m => (c.accept r .empty).beginRecovery (ordererOf r) false m
  | _, _ => c.answer r (.media .done none)

/-- RESUME MECHANISM at Drive and Picker Control (R42, R173): a standing stop is cleared with its PANEL notice. -/
def takeResume (r : Request) (s : State) : State :=
  if recoveryBarred s.toFixed s.toCore r.link then s.refuse r .held
  else
    let p := { s.panel with stop := false }
    let s1 := { s with panel := p }
    let s2 := if s.panel.stop then s1.onCore (·.notifyRole .service (p.notice .stopCleared)) else s1
    s2.act (resumeRequest r)

/-- CLEAR FAULT of a drive (R26). -/
def clearDriveRequest (r : Request) (d : DriveId) (_e : Fixed) (c : Core) : Core :=
  let x := c.drv d
  if x.clearing.isSome then c.refuse r .mediaBusy
  else if x.state ≠ .faulted then c.answer r (.media .done none)
  else if c.heldAgainst r.link then c.refuse r .held
  else
    let c1 := c.accept r .empty
    if x.holdsCartridge then (c1.onDrive d (fun x => { x with clearing := some (ordererOf r) })).issue d .eject .mechanism
    else ((c1.emptyDrive d).clearAlarm (.driveFault d)).mediaDone (ordererOf r) .cleared none

/-- The probe table takes what the late DONE of a probe reported; a slot whose late DONE reported nothing stays UNPROBED
(R39, R44; notes/assumptions/52.md). -/
def Core.lateProbed (c : Core) (m : Move) : Core :=
  match m.serves, c.picker.lateProbe with
  | .inventoryProbe v, some occupied => c.recordProbe v occupied
  | _, _ => c

/-- CLEAR FAULT of a FAULTED picker (R44): a late DONE completes the move and the picker is re-homed empty; otherwise the
recovery motion begins, under a stop that stands as well (DESIGN CHOICE, notes/assumptions/56.md). The ALARM notice goes before what
the completed move's operation sends, a service MOVE's DONE among it (DESIGN CHOICE, notes/assumptions/69.md). -/
def clearPicker (r : Request) (e : Fixed) (c : Core) (m : Motion) : Core :=
  let c1 := (c.accept r .empty).clearAlarm .pickerFault
  match c.picker.lateDone, m with
  | true, .move mv => ((moveDone e c1 mv).lateProbed mv).beginRecovery (ordererOf r) true .emptyRehome
  | _, _ => c1.beginRecovery (ordererOf r) true m

/-- CLEAR FAULT of the picker (R44). -/
def clearPickerRequest (r : Request) (e : Fixed) (c : Core) : Core :=
  if recoveryBarred e c r.link then c.refuse r .held
  else match c.picker.state, c.picker.motion with
    | .faulted, some m => clearPicker r e c m
    | _, _ => c.answer r (.media .done none)

/-- CLEAR FAULT at Drive and Picker Control (R26, R44). -/
def takeClearFault (r : Request) (s : State) : State :=
  match FaultTarget.parse r.body with
  | some (.drive d) => s.act (clearDriveRequest r d)
  | some .picker => s.act (clearPickerRequest r)
  | none => s.refuse r .format

/-! ### IMPORT, EXPORT, INVENTORY (R148, R149, R156 to R158) -/

/-- Whether an inventory runs or an IMPORT or EXPORT is in progress (R148, R156, R158). -/
def Core.mediaBusy (c : Core) : Bool := c.inventory.isSome || c.importOp.isSome || c.exportOp.isSome

/-- The refusal of an IMPORT whose label is printable, if one is due, in the order of R148. Content EMPTY under an active level is
refused MAILSLOT too (DESIGN CHOICE, notes/assumptions/64.md). -/
def importRefusal (s : State) (l : LinkId) : Option RefusalCode :=
  if s.toCore.heldAgainst l then some .held
  else if s.toCore.mediaBusy then some .mediaBusy
  else if s.panel.level.mailslotDoor || !s.panel.level.cartridgePresent then some .mailslot
  else if s.mailslot.holds then none
  else some .mailslot

/-- An IMPORT that passes (R148): a return without identification (R149), or an identification (R150), whose mount is kept
waiting while the emergency stop stands (R30). -/
def importRequest (r : Request) (e : Fixed) (c : Core) : Core :=
  let c1 := c.accept r .empty
  let op (phase : ImportPhase) : ImportOp :=
    { by_ := (ordererOf r), label := r.body, phase, drive := none, faceA := .blank }
  match c.mailslot with
  | .volume v =>
    { c1 with importOp := some (op (.returning v)) }.joinMove .mailslot (.fixed (.slot v)) 4 (some r.link) .importReturn
      (some v)
  | _ => if e.panel.stop then { c1 with importOp := some (op .requested) } else c1.importMount (op .mounting)

/-- IMPORT at the Media Map (R148). -/
def takeImport (r : Request) (s : State) : State :=
  if !r.body.all printable then s.refuse r .format
  else match importRefusal s r.link with
    | some code => s.refuse r code
    | none => s.act (importRequest r)

/-- Whether a job or a mount operation wants a side of a volume (R156). A pending service MOVE is no mount operation here (DESIGN
CHOICE, notes/assumptions/72.md). -/
def Core.wanted (c : Core) (v : SlotId) : Bool :=
  c.queue.any (fun j => j.side.map (·.slot) == some v) ||
    c.mounts.any (fun m => match m.target with
      | .side sd => sd.slot == v
      | _ => false) || c.requests.any (fun q => q.side.slot == v)

/-- Whether an EXPORT may take a volume where it stands (R156). -/
def Core.exportable (c : Core) (v : SlotId) : Bool :=
  (match c.location v with
   | some .home => true
   | some (.inDrive d _) =>
     let x := c.drv d
     x.state != .faulted && x.claims == 0 && x.bound.isNone && x.quiet
   | _ => false)
  && !(c.isOpen ⟨v, .a⟩ || c.isOpen ⟨v, .b⟩ || c.heldForOpening v) && !c.wanted v

/-- The refusal of an EXPORT of a slot in range, if one is due, in the order of R156. -/
def exportRefusal (s : State) (l : LinkId) (v : SlotId) : Option RefusalCode :=
  if s.toCore.heldAgainst l then some .held
  else if (s.toCore.vol v).isNone then some .noSuchVolume
  else if s.toCore.mediaBusy then some .mediaBusy
  else if s.panel.level.mailslotDoor || s.panel.level.cartridgePresent || s.mailslot != .empty then some .mailslot
  else if s.toCore.exportable v then none
  else some .mediaBusy

/-- An EXPORT that passes (R156, R157): it begins at once, or its mark waits until the volume can be moved
(notes/assumptions/51.md). -/
def exportRequest (r : Request) (v : SlotId) (_e : Fixed) (c : Core) : Core :=
  let c1 := c.accept r .empty
  let op : ExportOp := { by_ := ordererOf r, slot := v, drive := none, begun := false }
  (c1.beginExport op).getD { c1 with exportOp := some op }

/-- EXPORT at the Media Map (R156). -/
def takeExport (r : Request) (s : State) : State :=
  match slotOf (fieldNat r.body 0 1) with
  | none => s.refuse r .format
  | some v =>
    match exportRefusal s r.link v with
    | some code => s.refuse r code
    | none => s.act (exportRequest r v)

/-- INVENTORY at the Media Map (R158). -/
def takeInventory (r : Request) (s : State) : State :=
  if s.toCore.heldAgainst r.link then s.refuse r .held
  else if s.toCore.mediaBusy then s.refuse r .mediaBusy
  else s.act (fun _ c => (c.accept r .empty).startInventory (some (ordererOf r)))

/-! ### WITHDRAW (R71) -/

/-- The entry of a number becomes WITHDRAWN, its image and blocks given up (R51, R71). -/
def withdrawn (rn : Nat) (p : PendingEntry) : PendingEntry :=
  if p.rn = rn then { p with state := .withdrawn, blocks := none, image := [] } else p

/-- WITHDRAW of an entry that may be taken (R71). -/
def withdrawRequest (r : Request) (p : PendingEntry) (_e : Fixed) (c : Core) : Core :=
  { c with
    pendingList := c.pendingList.map (withdrawn p.rn)
    blockMap := freeBlocks c.blockMap (p.blocks.getD [])
    engine := c.engine.reached }.answer r .empty

/-- WITHDRAW at the Filing Engine (R71). With COUNTER alone lost it finds the entries of the valid list (DESIGN CHOICE,
notes/assumptions/81.md). -/
def takeWithdraw (r : Request) (s : State) : State :=
  match s.pendingList.find? (fun p => p.rn == fieldNat r.body 0 4) with
  | none => s.refuse r .unknownRn
  | some p =>
    match p.state with
    | .staged => s.act (withdrawRequest r p)
    | .awaitingResubmit => if s.resubmitting p.rn then s.refuse r .mediaBusy else s.act (withdrawRequest r p)
    | _ => s.refuse r .mediaBusy

/-! ### RESTORE COUNTER (R163) -/

/-- Whether the number of a RESTORE COUNTER is high enough (R163). -/
def restorable (s : State) (n : Nat) : Bool :=
  s.toCore.sides.all (fun p => match p.2.lastRn with
    | some b => decide (b < n)
    | none => true)
  && (match s.counter with
      | some k => decide (k.nextRn ≤ n)
      | none => true)
  && (!s.pendingValid || s.pendingList.all (fun p => decide (p.rn < n)))

/-- The RESTORE COUNTER event (R145, R163): COUNTER's alarm is cleared first (DESIGN CHOICE, notes/assumptions/75.md). -/
def State.restoreCounter (s : State) (n d : Nat) : State :=
  let s1 := { s with counter := some ⟨n, d⟩, pendingValid := true, tallyDay := d, courtesy := s.courtesy.settle d }
  s1.onCore (fun c => ((c.clearAlarm (.storeLost .counter)).clearAlarm (.storeLost .pending)).onEngine Engine.reached)

/-- RESTORE COUNTER at the Filing Engine (R163). -/
def takeRestoreCounter (r : Request) (s : State) : State :=
  match parseRestore r.body with
  | none => s.refuse r .format
  | some (n, d) =>
    if s.counter.isSome && s.pendingValid then s.refuse r .format
    else if s.inventory.isSome then s.refuse r .mediaBusy
    else if restorable s n then (s.restoreCounter n d).settled.answer r .empty
    else s.refuse r .unknownRn

/-! ### PANEL ACK, SET CONFIG, RESTART (R169, R186, R187) -/

/-- PANEL ACK at the Panel and Sensor Unit (R169). -/
def takePanelAck (r : Request) (s : State) : State :=
  ({ s with panel := { s.panel with latches := .none } }).answer r (.latches s.panel.latches)

/-- A link's silence timer under a new limit: reloaded while the link is ACTIVE (R183, R186; notes/assumptions/36.md). -/
def LinkUnit.newLimit (u : LinkUnit) (limit : Nat) : LinkUnit :=
  if u.active then { u with timer := timerOf limit } else u

/-- The four links under new silence limits (R186). -/
def reloadAll (links : Four LinkUnit) (silence : Four Nat) : Four LinkUnit :=
  ⟨links.d0.newLimit silence.d0, links.d1.newLimit silence.d1, links.d2.newLimit silence.d2,
   links.d3.newLimit silence.d3⟩

/-- SET CONFIG at the Link Interface (R186). -/
def takeSetConfig (r : Request) (s : State) : State :=
  match Settings.parse r.body with
  | some st => ({ s with settings := st, links := reloadAll s.links st.silence }).answer r .empty
  | none => s.refuse r .format

/-- RESTART at the Retained Store Controller (R187): the reset begins when the DONE has been sent. -/
def takeRestart (r : Request) (s : State) : State :=
  if s.toCore.heldAgainst r.link then s.refuse r .held else s.answer r .restarting

/-! ### Meanings -/

/-- HOLD (R40). -/
def execHold (r : Request) (s : State) : Answered := request .hold r (·.act (holdRequest r)) s

/-- RELEASE (R41). -/
def execRelease (r : Request) (s : State) : Answered := request .release r (·.act (releaseRequest r)) s

/-- MOVE from a home slot to a drive (R45). -/
def execMoveSlotToDrive (r : Request) (s : State) : Answered := request .move r (takeMove r) s

/-- MOVE from a drive to its home slot (R45). -/
def execMoveDriveToSlot (r : Request) (s : State) : Answered := request .move r (takeMove r) s

/-- RESUME MECHANISM (R42, R173). -/
def execResumeMechanism (r : Request) (s : State) : Answered := request .resumeMechanism r (takeResume r) s

/-- CLEAR FAULT naming a drive (R26). -/
def execClearFaultDrive (r : Request) (s : State) : Answered := request .clearFault r (takeClearFault r) s

/-- CLEAR FAULT naming the picker (R44). -/
def execClearFaultPicker (r : Request) (s : State) : Answered := request .clearFault r (takeClearFault r) s

/-- IMPORT (R148). -/
def execImportCartridge (r : Request) (s : State) : Answered := request .importCartridge r (takeImport r) s

/-- EXPORT (R156). -/
def execExportVolume (r : Request) (s : State) : Answered := request .exportVolume r (takeExport r) s

/-- INVENTORY (R158). -/
def execInventory (r : Request) (s : State) : Answered := request .inventory r (takeInventory r) s

/-- WITHDRAW (R71). -/
def execWithdraw (r : Request) (s : State) : Answered := request .withdraw r (takeWithdraw r) s

/-- RESTORE COUNTER (R163). -/
def execRestoreCounter (r : Request) (s : State) : Answered := request .restoreCounter r (takeRestoreCounter r) s

/-- PANEL ACK (R169). -/
def execPanelAck (r : Request) (s : State) : Answered := request .panelAck r (takePanelAck r) s

/-- SET CONFIG (R186). -/
def execSetConfig (r : Request) (s : State) : Answered := request .setConfig r (takeSetConfig r) s

/-- RESTART (R187). -/
def execRestart (r : Request) (s : State) : Answered := request .restart r (takeRestart r) s

end Sys2Proof.Machine
end

