-- ==== Sys2Proof/Machine/Start.lean ====
section
/-! DEFINITION. The start of the part at a reset (0-7, chapter 11, R19 to R21, R47, R77, R78, R80, R128, R134, R143, R144, R164,
R175, R183): the check of the retained store, the completions, the losses, the block start values, the start record, the links
and the panel, and the start of the picker recovery. -/

namespace Sys2Proof.Machine

/-! ### What the reset finds (R190, R191, R197 steps 1 and 2) -/

/-- The store as the reset finds it: the updates of the last event that had not ended are not there, and the word of the section
whose update the reset cut short does not match, nor do the words of the sections that the command names (R190, R191). A
RESTART begins once they have ended (R187). -/
def State.storeFound (s : State) (cause : StartCause) (fate : StoreFate) : Retained :=
  let r := match cause, fate.ended with
    | .restart, _ => s.retained
    | _, none => s.retained
    | _, some n =>
      match s.journal[n]? with
      | some (sec, r) => if fate.inside then r.spoil sec else r
      | none => s.retained
  fate.lost.foldl Retained.spoil r

/-- The sections found lost (R190). -/
def lostSections (r : Retained) : List Section := Section.all.filter (fun sec => !r.valid sec)

/-! ### Updates of the store at a start -/

/-- The store in the course of a start, with the completions made and the updates so far, each with the store before it. -/
structure StoreRun where
  store : Retained
  completions : List Completion
  journal : List (Section × Retained)
deriving DecidableEq, Repr

/-- A section is written (R190): its check word matches from the end of the update. -/
def StoreRun.rewrite (x : StoreRun) (sec : Section) (f : StoreValues → StoreValues) : StoreRun :=
  { x with store := x.store.put (f x.store.toStoreValues) sec, journal := x.journal ++ [(sec, x.store)] }

/-- An update of a section; one that changes no value is none. -/
def StoreRun.update (x : StoreRun) (sec : Section) (f : StoreValues → StoreValues) : StoreRun :=
  if x.store.agreesOn (f x.store.toStoreValues) sec then x else x.rewrite sec f

/-- A completion, when its finding is made: its update, and its place in the start record (R192, R196). -/
def StoreRun.complete (x : StoreRun) (k : Completion) (sec : Section) (f : Option StoreValues) : StoreRun :=
  match f with
  | some r => { x.update sec (fun _ => r) with completions := x.completions ++ [k] }
  | none => x

/-! ### The volume and side records of a store -/

/-- The OPEN side of a volume table. -/
def openSideOf (vs : Vector (Option Volume) 64) : Option (Side × SideRecord) :=
  (allSlots.findSome? (fun v =>
    match vs[v] with
    | some x =>
      if x.sideA.state = .opened then some (⟨v, .a⟩, x.sideA)
      else if x.sideB.state = .opened then some (⟨v, .b⟩, x.sideB) else none
    | none => none))

/-- A side's record replaced in a volume table. -/
def putSide (vs : Vector (Option Volume) 64) (sd : Side) (r : SideRecord) : Vector (Option Volume) 64 :=
  vs.set sd.slot (vs[sd.slot].map (·.setSide sd.face r))

/-! ### Completions (R192): the store completed, when the finding is made -/

/-- A receipt cut between PENDING and COUNTER. -/
def completeReceipt (r : StoreValues) : Option StoreValues :=
  match r.counter, r.pendingList.getLast? with
  | some k, some p => if k.nextRn ≤ p.rn then some { r with counter := some { k with nextRn := p.rn + 1 } } else none
  | _, _ => none

/-- The OPEN side's record grown by the entry a commit had put into the buffer (R192). -/
def SideRecord.withLast (r : SideRecord) (en : DirEntry) : SideRecord :=
  { r with
    entryCount := r.entryCount + 1
    lastRn := r.firstRn.map (· + r.entryCount)
    committedSectors := r.committedSectors + en.sectors }

/-- A commit cut between DIRBUF and VOLUMES; an empty buffer has no last entry (notes/assumptions/37.md). -/
def completeDirbuf (r : StoreValues) : Option StoreValues :=
  match openSideOf r.volumes, r.dirbuf.getLast? with
  | some q, some en =>
    if q.2.entryCount + 1 = Config.entriesPerSector * q.2.flushed + r.dirbuf.length then
      some { r with volumes := putSide r.volumes q.1 (q.2.withLast en) }
    else none
  | _, _ => none

/-- A commit cut between VOLUMES and PENDING. -/
def completePending (r : StoreValues) : Option StoreValues :=
  match openSideOf r.volumes, r.pendingList with
  | some q, p :: ps =>
    match q.2.lastRn with
    | some b => if p.rn ≤ b then some { r with pendingList := ps } else none
    | none => none
  | _, _ => none

/-- The end of a flush cut between VOLUMES and DIRBUF. -/
def completeFlush (r : StoreValues) : Option StoreValues :=
  match openSideOf r.volumes with
  | some q =>
    if r.dirbuf ≠ [] ∧ q.2.entryCount ≤ Config.entriesPerSector * q.2.flushed then some { r with dirbuf := [] } else none
  | none => none

/-- A close cut between TALLIES and COUNTER (R141). -/
def completeClose (r : StoreValues) : Option StoreValues :=
  match r.counter with
  | some k => if r.tallyDay = nextDay k.day then some { r with counter := some { k with day := r.tallyDay } } else none
  | none => none

/-- A completion between two sections that are both valid (R192). -/
def ifValid (lost : List Section) (x y : Section) (f : Option StoreValues) : Option StoreValues :=
  if lost.contains x || lost.contains y then none else f

/-- The completions of a start, in their order (R192, R197 step 3). -/
def completions (lost : List Section) (x : StoreRun) : StoreRun :=
  let x1 := x.complete .receipt .counter (ifValid lost .pending .counter (completeReceipt x.store.toStoreValues))
  let x2 := x1.complete .commitDirbuf .volumes (ifValid lost .dirbuf .volumes (completeDirbuf x1.store.toStoreValues))
  let x3 := x2.complete .commitPending .pending (ifValid lost .volumes .pending (completePending x2.store.toStoreValues))
  let x4 := x3.complete .flush .dirbuf (ifValid lost .volumes .dirbuf (completeFlush x3.store.toStoreValues))
  x4.complete .close .counter (ifValid lost .tallies .counter (completeClose x4.store.toStoreValues))

/-! ### Losses (R193, R194, R21, R144) -/

/-- The record of a volume after a loss of VOLUMES (R21). -/
def lostVolume : Volume := { label := none, loc := .unknown, sideA := .blank, sideB := .blank }

/-- The volume table after the loss of DIRBUF (R194). -/
def endOpenSide (vs : Vector (Option Volume) 64) : Vector (Option Volume) 64 :=
  match openSideOf vs with
  | some q => putSide vs q.1 q.2.ended
  | none => vs

/-- The values taken for a lost section (R193). The loss of DIRBUF ends an OPEN side where VOLUMES is valid (R194), which
is a separate update. -/
def StoreValues.lose (r : StoreValues) : Section → StoreValues
  | .counter => { r with counter := none }
  | .volumes => { r with volumes := Vector.replicate 64 (some lostVolume) }
  | .pending => { r with pendingList := [], pendingValid := false }
  | .dirbuf => { r with dirbuf := [] }
  | .tallies =>
    { r with
      tallies := zeroTallies
      tallyDay := match r.counter with
        | some k => k.day
        | none => 1
      tallyLost := true, snapshot := .empty, closeResult := none }
  | .schedule => { r with schedule := .unset }
  | .courtesy => { r with courtesy := .empty }
  | .settings => { r with settings := .default }
  | .start => r

/-- Whether a section found lost stays lost until a RESTORE COUNTER and is not written at a start (R193). -/
def staysLost (sec : Section) : Bool := sec == .counter || sec == .pending

/-- A section that stays lost holds no values, and its word goes on not to match (R190, R193). -/
def Retained.void (r : Retained) (sec : Section) : Retained :=
  Retained.spoil { r.toStoreValues.lose sec with words := r.words } sec

/-- The store as the check of a start judges it: COUNTER and PENDING hold nothing where they are lost (R193). -/
def Retained.judged (r : Retained) (lost : List Section) : Retained := (lost.filter staysLost).foldl Retained.void r

/-- The losses of a start, in the order of R193: the sections that do not stay lost are rewritten, START not here but with the
start record (R196); and R194 (R197 step 4). -/
def losses (lost : List Section) (x : StoreRun) : StoreRun :=
  let x1 := (lost.filter (fun sec => !staysLost sec && sec != .start)).foldl (fun x sec => x.rewrite sec (·.lose sec)) x
  if lost.contains .dirbuf && !lost.contains .volumes then
    x1.update .volumes (fun r => { r with volumes := endOpenSide r.volumes })
  else x1

/-! ### Block start values (R197 step 5) -/

/-- Whether a start changes a pending entry to AWAITING_RESUBMIT (R77). -/
def PendingState.interrupted : PendingState → Bool
  | .staged | .writing | .verifying => true
  | _ => false

/-- A pending entry at a start (R51, R77): the staging store is free. -/
def PendingEntry.atStart (p : PendingEntry) : PendingEntry :=
  { p with state := if p.state.interrupted then .awaitingResubmit else p.state, blocks := none, image := [] }

/-- The number of entries a start changes to AWAITING_RESUBMIT (R77, R196). -/
def interruptedCount (ps : List PendingEntry) : Nat := (ps.filter (fun p => p.state.interrupted)).length

/-- The day number settled on the tally day mark at a start: where both are held and differ, the day number becomes the mark
(R143, as R141 states; R192 completes a close, and what remains is a RESTORE COUNTER cut between TALLIES and COUNTER,
R191; notes/assumptions/45.md). -/
def StoreValues.settleDay (r : StoreValues) : StoreValues :=
  match r.counter with
  | some k => { r with counter := some { k with day := r.tallyDay } }
  | none => r

/-- The courtesy list settled at a start (R128). -/
def StoreValues.settleCourtesy (r : StoreValues) : StoreValues :=
  match r.counter with
  | some k => { r with courtesy := r.courtesy.settle k.day }
  | none => r

/-- The volume table settled on the mailslot sensor's start level: a volume IN_MAILSLOT becomes OUT when no cartridge lies
there (R20). -/
def mailslotSettled (level : Bool) (vs : Vector (Option Volume) 64) : Vector (Option Volume) 64 :=
  if level then vs
  else vs.map (fun x => x.map (fun y : Volume => if y.loc = .inMailslot then { y with loc := .out } else y))

/-- The store at the end of a start, with the updates made: completions, losses, block start values, the start record, and
the settling of the volume IN_MAILSLOT (R197). -/
def startStore (found : Retained) (cause : StartCause) (lost : List Section) (level : Bool) : StoreRun :=
  let x := losses lost (completions lost { store := found.judged lost, completions := [], journal := [] })
  let n := interruptedCount x.store.pendingList
  let x1 := (x.update .counter StoreValues.settleDay).update .courtesy StoreValues.settleCourtesy
  let x2 := x1.update .pending (fun r => { r with pendingList := r.pendingList.map PendingEntry.atStart })
  let x3 := x2.rewrite .start (fun r => { r with startRecord := ⟨cause, lost, x.completions, n⟩ })
  x3.update .volumes (fun r => { r with volumes := mailslotSettled level r.volumes })

/-- The engine's marks at a start (R78), set when a side is OPEN. -/
def startMarks (r : StoreValues) (g : Engine) : Engine :=
  match openSideOf r.volumes with
  | some q =>
    { g with
      restartMark := true
      flushRetryMark := r.dirbuf.length == Config.entriesPerSector
      restartSealMark := decide (q.2.entryCount < Config.entriesPerSector * q.2.flushed) }
  | none => g

/-! ### Links, panel, mechanism (R197 steps 6 to 8) -/

/-- The role that two strap pins give (R175): 00, 01, 10, 11. -/
def roleOfStrap (b : BitVec 2) : Role :=
  if b = 0 then .counter else if b = 1 then .filing else if b = 2 then .accounts else .service

/-- The link units at a start (R175, R183). -/
def linksAtStart (straps : Four (BitVec 2)) (silence : Four Nat) : Four LinkUnit :=
  ⟨.atStart (roleOfStrap straps.d0) silence.d0, .atStart (roleOfStrap straps.d1) silence.d1,
   .atStart (roleOfStrap straps.d2) silence.d2, .atStart (roleOfStrap straps.d3) silence.d3⟩

/-- The panel at a start (R164, R172): the levels sampled, the timers stopped, the latches clear, the stop standing where
both keys are held. -/
def Panel.atStart (levels : Levels) : Panel :=
  { raw := levels, level := levels, timers := .stopped, latches := .none, stop := levels.kLeft && levels.kRight }

/-- The picker at a start (R47): re-homing, or halted before it under the gate. -/
def Picker.atStart (p : Panel) : Picker :=
  let gated := p.level.frontDoor || p.stop
  { state := if gated then .halted else .moving, motion := some (.start .rehome),
    stall := if gated then none else some Config.stallLimit, stalled := false, lateDone := false, lateProbe := none, by_ := none,
    clearing := false }

/-- The part of the state that follows from the store, the straps and the levels, and that no other event of the start
changes. -/
def startFixed (x : StoreRun) (straps : Four (BitVec 2)) (levels : Levels) : Fixed :=
  { settings := x.store.settings, schedule := x.store.schedule, counter := x.store.counter,
    pendingValid := x.store.pendingValid, tallyDay := x.store.tallyDay, tallyLost := x.store.tallyLost,
    snapshot := x.store.snapshot, closeResult := x.store.closeResult, startRecord := x.store.startRecord,
    clock := none, secondCount := 0, window := none, transfers := Four.all none, panel := .atStart levels, straps,
    resetDue := false }

/-- The blocks at their start values, before the notices of the start (R197 steps 5 and 7). -/
def startCore (x : StoreRun) (straps : Four (BitVec 2)) (levels : Levels) (rebuilding : Bool) : Core :=
  { links := linksAtStart straps x.store.settings.silence, alarms := [], volumes := x.store.volumes, selection := none,
    rebuilding, mailslot := .empty, drives := Four.all .atStart, mounts := [], requests := [],
    picker := .atStart (.atStart levels), moves := [], nextArrival := 1, hold := .none, startPhase := .recovering,
    importOp := none, exportOp := none, inventory := none, engine := startMarks x.store.toStoreValues (.atStart .idle),
    pendingList := x.store.pendingList, blockMap := List.replicate Config.stagingBlocks false,
    dirbuf := x.store.dirbuf, queue := [], nextAccept := 1, tallies := x.store.tallies, courtesy := x.store.courtesy }

/-- The STORE_LOST alarms of a start (R195), COUNTER's first (DESIGN CHOICE, notes/assumptions/75.md). -/
def Core.storeAlarms (c : Core) (lost : List Section) : Core :=
  let c1 := if lost.contains .counter then c.setAlarm (.storeLost .counter) else c
  if lost.contains .pending then c1.setAlarm (.storeLost .pending) else c1

/-- The numbers in AWAITING_RESUBMIT, ascending (R77). -/
def awaitingRns (ps : List PendingEntry) : List Nat :=
  (ps.filter (fun p => p.state == .awaitingResubmit)).map (·.rn)

/-- The RESUBMIT_NEEDED notice of a start, for every FILING link (R77). -/
def Core.resubmitNotice (c : Core) : Core :=
  match awaitingRns c.pendingList with
  | [] => c
  | rns => c.notifyRole .filing (.resubmitNeeded rns false)

/-- The mailslot content from its sensor's start level, and the engine's choice (R59, R77, R146). -/
def Core.startChoices (c : Core) (e : Fixed) : Core :=
  { c with
    mailslot := settledMailslot e.panel.level.cartridgePresent c
    engine := { c.engine with state := (choose e c).state } }

/-- The state at the end of steps 1 to 7 of a start that finds the store `found` with the sections `lost`, the recovery of the
picker begun (R197). The commands that wait stay. -/
def State.startFrom (s : State) (cause : StartCause) (straps : Four (BitVec 2)) (levels : Levels) (found : Retained)
    (lost : List Section) : State :=
  let x := startStore found cause lost levels.cartridgePresent
  let e := startFixed x straps levels
  let c := (((startCore x straps levels (lost.contains .volumes)).storeAlarms lost).resubmitNotice).startChoices e
  { toCore := c, toFixed := e, words := x.store.words, journal := x.journal, pending := s.pending }

/-- The start of the part at a reset (R197). -/
def State.start (s : State) (cause : StartCause) (straps : Four (BitVec 2)) (levels : Levels) (fate : StoreFate) :
    State :=
  let found := s.storeFound cause fate
  s.startFrom cause straps levels found (lostSections found)

/-- RESET (R197). -/
def execReset (cause : StartCause) (straps : Four (BitVec 2)) (levels : Levels) (fate : StoreFate) (s : State) : Answered :=
  .next (s.start cause straps levels fate)

end Sys2Proof.Machine
end

