-- ==== Sys2Proof/Machine/Time.lean ====
section
/-! DEFINITION. The timebase and the expiries of its countdowns: the clock, the reception window, the silence timers, the idle
timers, the drive operation timers and the stall timer (R23, R24, R29, R37, R39, R49, R98, R134, R183, R184). A countdown
reaches 0 at a second tick, and what its end brings about is the expiry's own event (notes/assumptions/5.md). -/

namespace Sys2Proof.Machine

/-! ### The second tick -/

/-- The running second count a second later (R23). -/
def secondAfter (n : Nat) : Nat := if n < Config.maxSecondCount then n + 1 else Config.secondCountAfterLast

/-- The clock a second later (R134): from 86,399 to 0, and unmoved while unset. -/
def clockAfter (t : Option Nat) : Option Nat := t.map (fun n => if n < Config.maxClock then n + 1 else 0)

/-- A countdown a second later. -/
def countdown (t : Option Nat) : Option Nat := t.map (· - 1)

/-- A link's silence timer a second later (R183): it runs on an ACTIVE link only. -/
def LinkUnit.second (u : LinkUnit) : LinkUnit := if u.active then { u with timer := countdown u.timer } else u

/-- A drive's timers a second later: the idle timer of a READY drive with claim count 0 (R29), and the timer of an operation
in flight (R24). -/
def Drive.second (x : Drive) : Drive :=
  { x with
    idle := if x.state = .ready ∧ x.claims = 0 then countdown x.idle else x.idle
    op := x.op.map (fun o : DriveOp => { o with timer := o.timer - 1 }) }

/-- The stall timer a second later: it runs while the picker is MOVING (R39). -/
def Picker.second (p : Picker) : Picker := if p.state = .moving then { p with stall := countdown p.stall } else p

/-- The core a second later. -/
def Core.second (c : Core) : Core :=
  { c with links := c.links.map LinkUnit.second, drives := c.drives.map Drive.second, picker := c.picker.second }

/-- A second of the timebase. -/
def takeSecond (s : State) : State :=
  { s.onCore Core.second with
    clock := clockAfter s.clock, secondCount := secondAfter s.secondCount, window := countdown s.window }

/-! ### The expiries -/

/-- The reception window's remaining time has reached 0 (R49). -/
def takeWindowExpiry (s : State) : State := if s.window = some 0 then { s with window := none } else s

/-- A hold granted to the link is released, one waiting for it withdrawn (R40, R41, R184). -/
def Hold.without (h : Hold) (l : LinkId) : Hold :=
  match h with
  | .granted k => if k = l then .none else h
  | .waiting o => if o.link = l then .none else h
  | .none => .none

/-- Whether the SILENT event discards the DONE of a RESTART, at which the reset begins (R184, R187). -/
def LinkUnit.discardsRestart (u : LinkUnit) : Bool :=
  (u.out.drop 1).any (fun f => match f with
    | .done _ .restarting => true
    | _ => false)

/-- The SILENT event at the core (R184): the link unit, the link's jobs, its hold. -/
def silenceLink (l : LinkId) (e : Fixed) (c : Core) : Core :=
  let c1 := cancelJobsOf e (c.onLink l LinkUnit.silence) l
  { c1 with hold := c1.hold.without l }

/-- The SILENT event of a link (R184), when its silence timer has reached 0. -/
def takeSilent (l : LinkId) (s : State) : State :=
  let u := s.links.get l
  if u.active ∧ u.timer = some 0 then
    ({ s with resetDue := s.resetDue || u.discardsRestart }.dropTransfer l).act (silenceLink l)
  else s

/-- The idle timer of a READY drive with claim count 0 has reached 0: SPIN DOWN is issued and the drive stays READY (R29). -/
def Core.idleExpiry (c : Core) (d : DriveId) : Core :=
  let x := c.drv d
  if x.idle = some 0 ∧ x.state = .ready ∧ x.claims = 0 ∧ x.op = none then
    (c.onDrive d (fun x => { x with idle := none })).issue d .spinDown .idle
  else c

/-- The 60 s timer of a drive operation has reached 0 (R24, R25). -/
def takeOperationTimeout (d : DriveId) (s : State) : State :=
  match (s.drives.get d).op with
  | some o => if o.timer = 0 then s.act (fun e c => operationTimeout e c d o) else s
  | none => s

/-- Whether a motion is a move, not a recovery. -/
def Motion.isMove : Motion → Bool
  | .move _ => true
  | _ => false

/-- The 30 s stall timer of a motion has reached 0 (R39, R43, R47). -/
def takeStall (s : State) : State :=
  if s.picker.state = .moving ∧ s.picker.stall = some 0 then
    s.act (fun _ c => c.pickerFail ((c.picker.motion.map Motion.isMove).getD false))
  else s

/-! ### Meanings -/

/-- CLOCK SECOND TICK (R134). -/
def execClockSecondTick (s : State) : Answered := event updateOrder s takeSecond

/-- RECEPTION WINDOW EXPIRY (R49). -/
def execReceptionWindowExpiry (s : State) : Answered := event updateOrder s takeWindowExpiry

/-- SILENT EVENT (R184). -/
def execSilentEvent (l : LinkId) (s : State) : Answered := event updateOrder s (takeSilent l)

/-- IDLE TIMER EXPIRY (R29). -/
def execIdleTimerExpiry (d : DriveId) (s : State) : Answered := event updateOrder s (·.onCore (·.idleExpiry d))

/-- DRIVE OPERATION TIMEOUT (R24). -/
def execDriveOperationTimeout (d : DriveId) (s : State) : Answered := event updateOrder s (takeOperationTimeout d)

/-- PICKER STALL (R39). -/
def execPickerStall (s : State) : Answered := event updateOrder s takeStall

end Sys2Proof.Machine
end

