-- ==== Sys2Proof/Machine/Dispatch.lean ====
section
/-! DEFINITION. The meaning of each command: one arm per constructor of Instr, in the order of spec/opcode_table.json. -/

namespace Sys2Proof.Machine

def exec (i : Instr) (s : State) : Host.Outcome State Fault Refusal :=
  match i with
  | .fetch r => Sys2Proof.Machine.execFetch r s
  | .walk r => Sys2Proof.Machine.execWalk r s
  | .cancel r => Sys2Proof.Machine.execCancel r s
  | .submit r => Sys2Proof.Machine.execSubmit r s
  | .data r => Sys2Proof.Machine.execData r s
  | .abandon r => Sys2Proof.Machine.execAbandon r s
  | .resubmit r => Sys2Proof.Machine.execResubmit r s
  | .setSchedule r => Sys2Proof.Machine.execSetSchedule r s
  | .readSchedule r => Sys2Proof.Machine.execReadSchedule r s
  | .openReception r => Sys2Proof.Machine.execOpenReception r s
  | .closeReception r => Sys2Proof.Machine.execCloseReception r s
  | .setClock r => Sys2Proof.Machine.execSetClock r s
  | .readTally r => Sys2Proof.Machine.execReadTally r s
  | .closeDay r => Sys2Proof.Machine.execCloseDay r s
  | .readCloseResult r => Sys2Proof.Machine.execReadCloseResult r s
  | .hold r => Sys2Proof.Machine.execHold r s
  | .release r => Sys2Proof.Machine.execRelease r s
  | .moveSlotToDrive r => Sys2Proof.Machine.execMoveSlotToDrive r s
  | .moveDriveToSlot r => Sys2Proof.Machine.execMoveDriveToSlot r s
  | .resumeMechanism r => Sys2Proof.Machine.execResumeMechanism r s
  | .clearFaultDrive r => Sys2Proof.Machine.execClearFaultDrive r s
  | .clearFaultPicker r => Sys2Proof.Machine.execClearFaultPicker r s
  | .importCartridge r => Sys2Proof.Machine.execImportCartridge r s
  | .exportVolume r => Sys2Proof.Machine.execExportVolume r s
  | .inventory r => Sys2Proof.Machine.execInventory r s
  | .withdraw r => Sys2Proof.Machine.execWithdraw r s
  | .restoreCounter r => Sys2Proof.Machine.execRestoreCounter r s
  | .panelAck r => Sys2Proof.Machine.execPanelAck r s
  | .setConfig r => Sys2Proof.Machine.execSetConfig r s
  | .restart r => Sys2Proof.Machine.execRestart r s
  | .status r => Sys2Proof.Machine.execStatus r s
  | .readStartRecord r => Sys2Proof.Machine.execReadStartRecord r s
  | .setNoticeMask r => Sys2Proof.Machine.execSetNoticeMask r s
  | .unknownKindFrame kind r => Sys2Proof.Machine.execUnknownKindFrame kind r s
  | .frameDiscarded link why => Sys2Proof.Machine.execFrameDiscarded link why s
  | .frameSent link => Sys2Proof.Machine.execFrameSent link s
  | .rawInputChange input active => Sys2Proof.Machine.execRawInputChange input active s
  | .debouncedEdge input => Sys2Proof.Machine.execDebouncedEdge input s
  | .reset cause straps levels fate => Sys2Proof.Machine.execReset cause straps levels fate s
  | .clockSecondTick => Sys2Proof.Machine.execClockSecondTick s
  | .receptionWindowExpiry => Sys2Proof.Machine.execReceptionWindowExpiry s
  | .silentEvent link => Sys2Proof.Machine.execSilentEvent link s
  | .idleTimerExpiry drive => Sys2Proof.Machine.execIdleTimerExpiry drive s
  | .driveOperationTimeout drive => Sys2Proof.Machine.execDriveOperationTimeout drive s
  | .pickerStall => Sys2Proof.Machine.execPickerStall s
  | .loadSpinUpComplete drive r => Sys2Proof.Machine.execLoadSpinUpComplete drive r s
  | .spinDownComplete drive => Sys2Proof.Machine.execSpinDownComplete drive s
  | .ejectComplete drive => Sys2Proof.Machine.execEjectComplete drive s
  | .instrumentWriteComplete drive r => Sys2Proof.Machine.execInstrumentWriteComplete drive r s
  | .verifyReadComplete drive r => Sys2Proof.Machine.execVerifyReadComplete drive r s
  | .headerWriteComplete drive r => Sys2Proof.Machine.execHeaderWriteComplete drive r s
  | .sealWriteComplete drive r => Sys2Proof.Machine.execSealWriteComplete drive r s
  | .flushOperationComplete drive r => Sys2Proof.Machine.execFlushOperationComplete drive r s
  | .directoryReadComplete drive r => Sys2Proof.Machine.execDirectoryReadComplete drive r s
  | .chunkReadComplete drive r => Sys2Proof.Machine.execChunkReadComplete drive r s
  | .probeReadComplete drive r => Sys2Proof.Machine.execProbeReadComplete drive r s
  | .importHeaderReadComplete drive r => Sys2Proof.Machine.execImportHeaderReadComplete drive r s
  | .inventoryReadComplete drive r => Sys2Proof.Machine.execInventoryReadComplete drive r s
  | .restartFindBlankComplete drive r => Sys2Proof.Machine.execRestartFindBlankComplete drive r s
  | .inventoryFindBlankComplete drive r => Sys2Proof.Machine.execInventoryFindBlankComplete drive r s
  | .pickerMoveDone => Sys2Proof.Machine.execPickerMoveDone s
  | .pickerMoveFailed => Sys2Proof.Machine.execPickerMoveFailed s
  | .lateMoveDone => Sys2Proof.Machine.execLateMoveDone s
  | .inventoryProbeDone occupied => Sys2Proof.Machine.execInventoryProbeDone occupied s
  | .recoveryRehomeDone gripped => Sys2Proof.Machine.execRecoveryRehomeDone gripped s
  | .recoveryReturnDone => Sys2Proof.Machine.execRecoveryReturnDone s
  | .startRecoveryRehomeDone gripped => Sys2Proof.Machine.execStartRecoveryRehomeDone gripped s
  | .lateDriveCompletion drive => Sys2Proof.Machine.execLateDriveCompletion drive s
  | .startRecoveryDestinationProbeDone occupied => Sys2Proof.Machine.execStartRecoveryDestinationProbeDone occupied s

end Sys2Proof.Machine
end

