-- ==== Sys2Proof/Safety.lean ====
section
/-! DEFINITION. The terms in which statements speak of runs and of next states: a run that goes on, a next state that is known but
for the record of the store's updates, a next state reached through the work that follows an event, and the ranges that the
retained values and the settings keep. -/

namespace Sys2Proof.Machine

/-! ### Runs -/

/-- A state from which the first `n` steps all go on. -/
def safeFor (n : Nat) (s : State) : Prop := ∃ t, Host.Core.run Sys2Proof.core n s = .next t

/-! ### Next states -/

/-- `t` is `u`, but for the check words of the store's sections and the record of its updates (R190, R191,
notes/assumptions/9.md). -/
def Reached (t u : State) : Prop := { t with words := u.words, journal := u.journal } = u

/-- `t` is what the blocks make of `u` in the same event (notes/assumptions/8.md), but for the record of the updates. -/
def ReachedThen (t u : State) : Prop := Reached t u.settled

/-- A request can be examined: no reset is due, and the link has the role (R175, R187). -/
def From (s : State) (l : LinkId) (role : Role) : Prop := s.resetDue = false ∧ (s.links.get l).role = role

/-- The link units after a valid frame on link `l` and the frames `fs` produced for it in answer (R176, R178). -/
def linksAfter (s : State) (l : LinkId) (fs : List OutFrame) : Four LinkUnit :=
  let u := (s.links.get l).validFrame (s.settings.silence.get l)
  s.links.set l { u with out := u.out ++ fs }

/-- Link units with frames joined to the output list of an ACTIVE link (R178). -/
def sendOn (links : Four LinkUnit) (l : LinkId) (fs : List OutFrame) : Four LinkUnit :=
  links.set l { links.get l with out := (links.get l).out ++ fs }

/-- Link units told a notice: every link (R189), or every link of a role. -/
def toldAll (links : Four LinkUnit) (n : Notice) : Four LinkUnit := links.map (·.deliver n)
def toldTo (links : Four LinkUnit) (role : Role) (n : Notice) : Four LinkUnit :=
  links.map (fun u => if u.role = role then u.deliver n else u)

/-- Link units after the DONE of an earlier request is produced: a SILENT link's is discarded (R178, R184). -/
def answered (links : Four LinkUnit) (o : Orderer) (b : DoneBody) : Four LinkUnit :=
  if (links.get o.link).active = true then sendOn links o.link [.done o.tag b] else links

/-- The hold and the link units after a waiting hold is granted (R40). -/
def holdGranted (h : Hold) (links : Four LinkUnit) : Hold × Four LinkUnit :=
  match h with
  | .waiting o => (.granted o.link, answered links o .empty)
  | _ => (h, links)

/-- Link units after the link that ordered a recovery, if one did, is told how it ended (R43). -/
def recoveryTold (by_ : Option Orderer) (links : Four LinkUnit) (x : MediaOutcome) : Four LinkUnit :=
  match by_ with
  | some o => answered links o (.media x none)
  | none => links

/-- The standing alarms with one set, and with one cleared (R189). -/
def withAlarm (alarms : List Alarm) (a : Alarm) : List Alarm :=
  alarms.filter (fun x => x.rank < a.rank) ++ [a] ++ alarms.filter (fun x => a.rank < x.rank)
def withoutAlarm (alarms : List Alarm) (a : Alarm) : List Alarm := alarms.filter (· ≠ a)

/-- The standing alarms and the link units after an alarm is set, or cleared: a change is told to every link, and an alarm that
stands already, or stands not, makes none (R189). -/
def alarmSet (x : List Alarm × Four LinkUnit) (a : Alarm) : List Alarm × Four LinkUnit :=
  if a ∈ x.1 then x else (withAlarm x.1 a, toldAll x.2 (.alarm a true (withAlarm x.1 a)))
def alarmCleared (x : List Alarm × Four LinkUnit) (a : Alarm) : List Alarm × Four LinkUnit :=
  if a ∈ x.1 then (withoutAlarm x.1 a, toldAll x.2 (.alarm a false (withoutAlarm x.1 a))) else x

/-- The record of a job at its acceptance, before it is placed (R81, R84, R103). -/
def freshJob (s : State) (r : Request) (station rn : Nat) (cls : FeeClass) (courtesy : Bool) (prio : Nat)
    (place : Option (Side × Nat)) (knownPages : Option Nat) (walk : Option WalkFields) : Job :=
  { id := { link := r.link, tag := r.tag }, station, rn, cls, courtesy, prio, snap := s.schedule.snapshot cls,
    offline := false, state := .queued, acceptNo := s.nextAccept, side := place.map (·.1),
    index := (place.map (·.2)).getD 0, drive := none, knownPages, entry := none, sent := 0, retry := false,
    cancelled := false, crc := crc32Init, walk }

/-- A drive record with no cartridge, no binding and no idle timer (R26, R45). -/
def emptied (x : Drive) : Drive :=
  { x with state := .empty, loaded := none, unnamed := false, presented := none, filingFlag := false, idle := none,
           bound := none }

/-- A drive record with the side of an identified volume loaded (R23). -/
def seated (x : Drive) (sd : Side) (flag : Bool) : Drive :=
  { x with loaded := some sd, unnamed := false, presented := some sd.face, filingFlag := flag }

/-- The volume table with a present volume's location changed. -/
def relocated (vs : Vector (Option Volume) 64) (v : SlotId) (loc : Location) : Vector (Option Volume) 64 :=
  vs.set v (vs[v].map (fun x => { x with loc }))

/-- A pending move of class 4 with the next arrival number (R37). -/
def serviceMoveOf (s : State) (src : Position) (dst : Dest) (by_ : Option LinkId) (serves : Serves)
    (carries : Option SlotId) : Move :=
  { src, dst, cls := 4, prio := 0, arrival := s.nextArrival, orderedBy := by_, serves, carries }

/-- A drive operation just issued: in flight with the whole of its 60 s (R24). -/
def issued (kind : OpKind) (user : OpUser) : Option DriveOp := some { kind, user, timer := 60 }

/-- The operation in flight on a drive is of this kind, issued by this user. -/
def InFlight (s : State) (d : DriveId) (kind : OpKind) (user : OpUser) : Prop :=
  ∃ n, (s.drives.get d).op = some { kind, user, timer := n }

/-- The drive record at the completion of a READ, WRITE or FIND BLANK: no operation in flight, the last-use time set (R24). -/
def afterUse (s : State) (d : DriveId) : Drive := { s.drives.get d with op := none, lastUse := s.secondCount }

/-- The drive record after a claim on it is released: the last-use time is set (R23), and at 0 on a READY drive the idle timer
starts (R27). -/
def unclaimed (s : State) (x : Drive) : Drive :=
  { x with
    claims := x.claims - 1
    lastUse := s.secondCount
    idle := if x.claims - 1 = 0 ∧ x.state = .ready then some s.settings.idle else x.idle }

/-- A job that held its claim on drive `d`, whose record is `x`, has ended: its claim is released, it leaves the service order,
the queue, the waiting requests and every mount operation, and its DONE is produced (R27, R28, R36, R80). -/
def jobEnded (s : State) (d : DriveId) (x : Drive) (id : JobId) (b : JobDone) : State :=
  { s with
    drives := s.drives.set d (unclaimed s { x with service := x.service.filter (· ≠ id) })
    queue := s.queue.filter (fun j => j.id ≠ id)
    requests := s.requests.filter (fun q => q.who ≠ .job id)
    mounts := s.mounts.map (fun m => { m with requesters := m.requesters.filter (· ≠ .job id) })
    links := answered s.links { link := id.link, tag := id.tag } (.job b) }

/-- The picker taking up a motion under a new 30 s stall timer (R37, R43). -/
def pickerIn (m : Motion) (by_ : Option Orderer) (clearing : Bool) : Picker :=
  { state := .moving, motion := some m, stall := some 30, stalled := false, lateDone := false, lateProbe := none, by_,
    clearing }

/-- The picker IDLE, holding nothing. -/
def pickerFree : Picker :=
  { state := .idle, motion := none, stall := none, stalled := false, lateDone := false, lateProbe := none, by_ := none,
    clearing := false }

/-! ### The engine's choice and what follows it -/

/-- The engine at rest in a state: its claim is released, and it has left what it waited for (R59, R60). -/
def engineRests (s : State) (st : EngineState) : State :=
  { s with
    drives := match s.engine.claim with
      | some d => s.drives.set d (unclaimed s (s.drives.get d))
      | none => s.drives
    requests := s.requests.filter (fun q => q.who ≠ .engine)
    mounts := s.mounts.map (fun m => { m with requesters := m.requesters.filter (· ≠ .engine) })
    engine := { s.engine with state := st, claim := none } }

/-- The engine has chosen by its head at the end of a commit, a flush or a seal (R59). -/
def choosesAgain (s : State) : State :=
  if s.counter = none ∨ s.pendingValid = false then engineRests s (.stalled .storeLost)
  else match s.pendingList with
    | [] => engineRests s .idle
    | p :: _ =>
      if p.state = .awaitingResubmit then engineRests s (.stalled .headAwaiting)
      else { s with engine := { s.engine with state := .mounting } }

/-- A flush of the buffer has begun on drive `d`, whose record is `x` (R67). -/
def flushBegun (s : State) (d : DriveId) (x : Drive) (r : SideRecord) : State :=
  { s with
    engine := { s.engine with state := .flushing, flush := some { step := .writeA, aOk := false } }
    drives := s.drives.set d { x with op := issued (.write (310272 + r.flushed) 1 (directorySector s.dirbuf)) .engineFlush } }

/-- The seal sector of a side is being written on drive `d`, whose record is `x` (R69). -/
def sealBeingWritten (s : State) (d : DriveId) (x : Drive) (r : SideRecord) (why : SealReason) : State :=
  { s with
    engine := { s.engine with state := .sealing, sealing := some why, flush := none }
    drives := s.drives.set d { x with op := issued (.write 1 1 (sealSector r.lastRn r.entryCount why)) .engineSeal } }

/-- A seal of the OPEN side has begun on drive `d`, whose record is `x` (R58, R69): the head is STAGED again, and what the buffer
holds is flushed before the seal sector is written. -/
def sealBegun (s : State) (d : DriveId) (x : Drive) (r : SideRecord) (why : SealReason) : State :=
  let staged (p : PendingEntry) : PendingEntry :=
    if p.state = .writing ∨ p.state = .verifying then { p with state := .staged } else p
  let u : State :=
    { s with
      pendingList := (s.pendingList.take 1).map staged ++ s.pendingList.drop 1
      engine := { s.engine with sealing := some why } }
  if s.dirbuf = [] then sealBeingWritten u d x r why else flushBegun u d x r

/-- The first job of the service order of drive `d` has its turn, or with no job there the engine chooses again (R70). -/
def turnGiven (s : State) (d : DriveId) : State :=
  match (s.drives.get d).service with
  | id :: _ =>
    { s with
      queue := s.queue.map (fun j =>
        if j.id = id then { j with state := if j.state = .sending then .sending else .readingDirectory } else j)
      engine := { s.engine with state := .committing } }
  | [] => choosesAgain s

/-- What follows a commit under a claim on drive `d` (R66, R70): the flush of a full buffer, or the turn. -/
def commitFollowed (s : State) (d : DriveId) (r : SideRecord) : State :=
  if 32 ≤ s.dirbuf.length then flushBegun s d (s.drives.get d) r else turnGiven s d

/-! ### Jobs that waited for the operator -/

/-- The jobs that wait for the operator on a volume, in the order of the queue (R86). -/
def waitingOn (s : State) (v : SlotId) : List Job :=
  s.queue.filter (fun j => decide (j.state = .waitOperator ∧ j.side.map (·.slot) = some v))

/-- A job that waited for the operator has been placed again, its volume no longer off-line (R85, R86): every SERVICE link is told
how many still wait on that volume, and the job asks for its side. -/
def placedAgain (s : State) (j : Job) : State :=
  match j.side with
  | some sd =>
    let left := (waitingOn s sd.slot).filter (fun k => k.id ≠ j.id)
    { s with
      queue := s.queue.map (fun k => if k.id = j.id then { k with state := .waitMount } else k)
      requests := s.requests.filter (fun q => q.who ≠ .job j.id) ++ [{ who := .job j.id, side := sd }]
      mounts := s.mounts.map (fun m => { m with requesters := m.requesters.filter (· ≠ .job j.id) })
      links := toldTo s.links .service (.operatorNeeded sd.slot ((s.toCore.vol sd.slot).bind (·.label)) left.length) }
  | none => s

/-! ### Ranges -/

/-- The settings lie in the ranges of R186. -/
def Settings.legal (x : Settings) : Prop :=
  (∀ l, x.silence.get l ≤ 60) ∧ (x.debounce = 10 ∨ x.debounce = 40 ∨ x.debounce = 160) ∧ 30 ≤ x.idle ∧ x.idle ≤ 600 ∧
    x.tMove ≤ 65535 ∧ x.tFlip ≤ 65535 ∧ x.tSpin ≤ 65535 ∧ x.tDown ≤ 65535 ∧ x.tSeek ≤ 65535 ∧ x.tPage ≤ 65535

/-- The schedule lies in the ranges of R114, and reads 0 throughout while its mark is unset. -/
def Schedule.legal (x : Schedule) : Prop :=
  x.plain.inRange = true ∧ x.certified.inRange = true ∧ x.search.inRange = true ∧ x.o ≤ 9999999 ∧
    (x.isSet = false → x = .unset)

/-- A day number lies in 1–65,535 (R135). -/
def legalDay (d : Nat) : Prop := 1 ≤ d ∧ d ≤ 65535

/-- next_rn lies in the range to which RESTORE COUNTER can set it and a last receipt raise it, and the day number in its own (R52,
R135, R163). -/
def Counter.legal (k : Counter) : Prop := 1 ≤ k.nextRn ∧ k.nextRn ≤ 4294967295 ∧ legalDay k.day

/-- A reception number lies in its range (0-5). -/
def legalRn (n : Nat) : Prop := 1 ≤ n ∧ n ≤ 4294967294

/-- The four records of a station lie in their ranges, and the cents of its COURTESY record are 0 (R131). -/
def StationTally.legal (t : StationTally) : Prop :=
  (∀ cls, (t.of cls).count ≤ 65535 ∧ (t.of cls).cents ≤ 999999999) ∧ t.courtesy.cents = 0

/-- The courtesy list holds at most 64 numbers with no duplicates, and its day is absent exactly while it is empty (R126). -/
def CourtesyList.legal (l : CourtesyList) : Prop :=
  l.rns.length ≤ 64 ∧ l.rns.Nodup ∧ (l.day = none ↔ l.rns = [])

/-- A side record is in keeping with its state (R6): a BLANK side holds the values of R6, the seal reason is absent exactly until
the side has left OPEN, a FULL side was sealed for SPACE, and an OPEN side has its open sequence. -/
def SideRecord.legal (r : SideRecord) : Prop :=
  (r.state = .blank → r = .blank) ∧ (r.sealReason = none ↔ r.state = .blank ∨ r.state = .opened) ∧
    (r.state = .full → r.sealReason = some .space) ∧ (r.state = .opened → r.openSeq ≠ none)

/-- The sides of a volume table are in keeping with their states, and at most one of them is OPEN (R6, R14). -/
def legalTable (vs : Vector (Option Volume) 64) : Prop :=
  (∀ (v : SlotId) x f, vs[v] = some x → (x.side f).legal) ∧
    ∀ (v w : SlotId) x y f g, vs[v] = some x → vs[w] = some y → (x.side f).state = .opened → (y.side g).state = .opened →
      v = w ∧ f = g

/-- The pending list holds at most 16 entries, in strictly ascending order of their numbers (R57). -/
def legalPending (ps : List PendingEntry) : Prop :=
  ps.length ≤ 16 ∧ ps.Pairwise (fun p q => p.rn < q.rn) ∧ ∀ p ∈ ps, legalRn p.rn

/-- The values of the nine sections lie in their ranges (R6, R14, R52, R57, R114, R126, R131, R135, R186), and PENDING holds
nothing while it stays lost (R193). -/
def StoreValues.legal (r : StoreValues) : Prop :=
  (r.settings.legal ∧ r.schedule.legal ∧ (∀ k, r.counter = some k → k.legal) ∧ legalDay r.tallyDay) ∧
    (∀ st : Fin 16, r.tallies[st].legal ∧ r.snapshot.stations[st].legal) ∧ r.courtesy.legal ∧ legalTable r.volumes ∧
    legalPending r.pendingList ∧ (r.pendingValid = false → r.pendingList = [])

/-- Every section that holds values is valid (R190): COUNTER and PENDING hold none while they stay lost (R193). -/
def Retained.sound (r : Retained) : Prop := ∀ sec, r.valid sec = r.holds sec

/-- The fields of a directory entry lie in their ranges (R52, R66, R72, 12-5). -/
def DirEntry.legal (x : DirEntry) : Prop :=
  x.kind ≤ 15 ∧ 1 ≤ x.station ∧ x.station ≤ 16 ∧ x.pages ≤ 4095 ∧ legalDay x.day ∧ x.sectors ≤ 2048 ∧
    (∀ p, x.parcel = some p → 1 ≤ p ∧ p < 2 ^ 32) ∧ (∀ p, x.prior = some p → 1 ≤ p ∧ p < 2 ^ 32) ∧
    (∀ t, x.time = some t → t ≤ 86399) ∧ x.start < 2 ^ 32 ∧ x.size ≤ 2097152

/-- Every countdown that runs lies in its range: the clock, the window, the debounce, silence and idle timers, those of drive
operations and of a stall (R24, R29, R37, R49, R134, R164, R183, R186). -/
def State.timely (s : State) : Prop :=
  (∀ n, s.clock = some n → n ≤ 86399) ∧ (∀ n, s.window = some n → n ≤ 43200) ∧
    (∀ i n, s.panel.timers.of i = some n → n ≤ 160) ∧ (∀ l n, (s.links.get l).timer = some n → n ≤ 60) ∧
    (∀ d n, (s.drives.get d).idle = some n → n ≤ 600) ∧ (∀ d o, (s.drives.get d).op = some o → o.timer ≤ 60) ∧
    ∀ n, s.picker.stall = some n → n ≤ 30

/-- The blocks of the staging store that are reserved, owner by owner (R51). -/
def State.owned (s : State) : List Nat :=
  s.pendingList.flatMap (fun p => p.blocks.getD []) ++
    s.transfers.toList.flatMap (fun t => match t with
      | some x => x.blocks
      | none => [])

/-- The staging block map says which of the 256 blocks are owned, none of them twice, and an entry that waits for its resubmission
or is WITHDRAWN owns none (R51, R57). -/
def State.stagingKept (s : State) : Prop :=
  s.blockMap.length = 256 ∧ s.owned.Nodup ∧ (∀ i : Nat, s.blockMap[i]? = some true ↔ i ∈ s.owned) ∧
    ∀ p ∈ s.pendingList, p.state = .awaitingResubmit ∨ p.state = .withdrawn → p.blocks = none

/-- The entries and the submissions in transfer are at most 16 together; their numbers, those to be given included, lie below
next_rn and in the range of a number; and no submission is in transfer while COUNTER or PENDING stays lost (R52, R57). -/
def State.receiptsBounded (s : State) : Prop :=
  s.pendingList.length + s.submissions ≤ 16 ∧
    (∀ k, s.counter = some k → k.nextRn + s.submissions ≤ 4294967295 ∧ ∀ p ∈ s.pendingList, p.rn < k.nextRn) ∧
    (s.counter = none ∨ s.pendingValid = false → s.submissions = 0)

/-- A face that inventory has read: its record is in keeping with its state, and a side rebuilt as OPEN was found unsealed
(R161). -/
def FaceResult.legal (r : FaceResult) : Prop := r.record.legal ∧ (r.record.state = .opened → r.unsealed = true)

/-- No side is OPEN while one is selected for opening, and the faces that inventory holds are legal (R17, R161). -/
def State.openingsKept (s : State) : Prop :=
  (s.selection ≠ none → ∀ p ∈ s.toCore.sides, p.2.state ≠ .opened) ∧
    ∀ i rd, s.inventory = some i → i.reading = some rd →
      (∀ r, rd.faceA = some r → r.legal) ∧ ∀ r, rd.faceB = some r → r.legal

/-- The values of the nine sections lie in their ranges and carry their check words, as the stores that the record of updates keeps
lie in theirs; the countdowns lie in their ranges; and the pending list, the staging store and the sides keep their rules. -/
def State.legal (s : State) : Prop :=
  s.retained.legal ∧ s.retained.sound ∧ (∀ p ∈ s.journal, p.2.legal) ∧ s.timely ∧ s.receiptsBounded ∧ s.stagingKept ∧
    s.openingsKept

/-! ### Order and bounds -/

/-- A FILED notice lists at most 16 records (R181). -/
def Notice.fits (n : Notice) : Prop :=
  match n with
  | .filed records _ => records.length ≤ 16
  | _ => True

/-- The held set has at most one notice of each kind, in the order of 10-4, and its FILED notice, like those waiting to be
sent, lists at most 16 records (R181). -/
def LinkUnit.orderly (u : LinkUnit) : Prop :=
  (u.held.map Notice.kind).Sublist NoticeKind.all ∧ ∀ n ∈ u.held ++ noticesOf u.out, n.fits

/-- Every link's held set is orderly, and the standing alarms stand once each in the order of R189. -/
def State.orderly (s : State) : Prop :=
  (∀ l, (s.links.get l).orderly) ∧ s.alarms.Pairwise (fun a b => a.rank < b.rank)

/-- The work queue holds at most 24 jobs and at most 8 of one link, each known by its link and tag, in the order of their
acceptance numbers, all of which lie below the next one (R80). -/
def State.queueBounded (s : State) : Prop :=
  s.queue.length ≤ 24 ∧ (∀ l, s.toCore.jobsOf l ≤ 8) ∧ (s.queue.map (·.id)).Nodup ∧
    s.queue.Pairwise (fun a b => a.acceptNo < b.acceptNo) ∧ ∀ j ∈ s.queue, j.acceptNo < s.nextAccept

/-! ### Claims -/

/-- Who waits for a side, each as often as it waits: in the waiting requests and in the mount operations (R30). -/
def Core.requesters (c : Core) : List Requester := c.requests.map (·.who) ++ c.mounts.flatMap (·.requesters)

/-- A job of the queue holds its claim on a drive. -/
def State.holdsClaim (s : State) (id : JobId) (d : DriveId) : Prop := ∃ j ∈ s.queue, j.id = id ∧ j.drive = some d

/-- The claims are in order (R27, R28). The service order of a drive lists the jobs that hold a claim on it, none twice, its claim
count is their number and one more while the engine holds it, and a READ in flight for a job is on the drive of its claim. A job
with a claim has a side and a state that goes with one. Whoever waits for a side waits once and holds no claim, a job with its
side known; and no two mount operations have one arrival number. -/
def State.claimsKept (s : State) : Prop :=
  (∀ d, let x := s.drives.get d
    x.service.Nodup ∧ (∀ id, id ∈ x.service ↔ s.holdsClaim id d) ∧
    x.claims = x.service.length + (if s.engine.claim = some d then 1 else 0) ∧
    ∀ o id, x.op = some o → o.user = .jobDirectory id ∨ o.user = .jobChunk id → s.holdsClaim id d) ∧
  (∀ j ∈ s.queue, j.drive ≠ none → j.side ≠ none ∧
    (j.state = .waitDrive ∨ j.state = .readingDirectory ∨ j.state = .sending)) ∧
  s.toCore.requesters.Nodup ∧
  (∀ id, .job id ∈ s.toCore.requesters → ∃ j ∈ s.queue, j.id = id ∧ j.drive = none ∧ j.side ≠ none) ∧
  (.engine ∈ s.toCore.requesters → s.engine.claim = none) ∧
  (s.mounts.map (·.arrival)).Nodup ∧ ∀ m ∈ s.mounts, m.arrival < s.nextArrival

end Sys2Proof.Machine
end

