-- ==== Sys2Proof/WellFormed.lean ====
section
/-! DEFINITION. Which commands are well formed: those that the part's neighbours can send or report. A request may still be refused:
its fields are its owner's to check (R177). -/

namespace Sys2Proof.Machine

/-- The body fits a frame (R176). -/
def bodyFits (r : Request) : Bool := r.body.length ≤ Config.maxBody

/-- The command is the one that its own kind's body selects (12-3): MOVE by its direction, CLEAR FAULT by its target. -/
def rowMatches (i : Instr) : Bool :=
  match i with
  | .moveSlotToDrive r => fieldNat r.body 1 1 != 2
  | .moveDriveToSlot r => fieldNat r.body 1 1 == 2
  | .clearFaultDrive r => fieldNat r.body 0 1 != 4
  | .clearFaultPicker r => fieldNat r.body 0 1 == 4
  | _ => true

/-- The kind is none that is known to the part (R177). -/
def kindUnknown (kind : Byte) : Bool := (RequestKind.ofCode kind).isNone

/-- A READ that completes GOOD carries whole sectors, one at least (R24). -/
def wholeSectors (r : ReadResult) : Bool :=
  match r with
  | .good data => data.length % Config.sectorBytes == 0 && data.length != 0
  | _ => true

/-- A FIND BLANK names a sector of the side (R5, R24). -/
def sectorOnSide (r : FindResult) : Bool :=
  match r with
  | .good s => s ≤ Config.directoryBLast
  | .none => true

/-- No section is named lost twice (R190). -/
def fateOnce (f : StoreFate) : Bool := f.lost.Nodup

/-- Whether a command is well formed. -/
def wellFormed (i : Instr) : Bool :=
  rowMatches i &&
  match i with
  | .fetch r | .walk r | .cancel r | .submit r | .data r | .abandon r | .resubmit r | .setSchedule r | .readSchedule r
  | .openReception r | .closeReception r | .setClock r | .readTally r | .closeDay r | .readCloseResult r | .hold r
  | .release r | .moveSlotToDrive r | .moveDriveToSlot r | .resumeMechanism r | .clearFaultDrive r
  | .clearFaultPicker r | .importCartridge r | .exportVolume r | .inventory r | .withdraw r | .restoreCounter r
  | .panelAck r | .setConfig r | .restart r | .status r | .readStartRecord r | .setNoticeMask r => bodyFits r
  | .unknownKindFrame kind r => kindUnknown kind && bodyFits r
  | .reset _ _ _ fate => fateOnce fate
  | .verifyReadComplete _ r | .directoryReadComplete _ r | .chunkReadComplete _ r | .probeReadComplete _ r
  | .importHeaderReadComplete _ r | .inventoryReadComplete _ r => wholeSectors r
  | .flushOperationComplete _ (.read r) => wholeSectors r
  | .flushOperationComplete _ (.wrote _) => true
  | .restartFindBlankComplete _ r | .inventoryFindBlankComplete _ r => sectorOnSide r
  | .frameDiscarded _ _ | .frameSent _ | .rawInputChange _ _ | .debouncedEdge _ | .clockSecondTick
  | .receptionWindowExpiry | .silentEvent _ | .idleTimerExpiry _ | .driveOperationTimeout _ | .pickerStall
  | .loadSpinUpComplete _ _ | .spinDownComplete _ | .ejectComplete _ | .instrumentWriteComplete _ _
  | .headerWriteComplete _ _ | .sealWriteComplete _ _ | .pickerMoveDone | .pickerMoveFailed | .lateMoveDone
  | .inventoryProbeDone _ | .recoveryRehomeDone _ | .recoveryReturnDone | .startRecoveryRehomeDone _
  | .lateDriveCompletion _ | .startRecoveryDestinationProbeDone _ => true

end Sys2Proof.Machine
end

