-- ==== Sys2Proof/Certificates/Slice0/Obligations.lean ====
section
/-! DEFINITION. The statements about the part, for the provers. Each docstring names the rules of spec/ it formalises, and the log
entry of a choice that is the model's own. -/

section

open Sys2Proof Sys2Proof.Machine

/-! ### The item computation (chapter 6) -/

/-- R119: the pages term of a PLAIN or CERTIFIED item prices the first T pages at P1 and the rest at P2; of a SEARCH item it
is 0. R120: the raw amount is B, the pages term, S for each step of a SEARCH item, and C for a CERTIFIED item. -/
def Obligations.ItemAmountIsTheSumOfItsTerms : Prop :=
  (∀ (r : ScheduleRecord) (p : Nat),
     (∀ cls, cls ≠ .search →
       (p ≤ r.t → pagesTerm r cls p = r.p1 * p) ∧
       (r.t < p → pagesTerm r cls p = r.p1 * r.t + r.p2 * (p - r.t))) ∧
     pagesTerm r .search p = 0) ∧
  (∀ (r : ScheduleRecord) (p s : Nat),
     rawAmount r .plain p s = r.b + pagesTerm r .plain p ∧
     rawAmount r .certified p s = r.b + pagesTerm r .certified p + r.c ∧
     rawAmount r .search p s = r.b + r.s * s)

/-- R121, R122: the cap acts on the raw amount alone, and the surcharge of an off-line job is added after it. R123: last
digits 0 to 4 in mills round down and 5 to 9 round up, once, over the whole item amount. -/
def Obligations.CapSurchargeAndRoundingAreTakenInOrder : Prop :=
  (∀ (snap : Snapshot) (raw : Nat),
     (0 < snap.record.k → cappedAmount snap.record raw = min raw snap.record.k) ∧
     (snap.record.k = 0 → cappedAmount snap.record raw = raw) ∧
     withSurcharge snap true (cappedAmount snap.record raw) = cappedAmount snap.record raw + snap.o ∧
     withSurcharge snap false (cappedAmount snap.record raw) = cappedAmount snap.record raw) ∧
  ((∀ m d : Nat, d < 10 → toCents (10 * m + d) = if d < 5 then m else m + 1) ∧
   ∀ (snap : Snapshot) (cls : FeeClass) (p s : Nat) (off : Bool),
     itemCents snap cls p s off =
       toCents (withSurcharge snap off (cappedAmount snap.record (rawAmount snap.record cls p s))))

/-- R124: every item fee lies between 0 and 9,999,999 cents, CLAMPED is carried exactly where the rounded cents exceed that,
a COURTESY item is 0 cents, and the fee carried is the one that the current tallies take. R125: the courtesy decision at the
hand-off of a CERTIFIED item with the courtesy option. A number in the list makes a COURTESY item of 0 cents and leaves the
list, the order of the others kept; a number not in it is computed as CERTIFIED with COURTESY_NOT_APPLIED. No item without
the option is a COURTESY item, and none changes the list. -/
def Obligations.ItemFeeIsLimitedAndCourtesyDecided : Prop :=
  (∀ (c : Core) (it : Item),
     let p := c.charge it
     let cents := itemCents it.snap it.cls it.pages it.steps it.offline
     p.2.cents ≤ 9999999 ∧
     (p.2.cls = .courtesy → p.2.cents = 0 ∧ p.2.flags.clamped = false) ∧
     (p.2.cls ≠ .courtesy →
       (9999999 < cents → p.2.cents = 9999999 ∧ p.2.flags.clamped = true) ∧
       (cents ≤ 9999999 → p.2.cents = cents ∧ p.2.flags.clamped = false)) ∧
     p.1.tallies = (c.addTally it.station p.2.cls p.2.cents).tallies) ∧
  (∀ (c : Core) (it : Item),
     (it.cls = .certified → it.courtesy = true → it.rn ∈ c.courtesy.rns →
       (c.charge it).2 = { cents := 0, cls := .courtesy, flags := ⟨false, false, false⟩ } ∧
       (c.charge it).1.courtesy.rns = c.courtesy.rns.filter (· ≠ it.rn)) ∧
     (it.cls = .certified → it.courtesy = true → it.rn ∉ c.courtesy.rns →
       (c.charge it).2.cls = .certified ∧ (c.charge it).2.flags.courtesyNotApplied = true ∧
       (c.charge it).2.cents = min (itemCents it.snap it.cls it.pages it.steps it.offline) 9999999 ∧
       (c.charge it).1.courtesy = c.courtesy) ∧
     (it.courtesy = false →
       (c.charge it).2.cls = it.cls.tally ∧ (c.charge it).2.flags.courtesyNotApplied = false ∧
       (c.charge it).1.courtesy = c.courtesy))

/-! ### Tallies, the close, resolution (chapters 7, 1) -/

/-- R132: after any list of items of one class, a record's count and cents are the sums, each limited, and the SATURATED
mark is set exactly where it stood before or a true sum exceeded its limit; the station's other records are untouched. -/
def Obligations.TallyIsTheLimitedSumOfItsItems : Prop :=
  ∀ (t : StationTally) (cls : TallyClass) (fees : List Nat),
    (t.of cls).count ≤ 65535 → (t.of cls).cents ≤ 999999999 →
    let u := fees.foldl (fun x fee => x.add cls fee) t
    (u.of cls).count = min ((t.of cls).count + fees.length) 65535 ∧
    (u.of cls).cents = min ((t.of cls).cents + fees.sum) 999999999 ∧
    (u.saturated = true ↔
      t.saturated = true ∨ 65535 < (t.of cls).count + fees.length ∨ 999999999 < (t.of cls).cents + fees.sum) ∧
    ∀ other, other ≠ cls → u.of other = t.of other

/-- R138: a station is discrepant at a close exactly where it is involved and its report, if it has one, is not its total;
SHORT below, OVER above, UNREPORTED without a report. R139: what a close result holds: the day mark and the clock, the sum
of the 64 counts, the limited sum of the 64 cent sums, the number of discrepant stations, and each flag where its cause is
met. -/
def Obligations.CloseResultHoldsSumsAndDiscrepancies : Prop :=
  (∀ (ts : Vector StationTally 16) (rs : List TillReport) (x : Discrepancy),
     x ∈ discrepancies ts rs ↔
       (ts[x.station].hasCents = true ∨ (reportOf rs x.station).isSome = true) ∧ x.total = ts[x.station].total ∧
       x.report = reportOf rs x.station ∧
       match x.report with
       | none => x.flag = .unreported
       | some n => (n < x.total ∧ x.flag = .short) ∨ (x.total < n ∧ x.flag = .exceeds)) ∧
  (∀ (ts : Vector StationTally 16) (day : Nat) (lost : Bool) (clock : Option Nat) (rs : List TillReport),
     let res := closeResultOf ts day lost clock rs
     let ds := discrepancies ts rs
     res.day = day ∧ res.time = clock ∧
     res.items = (ts.toList.map (fun t => t.plain.count + t.certified.count + t.search.count + t.courtesy.count)).sum ∧
     res.cents = min (ts.toList.map (fun t => t.plain.cents + t.certified.cents + t.search.cents + t.courtesy.cents)).sum
       999999999 ∧
     res.discrepant = ds ∧ res.outstanding = ds.length ∧
     (res.flags.short = true ↔ ∃ x ∈ ds, x.flag = .short) ∧ (res.flags.exceeds = true ↔ ∃ x ∈ ds, x.flag = .exceeds) ∧
     (res.flags.unreported = true ↔ ∃ x ∈ ds, x.flag = .unreported) ∧
     (res.flags.saturated = true ↔ ∃ st : Fin 16, ts[st].saturated = true) ∧
     (∀ st : Fin 16, st ∈ res.saturated ↔ ts[st].saturated = true) ∧ res.flags.tallyLost = lost)

/-- R15: the five outcomes of the resolution of a number, in the order of the checks, while COUNTER holds next_rn. -/
def Obligations.ResolutionTakesTheFirstCheckThatApplies : Prop :=
  ∀ (e : Fixed) (c : Core) (k : Counter) (n : Nat), e.counter = some k →
    let beyond := n = 0 ∨ k.nextRn ≤ n
    let held := ∃ p ∈ c.pendingList, p.rn = n
    let listed (sd : Side) (i : Nat) := ∃ r a b, (sd, r) ∈ c.sides ∧ r.state ≠ .blank ∧ r.firstRn = some a ∧
      r.lastRn = some b ∧ a ≤ n ∧ n ≤ b ∧ i = n - a
    (beyond → resolve e c n = .beyond) ∧
    (¬beyond → held → resolve e c n = .pending) ∧
    (¬beyond → ¬held → c.rebuilding = true → resolve e c n = .deferred) ∧
    (¬beyond → ¬held → c.rebuilding = false →
      (∀ sd i, resolve e c n = .onSide sd i → listed sd i) ∧
      ((∃ sd i, listed sd i) → ∃ sd i, resolve e c n = .onSide sd i) ∧
      ((¬∃ sd i, listed sd i) → resolve e c n = .unrecorded))

/-! ### Encodings (chapter 12) -/

/-- 12-2, R198: the bytes of the frame of any request, with any tag and any body a frame can carry, are read as that
request. -/
def Obligations.RequestFramesReadBack : Prop :=
  ∀ (k : RequestKind) (link : LinkId) (tag : Half) (body : List Byte), body.length ≤ 1040 →
    frameCommand link (requestFrame k tag body) = command k { link, tag, body }

/-- 12-3: the body that spells the fields of a COUNTER or FILING request, every field at every value of its range, has the length
its kind requires and is read as those fields. That a RESUBMIT of 0 or 4,294,967,295 is read, and not refused FORMAT, is the model's
choice (notes/assumptions/58.md), as is a SUBMIT with the prior number 4,294,967,295 (notes/assumptions/59.md) and a FETCH or WALK
of that number (notes/assumptions/71.md). -/
def Obligations.CustomerBodiesReadBack : Prop :=
  (∀ (tag : Half) (f : FetchFields), tag ≠ 0 → 1 ≤ f.station → f.station ≤ 16 → f.rn < 2 ^ 32 → f.cls ≠ .search →
    (f.courtesy = true → f.cls = .certified) → f.prio ≤ 3 →
    RequestKind.fetch.lengthOk f.body = true ∧ FetchFields.parse tag f.body = some f) ∧
  (∀ (tag : Half) (f : WalkRequest), tag ≠ 0 → 1 ≤ f.station → f.station ≤ 16 → f.start < 2 ^ 32 → 1 ≤ f.limit →
    f.limit ≤ 255 → f.stopKinds.getLsbD 0 = false →
    RequestKind.walk.lengthOk f.body = true ∧ WalkRequest.parse tag f.body = some f) ∧
  (∀ d : Descriptor, 1 ≤ d.station → d.station ≤ 16 → 1 ≤ d.kind → d.kind ≤ 15 → 1 ≤ d.parcel → d.parcel < 2 ^ 32 →
    (∀ p, d.prior = some p → 1 ≤ p ∧ p < 2 ^ 32) → d.pages ≤ 4095 → 1 ≤ d.size → d.size ≤ 2097152 →
    RequestKind.submit.lengthOk d.body = true ∧ Descriptor.parse d.body = some d) ∧
  (∀ f : ResubmitFields, f.rn < 2 ^ 32 → 1 ≤ f.size → f.size ≤ 2097152 →
    RequestKind.resubmit.lengthOk f.body = true ∧ ResubmitFields.parse f.body = some f)

/-- 12-3: the body that spells the fields of an ACCOUNTS or SERVICE request, every field at every value of its range, has
the length its kind requires and is read as those fields; SET NOTICE MASK likewise. -/
def Obligations.OfficeBodiesReadBack : Prop :=
  (∀ s : Schedule, s.legal → s.isSet = true →
    RequestKind.setSchedule.lengthOk s.body = true ∧ Schedule.parse s.body = some s) ∧
  (∀ rs : List TillReport, rs.length ≤ 16 → (rs.map (·.station)).Nodup → (∀ r ∈ rs, r.cents ≤ 999999999) →
    RequestKind.closeDay.lengthOk (closeDayBody rs) = true ∧ parseCloseDay (closeDayBody rs) = some rs) ∧
  (∀ f : MoveFields, RequestKind.move.lengthOk f.body = true ∧ MoveFields.parse f.body = some f) ∧
  (∀ n d : Nat, 1 ≤ n → n < 2 ^ 32 → legalDay d →
    RequestKind.restoreCounter.lengthOk (restoreBody n d) = true ∧ parseRestore (restoreBody n d) = some (n, d)) ∧
  (∀ s : Settings, s.legal → RequestKind.setConfig.lengthOk s.body = true ∧ Settings.parse s.body = some s) ∧
  (∀ m : NoticeMask, RequestKind.setNoticeMask.lengthOk m.body = true ∧ NoticeMask.parse m.body = some m)

/-- 12-5, R199: a header sector written is read as its header, a seal sector as its seal, and a directory sector as its
entries, each at its position and the rest blank. -/
def Obligations.PlatterRecordsReadBack : Prop :=
  (∀ h : Header, h.label.length = 8 → (∀ b ∈ h.label, printable b = true) → h.openSeq < 2 ^ 16 → h.firstRn < 2 ^ 32 →
    headerRead (some h.face) (.good h.sector) = .header h) ∧
  (∀ (last : Option Nat) (n : Nat) (why : SealReason), (∀ b, last = some b → 1 ≤ b ∧ b < 2 ^ 32) → n ≤ 16384 →
    sealRead (.good (sealSector last n why)) = .sealed last n why) ∧
  (∀ (es : List DirEntry) (j : Nat), es.length ≤ 32 → (∀ e ∈ es, e.legal) → j < 32 →
    entryGiven (directorySector es) j = es[j]?)

/-! ### Steps, and what holds of every command -/

/-- R177: a step takes the command at the front of the queue and is that command's effect on the state with the queue's rest,
so that commands are taken in the order of their arrival (one queue for all who send: the model's choice,
notes/assumptions/17.md). -/
def Obligations.StepTakesTheFrontCommand : Prop :=
  ∀ (c : Instr) (rest : List Instr) (s : State), s.pending = c :: rest → step s = exec c { s with pending := rest }

/-- Every command goes on from every state, and none touches the queue. R187: once the DONE of a RESTART has been sent or
discarded the reset begins, and nothing but the reset changes anything (notes/assumptions/38.md: no frame in the lists of
the other links is sent behind that event). That no command, RESET included, touches the commands that wait is the model's
choice (notes/assumptions/39.md). -/
def Obligations.EveryCommandGoesOnAndNoneBeforeADueReset : Prop :=
  (∀ (c : Instr) (s : State), ∃ t, exec c s = .next t ∧ t.pending = s.pending) ∧
  (∀ (c : Instr) (s : State), s.resetDue = true → (∀ cause straps levels fate, c ≠ .reset cause straps levels fate) →
     exec c s = .next s)

/-- R177: a frame of a known kind is refused ROLE where the link's role may not make the request, FORMAT where it may and
the body length is not the kind's, and the refusal changes nothing beyond the silence timer and the link state. -/
def Obligations.RequestsAreExaminedInOrder : Prop :=
  ∀ (k : RequestKind) (r : Request) (s : State), s.resetDue = false →
    (k.permitted (s.links.get r.link).role = false →
      ∃ t, exec (command k r) s = .next t ∧ Reached t { s with links := linksAfter s r.link [.refused r.tag .role] }) ∧
    (k.permitted (s.links.get r.link).role = true → k.lengthOk r.body = false →
      ∃ t, exec (command k r) s = .next t ∧ Reached t { s with links := linksAfter s r.link [.refused r.tag .format] })

/-- R177, R176: a valid frame of a kind unknown to the part is refused FORMAT, on a link of any role, and nothing else
changes beyond the silence timer and the link state; a frame that is discarded, and the real completion of a drive operation
that has ended (R24), change nothing. R178, R187: a frame sent leaves the head of its link's output list, and where it is
the DONE of a RESTART the reset begins; nothing else changes. -/
def Obligations.FramesThatAreNoRequestAndFramesSent : Prop :=
  ((∀ (kind : Byte) (r : Request) (s : State), s.resetDue = false →
     ∃ t, exec (.unknownKindFrame kind r) s = .next t ∧
       Reached t { s with links := linksAfter s r.link [.refused r.tag .format] }) ∧
   (∀ (l : LinkId) (why : DiscardCause) (s : State), exec (.frameDiscarded l why) s = .next s) ∧
   (∀ (d : DriveId) (s : State), exec (.lateDriveCompletion d) s = .next s)) ∧
  (∀ (l : LinkId) (f : OutFrame) (fs : List OutFrame) (s : State), s.resetDue = false → (s.links.get l).out = f :: fs →
     ∃ t, exec (.frameSent l) s = .next t ∧
       Reached t { s with links := s.links.set l { s.links.get l with out := fs }, resetDue := f.isRestart })

/-- R178: every frame produced for a link joins the tail of its output list, and a frame leaves that list only where it is
sent, at the SILENT event of the link, or at a reset. -/
def Obligations.OutputListsGrowAtTheTail : Prop :=
  ∀ (c : Instr) (s t : State) (l : LinkId), exec c s = .next t → c ≠ .frameSent l → c ≠ .silentEvent l →
    (∀ cause straps levels fate, c ≠ .reset cause straps levels fate) →
    ∃ fs, (t.links.get l).out = (s.links.get l).out ++ fs

/-- Which commands write a value: next_rn and the day number, the schedule, the settings, the clock, the reception window,
the close result; the start record only a reset. Every other command leaves it (R49, R50, R56, R114, R134, R135, R139, R163,
R186, R196). -/
def Obligations.EachValueHasItsWriters : Prop :=
  ∀ (c : Instr) (s t : State), exec c s = .next t → (∀ cause straps levels fate, c ≠ .reset cause straps levels fate) →
    (t.counter = s.counter ∨
      (∃ r k, c = .data r ∧ s.counter = some k ∧ t.counter = some { k with nextRn := k.nextRn + 1 }) ∨
      (∃ r k, c = .closeDay r ∧ s.counter = some k ∧ t.counter = some { k with day := t.tallyDay }) ∨
      (∃ r, c = .restoreCounter r)) ∧
    (t.schedule = s.schedule ∨ ∃ r, c = .setSchedule r) ∧
    (t.settings = s.settings ∨ ∃ r, c = .setConfig r) ∧
    (t.clock = s.clock ∨ (∃ r, c = .setClock r) ∨ c = .clockSecondTick) ∧
    (t.window = s.window ∨ (∃ r, c = .openReception r) ∨ (∃ r, c = .closeReception r) ∨ c = .clockSecondTick ∨
      c = .receptionWindowExpiry) ∧
    (t.closeResult = s.closeResult ∨ ∃ r, c = .closeDay r) ∧
    (t.startRecord = s.startRecord)

/-- The machine right after reset meets what every step keeps: its retained values and countdowns lie in their ranges (R49, R114,
R131, R135, R186), its pending list, staging store and sides keep their rules (R57, R6), its held sets and standing alarms are in
order (R181; that the alarms have an order, and which, is the model's choice, notes/assumptions/66.md), its work queue is in bounds
(R80), and its claims are in order (R27, R28). -/
def Obligations.ResetMeetsTheInvariants : Prop :=
  (State.reset.legal) ∧
  (State.reset.orderly ∧ State.reset.queueBounded ∧ State.reset.claimsKept)

/-- Every step keeps the values of the nine sections in their ranges, each section with its check word (R190), and the stores that
the record of updates keeps in theirs: the settings (R186), the schedule (R114), next_rn and the day number (R135, R163), the
tallies of both days (R131), the courtesy list (R126), the pending list in ascending order and of at most 16 entries with the
submissions in transfer (R52, R57), the side records in keeping with their states and at most one side OPEN (R6, R14). It keeps
every countdown in its range: the clock, the window, the debounce, silence, idle, operation and stall timers (R49, R164). It keeps
the staging block map the one of the blocks owned, none owned twice (R51), and no side OPEN while one is selected (R17). Nothing is
claimed of the counts of a side record among themselves: those of a side rebuilt by inventory are what its platter gave (R161).
(What a record of updates holds is the model's own, notes/assumptions/9.md.) -/
def Obligations.EveryStepKeepsTheRanges : Prop :=
  ∀ s t : State, s.legal → step s = .next t → t.legal

/-- R181, R189: every step keeps at most one held notice of each kind, in order and of a FILED notice at most 16 records,
and keeps each alarm standing at most once, in order. (That the standing alarms stand in an order, and in which, is the model's
choice, notes/assumptions/66.md, which R189 does not give.) -/
def Obligations.EveryStepKeepsNoticesAndAlarmsInOrder : Prop :=
  ∀ s t : State, s.orderly → step s = .next t → t.orderly

/-- R80: every step keeps the work queue in its bounds: 24 jobs, 8 of one link, no tag twice on one link, in acceptance
order. R27, R28: with it, every step keeps the claims in order: the service order of each drive lists the jobs that hold a claim
on it, none twice; the claim count is their number, and one more while the engine holds it; a READ for a job is in flight on the
drive of its claim only. R30: whoever waits for a side waits once and holds no claim. -/
def Obligations.EveryStepKeepsTheWorkQueueInBounds : Prop :=
  ∀ s t : State, s.queueBounded → s.claimsKept → step s = .next t → t.queueBounded ∧ t.claimsKept

/-! ### ACCOUNTS links (chapters 3, 6, 7) -/

/-- R115: a SET SCHEDULE whose fields lie in their ranges replaces the schedule, set mark included, and is answered DONE;
one with a field out of range is refused SCHEDULE and leaves it. -/
def Obligations.SetScheduleReplacesTheSchedule : Prop :=
  ∀ (r : Request) (s : State), From s r.link .accounts → r.body.length = 88 →
    let records := [ScheduleRecord.at_ r.body 0, ScheduleRecord.at_ r.body 28, ScheduleRecord.at_ r.body 56]
    let o := fieldNat r.body 84 4
    let good := (∀ x ∈ records, x.b ≤ 9999999 ∧ x.p1 ≤ 999999 ∧ x.t ≤ 4095 ∧ x.p2 ≤ 999999 ∧ x.s ≤ 999999 ∧
      x.c ≤ 9999999 ∧ x.k ≤ 99999999) ∧ o ≤ 9999999
    (good → ∃ t, exec (.setSchedule r) s = .next t ∧ Reached t
      { s with
        schedule := { isSet := true, plain := .at_ r.body 0, certified := .at_ r.body 28, search := .at_ r.body 56, o }
        links := linksAfter s r.link [.done r.tag .empty] }) ∧
    (¬good → ∃ t, exec (.setSchedule r) s = .next t ∧ Reached t
      { s with links := linksAfter s r.link [.refused r.tag .schedule] })

/-- R116, R142, R136: the reads of an ACCOUNTS link answer RESULT with the values held and change nothing: the schedule, the
last close result, the current tallies (1) with their day mark while COUNTER is valid, the previous-day snapshot (2). -/
def Obligations.AccountsReadsAnswerTheValuesHeld : Prop :=
  ∀ (r : Request) (s : State), From s r.link .accounts →
    let answered (b : ResultBody) : State := { s with links := linksAfter s r.link [.result r.tag b] }
    let current : ResultBody := .tally false (s.counter.map (fun _ => s.tallyDay)) s.tallyLost s.tallies
    let previous : ResultBody := .tally true s.snapshot.day s.snapshot.tallyLost s.snapshot.stations
    (r.body = [] → ∃ t, exec (.readSchedule r) s = .next t ∧ Reached t (answered (.schedule s.schedule))) ∧
    (r.body = [] → ∃ t, exec (.readCloseResult r) s = .next t ∧ Reached t (answered (.closeResult s.closeResult))) ∧
    (r.body = [1] → ∃ t, exec (.readTally r) s = .next t ∧ Reached t (answered current)) ∧
    (r.body = [2] → ∃ t, exec (.readTally r) s = .next t ∧ Reached t (answered previous)) ∧
    (∀ b : Byte, b ≠ 1 → b ≠ 2 → r.body = [b] → ∃ t, exec (.readTally r) s = .next t ∧ Reached t
      { s with links := linksAfter s r.link [.refused r.tag .format] })

/-- R49, R50: OPEN RECEPTION of 1 to 720 minutes opens the window for that many minutes, from now, and its DONE carries the
seconds; any other number is refused FORMAT. CLOSE RECEPTION closes it. R134: SET CLOCK with a time of 0 to 86,399 s sets
the clock; any other value is refused FORMAT and leaves it. -/
def Obligations.ReceptionAndClockAreSet : Prop :=
  (∀ (r : Request) (s : State), From s r.link .accounts →
     let n := fieldNat r.body 0 2
     (r.body.length = 2 → 1 ≤ n → n ≤ 720 → ∃ t, exec (.openReception r) s = .next t ∧ Reached t
       { s with window := some (n * 60), links := linksAfter s r.link [.done r.tag (.remaining (n * 60))] }) ∧
     (r.body.length = 2 → n = 0 ∨ 720 < n → ∃ t, exec (.openReception r) s = .next t ∧ Reached t
       { s with links := linksAfter s r.link [.refused r.tag .format] }) ∧
     (r.body = [] → ∃ t, exec (.closeReception r) s = .next t ∧ Reached t
       { s with window := none, links := linksAfter s r.link [.done r.tag .empty] })) ∧
  (∀ (r : Request) (s : State), From s r.link .accounts → r.body.length = 4 →
     let n := fieldNat r.body 0 4
     (n ≤ 86399 → ∃ t, exec (.setClock r) s = .next t ∧ Reached t
       { s with clock := some n, links := linksAfter s r.link [.done r.tag .empty] }) ∧
     (86399 < n → ∃ t, exec (.setClock r) s = .next t ∧ Reached t
       { s with links := linksAfter s r.link [.refused r.tag .format] }))

/-- R137, R138, R139: a CLOSE DAY while COUNTER is valid and the window CLOSED builds the close result of the current
tallies against the reports, copies the tallies into the snapshot, clears them and the courtesy list, raises the tally day
mark and the day number to the next day (1 after 65,535), tells every ACCOUNTS link DAY_CLOSED, and is answered RESULT with
the close result. While COUNTER stands lost it is refused STORE_LOST, while the window is OPEN DAY_OPEN. -/
def Obligations.CloseDayClosesTheDay : Prop :=
  ∀ (r : Request) (rs : List TillReport) (s : State), From s r.link .accounts → RequestKind.closeDay.lengthOk r.body = true →
    parseCloseDay r.body = some rs →
    let res := closeResultOf s.tallies s.tallyDay s.tallyLost s.clock rs
    let day := if 65535 ≤ s.tallyDay then 1 else s.tallyDay + 1
    let notice := Notice.dayClosed s.tallyDay day res.outstanding res.flags
    (∀ k, s.counter = some k → s.window = none → ∃ t, exec (.closeDay r) s = .next t ∧ Reached t
      { s with
        closeResult := some res
        snapshot := { day := some s.tallyDay, tallyLost := s.tallyLost, stations := s.tallies }
        tallies := zeroTallies
        tallyLost := false
        tallyDay := day
        courtesy := { rns := [], day := none }
        counter := some { k with day := day }
        links := sendOn (toldTo (linksAfter s r.link []) .accounts notice) r.link
          [.result r.tag (.closeResult (some res))] }) ∧
    (s.counter = none → ∃ t, exec (.closeDay r) s = .next t ∧ Reached t
      { s with links := linksAfter s r.link [.refused r.tag .storeLost] }) ∧
    (∀ k, s.counter = some k → s.window ≠ none → ∃ t, exec (.closeDay r) s = .next t ∧ Reached t
      { s with links := linksAfter s r.link [.refused r.tag .dayOpen] })

/-! ### Every role (chapters 10, 11) -/

/-- R188: STATUS is answered RESULT with the values as held, the asking link's own role, limit and mask first, and changes
nothing beyond the silence timer and the link state. That the field "bound mount" shows every binding of a drive is the model's
choice (notes/assumptions/57.md). -/
def Obligations.StatusShowsTheValuesHeld : Prop :=
  ∀ (r : Request) (s : State), s.resetDue = false → r.body = [] →
    ∃ t st, exec (.status r) s = .next t ∧ Reached t { s with links := linksAfter s r.link [.result r.tag (.status st)] } ∧
      st.role = (s.links.get r.link).role ∧ st.silence = s.settings.silence.get r.link ∧
      st.mask = (s.links.get r.link).mask ∧ st.active.get r.link = true ∧
      (∀ l, l ≠ r.link → st.active.get l = (s.links.get l).active) ∧
      st.window = s.window ∧ st.nextRn = s.counter.map (·.nextRn) ∧ st.day = s.counter.map (·.day) ∧
      st.pendingCount = s.pendingList.length ∧
      st.awaitingCount = (s.pendingList.filter (fun p => p.state == .awaitingResubmit)).length ∧
      st.engine = s.engine.state ∧ st.freeBlocks = (s.blockMap.filter (· == false)).length ∧ st.clock = s.clock ∧
      st.jobs = s.queue.length ∧ st.waitOperator = (s.queue.filter (fun j => j.state == .waitOperator)).length ∧
      st.picker = s.picker.state ∧ st.hold = s.hold ∧ st.moves = s.moves.length ∧
      st.highMoves = (s.moves.filter (fun m => 3 ≤ m.cls)).length ∧
      (∀ d, (st.drives.get d).state = (s.drives.get d).state ∧ (st.drives.get d).loaded = (s.drives.get d).loaded ∧
        (st.drives.get d).claims = (s.drives.get d).claims ∧
        (st.drives.get d).filingFlag = (s.drives.get d).filingFlag ∧
        (st.drives.get d).jobs = (s.drives.get d).service.length ∧
        (st.drives.get d).bound = (s.drives.get d).bound.isSome) ∧
      st.levels = s.panel.level ∧ st.latches = s.panel.latches ∧ st.stop = s.panel.stop ∧ st.alarms = s.alarms

/-- R187: READ START RECORD is answered RESULT with the start record as it stands and changes nothing; RESTART from a
SERVICE link is answered DONE, and refused HELD while a hold is granted to another link. -/
def Obligations.StartRecordAndRestart : Prop :=
  ∀ (r : Request) (s : State), s.resetDue = false → r.body = [] →
    (∃ t, exec (.readStartRecord r) s = .next t ∧
      Reached t { s with links := linksAfter s r.link [.result r.tag (.startRecord s.startRecord)] }) ∧
    ((s.links.get r.link).role = .service → (∀ l, s.hold = .granted l → l = r.link) →
      ∃ t, exec (.restart r) s = .next t ∧ Reached t { s with links := linksAfter s r.link [.done r.tag .restarting] }) ∧
    (∀ l, (s.links.get r.link).role = .service → s.hold = .granted l → l ≠ r.link →
      ∃ t, exec (.restart r) s = .next t ∧ Reached t { s with links := linksAfter s r.link [.refused r.tag .held] })

/-- R182: SET NOTICE MASK replaces the link's mask, its DONE carries it, and the held notices it enables follow in the order
of 10-4 and leave the held set; a mask byte of 64 or above is refused FORMAT (R198). -/
def Obligations.SetNoticeMaskReleasesHeldNotices : Prop :=
  ∀ (r : Request) (b : Byte) (s : State), s.resetDue = false → r.body = [b] → (s.links.get r.link).active = true →
    let u := s.links.get r.link
    let limit := s.settings.silence.get r.link
    let m : NoticeMask := ⟨b.getLsbD 0, b.getLsbD 1, b.getLsbD 2, b.getLsbD 3, b.getLsbD 4, b.getLsbD 5⟩
    let masked : LinkUnit :=
      { u with
        mask := m
        timer := if limit = 0 then none else some limit
        out := u.out ++ .done r.tag (.mask m) :: (u.held.filter (fun n => m.enables n.kind)).map .notice
        held := u.held.filter (fun n => !m.enables n.kind) }
    (b.toNat < 64 → ∃ t, exec (.setNoticeMask r) s = .next t ∧
      Reached t { s with links := s.links.set r.link masked }) ∧
    (64 ≤ b.toNat → ∃ t, exec (.setNoticeMask r) s = .next t ∧
      Reached t { s with links := linksAfter s r.link [.refused r.tag .format] })

/-! ### FILING links (chapter 3) -/

/-- R52: a SUBMIT that passes its checks begins a transfer: its blocks are reserved (the lowest-numbered free ones,
notes/assumptions/13.md) and ACCEPTED carries the number of DATA frames to come; nothing else changes. R52: the refusals of
a SUBMIT whose fields are in range, in their order, each where no earlier one is due; a refused SUBMIT changes nothing. (That a
prior number of 4,294,967,295 is in range, and so ends in BAD_LINK or an earlier refusal, is the model's choice,
notes/assumptions/59.md.) -/
def Obligations.SubmitBeginsATransferOrIsRefused : Prop :=
  (∀ (r : Request) (d : Descriptor) (k : Counter) (s : State), From s r.link .filing → r.body.length = 20 →
     Descriptor.parse r.body = some d → s.counter = some k → s.pendingValid = true → s.window ≠ none →
     s.transfers.get r.link = none → s.pendingList.length + s.submissions < 16 →
     blocksOf d.size ≤ freeCount s.blockMap → k.nextRn + s.submissions ≤ 4294967294 →
     (∀ p, d.prior = some p → p < k.nextRn) →
     let blocks := pickBlocks s.blockMap (blocksOf d.size)
     let t : Transfer :=
       { tag := r.tag, kind := .submission d, size := d.size, crc := d.crc, expected := sectorsOf d.size, nextSeq := 0,
         blocks, image := [] }
     ∃ u, exec (.submit r) s = .next u ∧ Reached u
       { s with
         transfers := s.transfers.set r.link (some t)
         blockMap := reserve s.blockMap blocks
         links := linksAfter s r.link [.accepted r.tag (.frames (sectorsOf d.size))] }) ∧
  (∀ (r : Request) (d : Descriptor) (s : State), From s r.link .filing → r.body.length = 20 →
     Descriptor.parse r.body = some d →
     let refused (code : RefusalCode) : Prop := ∃ u, exec (.submit r) s = .next u ∧
       Reached u { s with links := linksAfter s r.link [.refused r.tag code] }
     (s.counter = none ∨ s.pendingValid = false → refused .storeLost) ∧
     ∀ k, s.counter = some k → s.pendingValid = true →
       (s.window = none → refused .closed) ∧
       (s.window ≠ none →
         (s.transfers.get r.link ≠ none → refused .busy) ∧
         (s.transfers.get r.link = none →
           let full := 16 ≤ s.pendingList.length + s.submissions ∨ freeCount s.blockMap < blocksOf d.size ∨
             4294967294 < k.nextRn + s.submissions
           (full → refused .full) ∧
           (¬full → ∀ p, d.prior = some p → k.nextRn ≤ p → refused .badLink))))

/-- R53, R54: a DATA frame of the right sequence number and length that is not the last is stored and answered ACCEPTED with
its number; one of another number or length ends the transfer, refused FORMAT, its blocks returned; one without a transfer,
or with another tag, is refused NO_TRANSFER and changes nothing. R54: ABANDON ends the link's transfer, its blocks returned,
and is answered DONE; without one it is refused NO_TRANSFER. -/
def Obligations.DataFramesAreStoredInOrderUntilAbandoned : Prop :=
  (∀ (r : Request) (s : State), From s r.link .filing → 3 ≤ r.body.length → r.body.length ≤ 1026 →
     let seq := fieldNat r.body 0 2
     (∀ t, s.transfers.get r.link = some t → t.tag = r.tag →
       let length := if seq + 1 = t.expected then t.size - 1024 * seq else 1024
       let good := seq = t.nextSeq ∧ r.body.length = length + 2
       (good → seq + 1 ≠ t.expected → ∃ u, exec (.data r) s = .next u ∧ Reached u
         { s with
           transfers := s.transfers.set r.link (some { t with nextSeq := seq + 1, image := t.image ++ r.body.drop 2 })
           links := linksAfter s r.link [.accepted r.tag (.sequence seq)] }) ∧
       (¬good → ∃ u, exec (.data r) s = .next u ∧ Reached u
         { s with
           transfers := s.transfers.set r.link none
           blockMap := freeBlocks s.blockMap t.blocks
           links := linksAfter s r.link [.refused r.tag .format] })) ∧
     ((∀ t, s.transfers.get r.link = some t → t.tag ≠ r.tag) → ∃ u, exec (.data r) s = .next u ∧ Reached u
       { s with links := linksAfter s r.link [.refused r.tag .noTransfer] })) ∧
  (∀ (r : Request) (s : State), From s r.link .filing → r.body = [] →
     (∀ t, s.transfers.get r.link = some t → ∃ u, exec (.abandon r) s = .next u ∧ Reached u
       { s with
         transfers := s.transfers.set r.link none
         blockMap := freeBlocks s.blockMap t.blocks
         links := linksAfter s r.link [.done r.tag .empty] }) ∧
     (s.transfers.get r.link = none → ∃ u, exec (.abandon r) s = .next u ∧ Reached u
       { s with links := linksAfter s r.link [.refused r.tag .noTransfer] }))

/-- R55: the last DATA frame of a submission whose image passes its CRC-32 while the window is OPEN is the receipt event: the
next reception number is given, the entry joins the tail of the pending list as STAGED with the day, the clock and the image,
DONE carries number, day and time, and the event reaches the Filing Engine (R59). An image that fails is refused BAD_IMAGE,
one that ends after the window has closed CLOSED; both give the blocks back and no number. -/
def Obligations.LastDataFrameGivesTheReceipt : Prop :=
  ∀ (r : Request) (t : Transfer) (d : Descriptor) (k : Counter) (s : State), From s r.link .filing → 3 ≤ r.body.length →
    r.body.length ≤ 1026 → s.transfers.get r.link = some t → t.tag = r.tag → t.kind = .submission d →
    fieldNat r.body 0 2 = t.nextSeq → t.nextSeq + 1 = t.expected → r.body.length = t.size - 1024 * t.nextSeq + 2 →
    s.counter = some k →
    let image := t.image ++ r.body.drop 2
    let entry : PendingEntry :=
      { rn := k.nextRn, link := r.link, desc := d, day := k.day, time := s.clock, state := .staged,
        blocks := some t.blocks, image }
    let dropped (code : RefusalCode) : State :=
      { s with
        transfers := s.transfers.set r.link none
        blockMap := freeBlocks s.blockMap t.blocks
        links := linksAfter s r.link [.refused r.tag code] }
    (crc32 image = t.crc → s.window ≠ none → ∃ u, exec (.data r) s = .next u ∧ ReachedThen u
      { s with
        counter := some { k with nextRn := k.nextRn + 1 }
        pendingList := s.pendingList ++ [entry]
        engine := s.engine.reached
        transfers := s.transfers.set r.link none
        links := linksAfter s r.link [.done r.tag (.receipt k.nextRn k.day s.clock)] }) ∧
    (crc32 image = t.crc → s.window = none → ∃ u, exec (.data r) s = .next u ∧ Reached u (dropped .closed)) ∧
    (crc32 image ≠ t.crc → ∃ u, exec (.data r) s = .next u ∧ Reached u (dropped .badImage))

/-- R73, R74: a RESUBMIT of a number that awaits it, with the size and CRC-32 of its receipt, begins a transfer like a
SUBMIT's (of the lowest-numbered free blocks, notes/assumptions/13.md); the last good DATA frame makes the entry STAGED with
the image, its link the resubmitting link, and DONE repeats the receipt; where no entry of the number awaits it any more the
frame is refused BAD_IMAGE and the blocks go back (notes/assumptions/60.md). The refusals of a RESUBMIT whose size is in range,
in their order: BUSY with a transfer on the link, UNKNOWN_RN for a number in no entry (for 0 and 4,294,967,295 too, which the
model does not refuse FORMAT, notes/assumptions/58.md), MEDIA_BUSY for an entry in another state or with a resubmission in
transfer, BAD_IMAGE for another size or CRC-32 than the receipt's, FULL without the blocks. R71:
WITHDRAW of a STAGED entry, or of one that awaits a resubmission with none in transfer, makes it WITHDRAWN, gives its blocks
back and is answered DONE. A number in no entry is refused UNKNOWN_RN; an entry in any other state, or with a resubmission in
transfer, MEDIA_BUSY. (That all this holds with COUNTER alone lost is the model's choice, notes/assumptions/81.md.) -/
def Obligations.ResubmitAndWithdrawSettleAnEntry : Prop :=
  (∀ (r : Request) (s : State), From s r.link .filing →
     (∀ (f : ResubmitFields) (p : PendingEntry), r.body.length = 12 → ResubmitFields.parse r.body = some f →
       s.transfers.get r.link = none → s.pendingList.find? (fun p => p.rn == f.rn) = some p → p.state = .awaitingResubmit →
       s.resubmitting f.rn = false → f.size = p.desc.size → f.crc = p.desc.crc → blocksOf f.size ≤ freeCount s.blockMap →
       let blocks := pickBlocks s.blockMap (blocksOf f.size)
       let t : Transfer :=
         { tag := r.tag, kind := .resubmission f.rn, size := f.size, crc := f.crc, expected := sectorsOf f.size,
           nextSeq := 0, blocks, image := [] }
       ∃ u, exec (.resubmit r) s = .next u ∧ Reached u
         { s with
           transfers := s.transfers.set r.link (some t)
           blockMap := reserve s.blockMap blocks
           links := linksAfter s r.link [.accepted r.tag (.frames (sectorsOf f.size))] }) ∧
     (∀ (f : ResubmitFields), r.body.length = 12 → ResubmitFields.parse r.body = some f →
       let refused (code : RefusalCode) : Prop := ∃ u, exec (.resubmit r) s = .next u ∧
         Reached u { s with links := linksAfter s r.link [.refused r.tag code] }
       (s.transfers.get r.link ≠ none → refused .busy) ∧
       (s.transfers.get r.link = none →
         ((∀ p ∈ s.pendingList, p.rn ≠ f.rn) → refused .unknownRn) ∧
         ∀ p, s.pendingList.find? (fun p => p.rn == f.rn) = some p →
           let awaits := p.state = .awaitingResubmit ∧ s.resubmitting f.rn = false
           let same := f.size = p.desc.size ∧ f.crc = p.desc.crc
           (¬awaits → refused .mediaBusy) ∧
           (awaits → ¬same → refused .badImage) ∧
           (awaits → same → freeCount s.blockMap < blocksOf f.size → refused .full))) ∧
     (∀ (t : Transfer) (rn : Nat), 3 ≤ r.body.length → r.body.length ≤ 1026 →
       s.transfers.get r.link = some t → t.tag = r.tag → t.kind = .resubmission rn → fieldNat r.body 0 2 = t.nextSeq →
       t.nextSeq + 1 = t.expected → r.body.length = t.size - 1024 * t.nextSeq + 2 →
       crc32 (t.image ++ r.body.drop 2) = t.crc →
       let image := t.image ++ r.body.drop 2
       let renew (q : PendingEntry) : PendingEntry :=
         if q.rn = rn then { q with state := .staged, blocks := some t.blocks, image, link := r.link } else q
       (∀ p, s.pendingList.find? (fun p => p.rn == rn) = some p → p.state = .awaitingResubmit →
         ∃ u, exec (.data r) s = .next u ∧ ReachedThen u
           { s with
             pendingList := s.pendingList.map renew
             engine := s.engine.reached
             transfers := s.transfers.set r.link none
             links := linksAfter s r.link [.done r.tag (.receipt p.rn p.day p.time)] }) ∧
       ((∀ p ∈ s.pendingList, p.rn = rn → p.state ≠ .awaitingResubmit) →
         ∃ u, exec (.data r) s = .next u ∧ ReachedThen u
           { s with
             transfers := s.transfers.set r.link none
             blockMap := freeBlocks s.blockMap t.blocks
             links := linksAfter s r.link [.refused r.tag .badImage] }))) ∧
  (∀ (r : Request) (s : State), From s r.link .service → r.body.length = 4 →
     let rn := fieldNat r.body 0 4
     let refused (code : RefusalCode) : Prop := ∃ u, exec (.withdraw r) s = .next u ∧
       Reached u { s with links := linksAfter s r.link [.refused r.tag code] }
     (∀ p, s.pendingList.find? (fun p => p.rn == rn) = some p →
       let free := p.state = .staged ∨ (p.state = .awaitingResubmit ∧ s.resubmitting rn = false)
       let withdraw (q : PendingEntry) : PendingEntry :=
         if q.rn = rn then { q with state := .withdrawn, blocks := none, image := [] } else q
       (free → ∃ u, exec (.withdraw r) s = .next u ∧ ReachedThen u
         { s with
           pendingList := s.pendingList.map withdraw
           engine := s.engine.reached
           blockMap := freeBlocks s.blockMap (p.blocks.getD [])
           links := linksAfter s r.link [.done r.tag .empty] }) ∧
       (¬free → refused .mediaBusy)) ∧
     ((∀ p ∈ s.pendingList, p.rn ≠ rn) → refused .unknownRn))

/-! ### COUNTER links (chapters 4, 5) -/

/-- R100: the ready estimate of a side not off-line is the wait for the pages of the jobs ahead, the mount term of the side's
condition, and t_seek, at most 65,535; for a volume off-line and for a DEFERRED job it is absent. (Which jobs stand ahead, and that
a volume marked for export is judged by its location, rest on notes/assumptions/21.md; that a side is loaded where the drive's
record names it, on notes/assumptions/90.md.) -/
def Obligations.EstimateIsTheSumOfItsTerms : Prop :=
  ∀ (e : Fixed) (c : Core) (sd : Side), estimate e c none = none ∧
    (∀ loc, c.location sd.slot = some loc → loc.offline = true → estimate e c (some sd) = none) ∧
    (∀ loc, c.location sd.slot = some loc → loc.offline = false →
      let st := e.settings
      let total (mount : Nat) : Option Nat :=
        some (min (st.tPage * ((c.jobsAhead sd).map c.pagesOf).sum + mount + st.tSeek) 65535)
      let clear := if (∃ d, (c.drives.get d).state = .empty) then 0 else st.tDown + st.tMove
      let far := clear + st.tMove + (if sd.face = .b then st.tFlip else 0) + st.tSpin + st.tMove * c.movesAhead sd
      ((∀ d, (c.drives.get d).loaded ≠ some sd) → estimate e c (some sd) = total far) ∧
      ∀ d, c.driveOfSide sd = some d →
        let x := c.drives.get d
        (x.state = .ready → x.idleSpinDown = false → estimate e c (some sd) = total 0) ∧
        (x.state = .ready → x.idleSpinDown = true → estimate e c (some sd) = total st.tSpin) ∧
        (x.state = .spunDown ∨ x.state = .spinningUp → estimate e c (some sd) = total st.tSpin) ∧
        (x.state ≠ .ready → x.state ≠ .spunDown → x.state ≠ .spinningUp → estimate e c (some sd) = total far))

/-- R82, R84, R85, R86: a FETCH that passes its checks joins the queue as a job with the next acceptance number and the
schedule snapshot of its class, ACCEPTED carries the estimate, and it is placed: with a side on a volume not off-line it
asks for the mount; with one off-line it waits for the operator, its off-line flag set, and every SERVICE link is told the
volume's new count; DEFERRED it is QUEUED. R102, R103: a WALK that passes its checks joins the queue as a SEARCH job of
priority 0 with known pages 0 and no step taken, and is placed as a FETCH is. (Which numbers
count as in range: notes/assumptions/71.md.) -/
def Obligations.JobsAreAcceptedAndPlaced : Prop :=
  (∀ (r : Request) (f : FetchFields) (s : State), From s r.link .counter → r.body.length = 8 →
     FetchFields.parse r.tag r.body = some f → s.schedule.isSet = true →
     (∀ j ∈ s.queue, j.id ≠ { link := r.link, tag := r.tag }) → s.queue.length < 24 → s.toCore.jobsOf r.link < 8 →
     let known (sd : Side) (i : Nat) : Option Nat := (s.toCore.bufferEntry sd i).map (·.pages)
     let job (place : Option (Side × Nat)) (pages : Option Nat) : Job :=
       freshJob s r f.station f.rn f.cls f.courtesy f.prio place pages none
     let answer (side : Option Side) : OutFrame := .accepted r.tag (.estimate (estimate s.toFixed s.toCore side))
     (∀ sd i, resolve s.toFixed s.toCore f.rn = .onSide sd i →
       (s.toCore.offline sd.slot = false → ∃ t, exec (.fetch r) s = .next t ∧ ReachedThen t
         { s with
           queue := s.queue ++ [{ job (some (sd, i)) (known sd i) with state := .waitMount }]
           nextAccept := s.nextAccept + 1
           requests := s.requests ++ [{ who := .job { link := r.link, tag := r.tag }, side := sd }]
           links := linksAfter s r.link [answer (some sd)] }) ∧
       (s.toCore.offline sd.slot = true → ∃ t, exec (.fetch r) s = .next t ∧ ReachedThen t
         { s with
           queue := s.queue ++ [{ job (some (sd, i)) (known sd i) with state := .waitOperator, offline := true }]
           nextAccept := s.nextAccept + 1
           links := toldTo (linksAfter s r.link [answer (some sd)]) .service
             (.operatorNeeded sd.slot ((s.toCore.vol sd.slot).bind (·.label)) (s.toCore.waitingFor sd.slot + 1)) })) ∧
     (resolve s.toFixed s.toCore f.rn = .deferred → ∃ t, exec (.fetch r) s = .next t ∧ ReachedThen t
       { s with
         queue := s.queue ++ [job none none]
         nextAccept := s.nextAccept + 1
         links := linksAfter s r.link [answer none] })) ∧
  (∀ (r : Request) (f : WalkRequest) (s : State), From s r.link .counter → r.body.length = 9 →
     WalkRequest.parse r.tag r.body = some f → s.schedule.isSet = true →
     (∀ j ∈ s.queue, j.id ≠ { link := r.link, tag := r.tag }) → s.queue.length < 24 → s.toCore.jobsOf r.link < 8 →
     let fields : WalkFields :=
       { start := f.start, limit := f.limit, stopKinds := f.stopKinds, parcelMatch := f.parcelMatch, startParcel := none,
         steps := 0, next := none, stop := none }
     let job (place : Option (Side × Nat)) : Job :=
       freshJob s r f.station f.start .search false 0 place (some 0) (some fields)
     let answer (side : Option Side) : OutFrame := .accepted r.tag (.estimate (estimate s.toFixed s.toCore side))
     (∀ sd i, resolve s.toFixed s.toCore f.start = .onSide sd i →
       (s.toCore.offline sd.slot = false → ∃ t, exec (.walk r) s = .next t ∧ ReachedThen t
         { s with
           queue := s.queue ++ [{ job (some (sd, i)) with state := .waitMount }]
           nextAccept := s.nextAccept + 1
           requests := s.requests ++ [{ who := .job { link := r.link, tag := r.tag }, side := sd }]
           links := linksAfter s r.link [answer (some sd)] }) ∧
       (s.toCore.offline sd.slot = true → ∃ t, exec (.walk r) s = .next t ∧ ReachedThen t
         { s with
           queue := s.queue ++ [{ job (some (sd, i)) with state := .waitOperator, offline := true }]
           nextAccept := s.nextAccept + 1
           links := toldTo (linksAfter s r.link [answer (some sd)]) .service
             (.operatorNeeded sd.slot ((s.toCore.vol sd.slot).bind (·.label)) (s.toCore.waitingFor sd.slot + 1)) })) ∧
     (resolve s.toFixed s.toCore f.start = .deferred → ∃ t, exec (.walk r) s = .next t ∧ ReachedThen t
       { s with
         queue := s.queue ++ [job none]
         nextAccept := s.nextAccept + 1
         links := linksAfter s r.link [answer none] }))

/-- R82, R102: the refusals of a FETCH or a WALK whose fields are in range, in their order, each where no earlier one is
due; none changes anything beyond the silence timer and the link state. R97: CANCEL of a FETCH that waits without a claim
ends it CANCELLED at once: DONE answers the CANCEL, the job's own DONE follows it, and the job leaves the queue, the waiting
requests and every mount operation. A READ in flight only takes the cancel mark, and the answer is ACCEPTED. A tag of no job
is refused UNKNOWN_TAG. (That the number 4,294,967,295 counts as in range is the model's choice, notes/assumptions/71.md.) -/
def Obligations.JobsAreRefusedInOrderAndCancelled : Prop :=
  (∀ (r : Request) (c : Instr) (rn : Nat) (s : State), From s r.link .counter →
     (c = .fetch r ∧ r.body.length = 8 ∧ ∃ f, FetchFields.parse r.tag r.body = some f ∧ f.rn = rn) ∨
       (c = .walk r ∧ r.body.length = 9 ∧ ∃ f, WalkRequest.parse r.tag r.body = some f ∧ f.start = rn) →
     let refused (code : RefusalCode) : Prop := ∃ t, exec c s = .next t ∧
       Reached t { s with links := linksAfter s r.link [.refused r.tag code] }
     let tagged := ∃ j ∈ s.queue, j.id = { link := r.link, tag := r.tag }
     let busy := 24 ≤ s.queue.length ∨ 8 ≤ s.toCore.jobsOf r.link
     (s.schedule.isSet = false → refused .schedule) ∧
     (s.schedule.isSet = true → tagged → refused .tagInUse) ∧
     (s.schedule.isSet = true → ¬tagged → busy → refused .busy) ∧
     (s.schedule.isSet = true → ¬tagged → ¬busy →
       (resolve s.toFixed s.toCore rn = .beyond ∨ resolve s.toFixed s.toCore rn = .unrecorded → refused .unknownRn) ∧
       (resolve s.toFixed s.toCore rn = .pending → refused .notYetFiled))) ∧
  (∀ (r : Request) (s : State), From s r.link .counter → r.body = [] →
     let id : JobId := { link := r.link, tag := r.tag }
     (∀ j, s.toCore.job id = some j → j.walk = none → j.drive = none → j.cancelled = false → j.state ≠ .waitOperator →
       let ended : JobDone := { outcome := .cancelled, stop := none, amount := j.sent, charge := none }
       ∃ t, exec (.cancel r) s = .next t ∧ ReachedThen t
         { s with
           queue := s.queue.filter (fun k => k.id ≠ id)
           requests := s.requests.filter (fun q => q.who ≠ .job id)
           mounts := s.mounts.map (fun m => { m with requesters := m.requesters.filter (· ≠ .job id) })
           links := linksAfter s r.link [.done r.tag .empty, .done r.tag (.job ended)] }) ∧
     (∀ j d, s.toCore.job id = some j → j.drive = some d →
       (∃ o, (s.drives.get d).op = some o ∧ (o.user = .jobDirectory id ∨ o.user = .jobChunk id)) →
       ∃ t, exec (.cancel r) s = .next t ∧ ReachedThen t
         { s with
           queue := s.queue.map (fun k => if k.id = id then { k with cancelled := true } else k)
           links := linksAfter s r.link [.accepted r.tag .empty] }) ∧
     (s.toCore.job id = none → ∃ t, exec (.cancel r) s = .next t ∧ Reached t
       { s with links := linksAfter s r.link [.refused r.tag .unknownTag] }))

/-! ### SERVICE links (chapters 2, 8, 9, 10) -/

/-- R40: HOLD with no hold given is granted and answered DONE where the picker is not MOVING, and waits, answered ACCEPTED,
where it is; the holder's own HOLD is answered DONE; a hold of another link, granted or waiting, refuses it HELD. A second
HOLD of the link whose hold waits is answered ACCEPTED and its tag is the one the DONE will carry (the model's choice,
notes/assumptions/35.md). R41: RELEASE from the link whose hold is granted or waiting ends it and is answered DONE; from any
other it is refused HELD. (That a HOLD so withdrawn has no DONE of its own is the model's choice, notes/assumptions/79.md.) -/
def Obligations.HoldIsGrantedWaitsAndEnds : Prop :=
  (∀ (r : Request) (s : State), From s r.link .service → r.body = [] →
     let by_ : Orderer := { link := r.link, tag := r.tag }
     let done : Four LinkUnit := linksAfter s r.link [.done r.tag .empty]
     let accepted : Four LinkUnit := linksAfter s r.link [.accepted r.tag .empty]
     let refused : Four LinkUnit := linksAfter s r.link [.refused r.tag .held]
     let leads (u : State) : Prop := ∃ t, exec (.hold r) s = .next t ∧ ReachedThen t u
     (s.hold = .none → s.picker.state ≠ .moving → leads { s with hold := .granted r.link, links := done }) ∧
     (s.hold = .none → s.picker.state = .moving → leads { s with hold := .waiting by_, links := accepted }) ∧
     (s.hold = .granted r.link → leads { s with links := done }) ∧
     (∀ l, s.hold = .granted l → l ≠ r.link → leads { s with links := refused }) ∧
     (∀ o, s.hold = .waiting o → o.link = r.link → leads { s with hold := .waiting by_, links := accepted }) ∧
     (∀ o, s.hold = .waiting o → o.link ≠ r.link → leads { s with links := refused })) ∧
  (∀ (r : Request) (s : State), From s r.link .service → r.body = [] →
     let leads (u : State) : Prop := ∃ t, exec (.release r) s = .next t ∧ ReachedThen t u
     let own := s.hold = .granted r.link ∨ ∃ o, s.hold = .waiting o ∧ o.link = r.link
     (own → leads { s with hold := .none, links := linksAfter s r.link [.done r.tag .empty] }) ∧
     (¬own → leads { s with links := linksAfter s r.link [.refused r.tag .held] }))

/-- R45: a MOVE from its home slot of a volume that is HOME, not selected for opening and not being exported, to a drive
that is EMPTY and unbound, binds the drive, which becomes LOADING, and its move joins the set at class 4, ordered by the
link. R45: a MOVE to its home slot of a volume that stands in a drive with no claim, no binding and no operation but an idle
SPIN DOWN, not the filing side while entries are pending, binds the drive, which becomes UNLOADING: SPIN DOWN is issued on a
READY drive, EJECT at once on a SPUN_DOWN one, and an idle SPIN DOWN in flight serves. R45: the refusals of a MOVE whose
positions are in range: HELD under a hold granted to another link, NO_SUCH_VOLUME for a vacant volume, MEDIA_BUSY where the
volume is not at the source. -/
def Obligations.ServiceMoveIsTakenOrRefused : Prop :=
  (∀ (r : Request) (v : SlotId) (d : DriveId) (f : Face) (s : State), From s r.link .service → r.body.length = 4 →
     MoveFields.parse r.body = some { slot := v, drive := d, face := some f } →
     (∀ l, s.hold = .granted l → l = r.link) → s.toCore.location v = some .home →
     (∀ sel, s.selection = some sel → sel.side.slot ≠ v) → (∀ x, s.exportOp = some x → x.slot ≠ v) →
     (s.drives.get d).state = .empty → (s.drives.get d).unnamed = false → (s.drives.get d).bound = none →
     (s.drives.get d).op = none →
     let sv : ServiceMove := { by_ := { link := r.link, tag := r.tag }, slot := v, toDrive := true }
     let move := serviceMoveOf s (.slot v) (.fixed (.drive d f)) (some r.link) (.service sv) (some v)
     ∃ t, exec (.moveSlotToDrive r) s = .next t ∧ ReachedThen t
       { s with
         drives := s.drives.set d { s.drives.get d with state := .loading, bound := some (.service sv) }
         moves := s.moves ++ [move]
         nextArrival := s.nextArrival + 1
         links := linksAfter s r.link [.accepted r.tag .empty] }) ∧
  (∀ (r : Request) (v : SlotId) (d : DriveId) (f : Face) (s : State), From s r.link .service → r.body.length = 4 →
     MoveFields.parse r.body = some { slot := v, drive := d, face := none } →
     (∀ l, s.hold = .granted l → l = r.link) → s.toCore.location v = some (.inDrive d f) →
     (∀ sel, s.selection = some sel → sel.side.slot ≠ v) → (∀ x, s.exportOp = some x → x.slot ≠ v) →
     let x := s.drives.get d
     x.claims = 0 → x.bound = none → (x.filingFlag = true → s.pendingList = []) →
     let sv : ServiceMove := { by_ := { link := r.link, tag := r.tag }, slot := v, toDrive := false }
     let leads (op : Option DriveOp) : Prop := ∃ t, exec (.moveDriveToSlot r) s = .next t ∧ ReachedThen t
       { s with
         drives := s.drives.set d { x with state := .unloading, idle := none, bound := some (.service sv), op := op }
         links := linksAfter s r.link [.accepted r.tag .empty] }
     (x.state = .ready → x.op = none → leads (issued .spinDown .mechanism)) ∧
     (x.state = .spunDown → x.op = none → leads (issued .eject .mechanism)) ∧
     (x.state = .ready → x.idleSpinDown = true → leads x.op)) ∧
  (∀ (r : Request) (f : MoveFields) (s : State), From s r.link .service → r.body.length = 4 →
     MoveFields.parse r.body = some f →
     let refused (code : RefusalCode) : Prop := ∀ c, c = Instr.moveSlotToDrive r ∨ c = Instr.moveDriveToSlot r →
       ∃ t, exec c s = .next t ∧ Reached t { s with links := linksAfter s r.link [.refused r.tag code] }
     let free := ∀ l, s.hold = .granted l → l = r.link
     (¬free → refused .held) ∧
     (free → s.toCore.vol f.slot = none → refused .noSuchVolume) ∧
     (free → ∀ x, s.toCore.vol f.slot = some x →
       (f.face ≠ none → x.loc ≠ .home → refused .mediaBusy) ∧
       (f.face = none → x.loc ≠ .inDrive f.drive .a → x.loc ≠ .inDrive f.drive .b → refused .mediaBusy)))

/-- R42, R43, R173: RESUME MECHANISM on a HALTED picker is answered ACCEPTED, clears a standing stop with its PANEL notice
for every SERVICE link, and begins the recovery motion under a new stall timer, as its own also where a CLEAR FAULT had begun the
one that was halted (notes/assumptions/85.md); on a picker that is not HALTED it is
answered DONE with outcome DONE (without a volume, notes/assumptions/26.md). The PANEL notice goes before the answer
(notes/assumptions/40.md). Under an open front door, an active key or a hold granted to another link it is refused HELD. -/
def Obligations.ResumeMechanismBeginsTheRecovery : Prop :=
  ∀ (r : Request) (s : State), From s r.link .service → r.body = [] →
    let barred := s.panel.level.frontDoor = true ∨ s.panel.level.kLeft = true ∨ s.panel.level.kRight = true ∨
      ∃ l, s.hold = .granted l ∧ l ≠ r.link
    let panel := { s.panel with stop := false }
    let told := if s.panel.stop = true
      then toldTo (linksAfter s r.link []) .service (.panel .stopCleared panel.level panel.latches false)
      else linksAfter s r.link []
    (barred → ∃ t, exec (.resumeMechanism r) s = .next t ∧
      Reached t { s with links := linksAfter s r.link [.refused r.tag .held] }) ∧
    (¬barred → ∀ m, s.picker.state = .halted → s.picker.motion = some m →
      ∃ t, exec (.resumeMechanism r) s = .next t ∧ ReachedThen t
        { s with
          panel := panel
          picker := pickerIn (recoveryOf m) (some { link := r.link, tag := r.tag }) false
          links := sendOn told r.link [.accepted r.tag .empty] }) ∧
    (¬barred → s.picker.state ≠ .halted → ∃ t, exec (.resumeMechanism r) s = .next t ∧ ReachedThen t
      { s with panel := panel, links := sendOn told r.link [.done r.tag (.media .done none)] })

/-- R26: CLEAR FAULT of a FAULTED drive that names no cartridge leaves it EMPTY at once, its alarm cleared, ACCEPTED and DONE with
outcome CLEARED sent; where it names one EJECT is issued; a drive not FAULTED is left as it is, answered DONE with outcome DONE
(notes/assumptions/26.md); a clear in progress refuses it MEDIA_BUSY, a hold granted to another link HELD. R44: CLEAR FAULT of a
FAULTED picker without a late DONE is answered ACCEPTED, clears the alarm (at the start of the recovery, notes/assumptions/42.md),
and begins the recovery motion as one ordered by CLEAR FAULT. With the late DONE of a service MOVE to a home slot the volume is
HOME, the drive EMPTY and the MOVE's link answered DONE; with that of a probe of inventory its slot takes what was reported
(notes/assumptions/52.md), the ALARM notice first (notes/assumptions/69.md); and the picker is re-homed empty. A picker not
FAULTED is left as it is, answered DONE with outcome DONE; an open front door, an active key or a hold granted to another link
refuses it HELD. (A stop that still stands does not: notes/assumptions/56.md.) -/
def Obligations.ClearFaultProceeds : Prop :=
  (∀ (r : Request) (d : DriveId) (s : State), From s r.link .service → r.body.length = 1 →
     FaultTarget.parse r.body = some (.drive d) →
     let x := s.drives.get d
     let leads (u : State) : Prop := ∃ t, exec (.clearFaultDrive r) s = .next t ∧ ReachedThen t u
     let accepted := linksAfter s r.link [.accepted r.tag .empty]
     let cleared := alarmCleared (s.alarms, accepted) (.driveFault d)
     (x.clearing ≠ none → leads { s with links := linksAfter s r.link [.refused r.tag .mediaBusy] }) ∧
     (x.clearing = none → x.state ≠ .faulted →
       leads { s with links := linksAfter s r.link [.done r.tag (.media .done none)] }) ∧
     (x.clearing = none → x.state = .faulted → ∀ l, s.hold = .granted l → l ≠ r.link →
       leads { s with links := linksAfter s r.link [.refused r.tag .held] }) ∧
     (x.clearing = none → x.state = .faulted → (∀ l, s.hold = .granted l → l = r.link) →
       (x.loaded = none → x.unnamed = false → leads
         { s with
           drives := s.drives.set d (emptied x)
           alarms := cleared.1
           links := sendOn cleared.2 r.link [.done r.tag (.media .cleared none)] }) ∧
       (x.loaded ≠ none ∨ x.unnamed = true → leads
         { s with
           drives := s.drives.set d
             { x with clearing := some { link := r.link, tag := r.tag }, op := issued .eject .mechanism }
           links := accepted }))) ∧
  (∀ (r : Request) (s : State), From s r.link .service → r.body = [4] →
     let barred := s.panel.level.frontDoor = true ∨ s.panel.level.kLeft = true ∨ s.panel.level.kRight = true ∨
       ∃ l, s.hold = .granted l ∧ l ≠ r.link
     let leads (u : State) : Prop := ∃ t, exec (.clearFaultPicker r) s = .next t ∧ ReachedThen t u
     let cleared := alarmCleared (s.alarms, linksAfter s r.link [.accepted r.tag .empty]) .pickerFault
     (barred → leads { s with links := linksAfter s r.link [.refused r.tag .held] }) ∧
     (¬barred → s.picker.state ≠ .faulted →
       leads { s with links := linksAfter s r.link [.done r.tag (.media .done none)] }) ∧
     (¬barred → s.picker.state = .faulted → s.picker.lateDone = false → ∀ m, s.picker.motion = some m → leads
       { s with
         picker := pickerIn (recoveryOf m) (some { link := r.link, tag := r.tag }) true
         alarms := cleared.1
         links := cleared.2 }) ∧
     (¬barred → s.picker.state = .faulted → s.picker.lateDone = true → ∀ m, s.picker.motion = some (.move m) →
       let homing : State :=
         { s with picker := pickerIn .emptyRehome (some { link := r.link, tag := r.tag }) true, alarms := cleared.1 }
       (∀ sv v d f src dst, m.serves = .service sv → sv.toDrive = false → m.carries = some v → m.src = .drive d f →
         m.dst = .fixed (.slot v) → s.toCore.location v = some (.inPicker src dst) → leads
         { homing with
           volumes := relocated s.volumes v .home
           drives := s.drives.set d (emptied (s.drives.get d))
           links := answered cleared.2 sv.by_ (.media .done (some sv.slot)) }) ∧
       (∀ v i, m.serves = .inventoryProbe v → m.carries = none → m.dst = .fixed (.slot v) → s.inventory = some i →
         let probes := match s.picker.lateProbe with
           | some occupied => i.probes.set v (if occupied = true then .occupied else .empty)
           | none => i.probes
         leads { homing with inventory := some { i with probes := probes }, links := cleared.2 })))

/-- R148, R149, R150: an IMPORT that passes its checks is answered ACCEPTED. With a volume in the mailslot its move to its
home slot joins the set at class 4; with an unidentified cartridge inserted, the import's mount operation joins, its move
from the mailslot to a drive not yet chosen, face A; R30: while the emergency stop stands that mount operation waits for its
end. R156, R157: an EXPORT that passes its checks is answered ACCEPTED and the volume takes the export mark. A volume that is
HOME has its move to the mailslot joined to the set at class 4; of one in a drive the drive is bound and becomes UNLOADING,
SPIN DOWN issued where it is READY and EJECT where it is SPUN_DOWN; of one in a drive that can be unloaded only later, with no
claim, binding or operation, the mark waits (the model's choice, notes/assumptions/51.md). A pending service MOVE of the volume
does not bar its EXPORT (the model's choice, notes/assumptions/72.md). -/
def Obligations.ImportAndExportBegin : Prop :=
  (∀ (r : Request) (s : State), From s r.link .service → r.body.length = 8 → (∀ b ∈ r.body, printable b = true) →
     (∀ l, s.hold = .granted l → l = r.link) → s.inventory = none → s.importOp = none → s.exportOp = none →
     s.panel.level.mailslotDoor = false → s.panel.level.cartridgePresent = true →
     let op (phase : ImportPhase) : ImportOp :=
       { by_ := { link := r.link, tag := r.tag }, label := r.body, phase, drive := none, faceA := .blank }
     let leads (u : State) : Prop := ∃ t, exec (.importCartridge r) s = .next t ∧ ReachedThen t
       { u with nextArrival := s.nextArrival + 1, links := linksAfter s r.link [.accepted r.tag .empty] }
     let n := s.nextArrival
     (∀ v, s.mailslot = .volume v → leads
       { s with
         importOp := some (op (.returning v))
         moves := s.moves ++ [serviceMoveOf s .mailslot (.fixed (.slot v)) (some r.link) .importReturn (some v)] }) ∧
     (s.mailslot = .inserted → s.panel.stop = true → ∃ t, exec (.importCartridge r) s = .next t ∧ ReachedThen t
       { s with importOp := some (op .requested), links := linksAfter s r.link [.accepted r.tag .empty] }) ∧
     (s.mailslot = .inserted → s.panel.stop = false → leads
       { s with
         importOp := some (op .mounting)
         mounts := s.mounts ++
           [{ target := .importing, requesters := [], cls := 4, prio := 0, arrival := n, drive := none, step := .waiting }]
         moves := s.moves ++ [serviceMoveOf s .mailslot (.anyDrive .a) (some r.link) (.mount n) none] })) ∧
  (∀ (r : Request) (v : SlotId) (s : State), From s r.link .service → r.body.length = 1 →
     slotOf (fieldNat r.body 0 1) = some v → (∀ l, s.hold = .granted l → l = r.link) → s.inventory = none →
     s.importOp = none → s.exportOp = none → s.panel.level.mailslotDoor = false →
     s.panel.level.cartridgePresent = false → s.mailslot = .empty → s.toCore.isOpen ⟨v, .a⟩ = false →
     s.toCore.isOpen ⟨v, .b⟩ = false → (∀ sel, s.selection = some sel → sel.side.slot ≠ v) → s.toCore.wanted v = false →
     let op (d : Option DriveId) : ExportOp :=
       { by_ := { link := r.link, tag := r.tag }, slot := v, drive := d, begun := true }
     let accepted := linksAfter s r.link [.accepted r.tag .empty]
     (s.toCore.location v = some .home → ∃ t, exec (.exportVolume r) s = .next t ∧ ReachedThen t
       { s with
         exportOp := some (op none)
         moves := s.moves ++ [serviceMoveOf s (.slot v) (.fixed .mailslot) (some r.link) .exportOut (some v)]
         nextArrival := s.nextArrival + 1
         links := accepted }) ∧
     (∀ d f, s.toCore.location v = some (.inDrive d f) →
       let x := s.drives.get d
       x.claims = 0 → x.bound = none → x.op = none →
       (x.state = .ready ∨ x.state = .spunDown →
         let kind := if x.state = .ready then OpKind.spinDown else .eject
         ∃ t, exec (.exportVolume r) s = .next t ∧ ReachedThen t
           { s with
             exportOp := some (op (some d))
             drives := s.drives.set d
               { x with state := .unloading, idle := none, bound := some .exporting, op := issued kind .mechanism }
             links := accepted }) ∧
       (x.state ≠ .ready → x.state ≠ .spunDown → x.state ≠ .faulted →
         ∃ t, exec (.exportVolume r) s = .next t ∧ ReachedThen t
           { s with exportOp := some { op none with begun := false }, links := accepted })))

/-- R158: an INVENTORY with nothing of its kind in progress is answered ACCEPTED and starts in its first phase with every slot
UNPROBED, marked as following a VOLUMES loss where the table is being rebuilt or a record is unsettled (R192;
notes/assumptions/49.md), before the end of a start too (notes/assumptions/73.md); while an inventory runs or an IMPORT or EXPORT is
in progress it is refused MEDIA_BUSY, under a hold granted to another link HELD. -/
def Obligations.InventoryStarts : Prop :=
  ∀ (r : Request) (s : State), From s r.link .service → r.body = [] →
    let refused (code : RefusalCode) : Prop := ∃ t, exec (.inventory r) s = .next t ∧
      Reached t { s with links := linksAfter s r.link [.refused r.tag code] }
    let free := ∀ l, s.hold = .granted l → l = r.link
    let started : Inventory :=
      { by_ := some { link := r.link, tag := r.tag }, phase := .probing, probes := Vector.replicate 64 .unprobed,
        assigned := [], reading := none, cursor := 0, rebuiltOpen := none, unsealedSeq := none,
        afterLoss := s.rebuilding || allSlots.any s.toCore.unsettled, counts := ⟨0, 0, 0, 0, 0⟩ }
    (¬free → refused .held) ∧
    (free → s.inventory ≠ none ∨ s.importOp ≠ none ∨ s.exportOp ≠ none → refused .mediaBusy) ∧
    (free → s.inventory = none → s.importOp = none → s.exportOp = none →
      ∃ t, exec (.inventory r) s = .next t ∧ ReachedThen t
        { s with inventory := some started, links := linksAfter s r.link [.accepted r.tag .empty] })

/-- R163, R145: a RESTORE COUNTER that passes its checks sets next_rn and the day number, makes COUNTER and PENDING valid,
clears their STORE_LOST alarms, sets the tally day mark, keeps the courtesy list only where its day is absent or the day
given, lets the Filing Engine choose again, and is answered DONE. While both sections are valid it is refused FORMAT; while
an inventory runs, MEDIA_BUSY. (The model's choices: that the DONE stands behind everything the event's work produces,
notes/assumptions/41.md, and that COUNTER's alarm is cleared before PENDING's, notes/assumptions/75.md.) -/
def Obligations.RestoreCounterRestores : Prop :=
  ∀ (r : Request) (n d : Nat) (s : State), From s r.link .service → r.body.length = 6 →
    parseRestore r.body = some (n, d) →
    let refused (code : RefusalCode) : Prop := ∃ t, exec (.restoreCounter r) s = .next t ∧
      Reached t { s with links := linksAfter s r.link [.refused r.tag code] }
    let valid := s.counter ≠ none ∧ s.pendingValid = true
    let high := (∀ p ∈ s.toCore.sides, ∀ b, p.2.lastRn = some b → b < n) ∧ (∀ k, s.counter = some k → k.nextRn ≤ n) ∧
      (s.pendingValid = true → ∀ p ∈ s.pendingList, p.rn < n)
    let alarms := alarmCleared (alarmCleared (s.alarms, linksAfter s r.link []) (.storeLost .counter)) (.storeLost .pending)
    let restored : State :=
      { s with
        counter := some { nextRn := n, day := d }
        pendingValid := true
        tallyDay := d
        courtesy := if s.courtesy.day = none ∨ s.courtesy.day = some d then s.courtesy else { rns := [], day := none }
        engine := s.engine.reached
        alarms := alarms.1
        links := alarms.2 }
    (valid → refused .format) ∧
    (¬valid → s.inventory ≠ none → refused .mediaBusy) ∧
    (¬valid → s.inventory = none → ¬high → refused .unknownRn) ∧
    (¬valid → s.inventory = none → high → ∃ t, exec (.restoreCounter r) s = .next t ∧
      Reached t (restored.settled.answer r .empty))

/-- R169: PANEL ACK is answered DONE with the five latches as they stood, and clears them; no level, timer or stop changes.
R186: SET CONFIG with every field in range replaces the settings and is answered DONE; one with a field out of range is
refused FORMAT. The silence timer of every ACTIVE link is reloaded with its new limit, of a link whose limit becomes 0
stopped (notes/assumptions/36.md). -/
def Obligations.PanelAckAndSetConfigTakeEffect : Prop :=
  (∀ (r : Request) (s : State), From s r.link .service → r.body = [] → ∃ t, exec (.panelAck r) s = .next t ∧ Reached t
     { s with
       panel := { s.panel with latches := ⟨false, false, false, false, false⟩ }
       links := linksAfter s r.link [.done r.tag (.latches s.panel.latches)] }) ∧
  (∀ (r : Request) (s : State), From s r.link .service → r.body.length = 19 →
     (∀ x, Settings.parse r.body = some x → ∃ t links, exec (.setConfig r) s = .next t ∧
       Reached t { s with settings := x, links := sendOn links r.link [.done r.tag .empty] } ∧
       ∀ l, let u := (linksAfter s r.link []).get l
         links.get l = if u.active = true then { u with timer := timerOf (x.silence.get l) } else u) ∧
     (Settings.parse r.body = none → ∃ t, exec (.setConfig r) s = .next t ∧
       Reached t { s with links := linksAfter s r.link [.refused r.tag .format] }))

/-! ### Time, silence, panel (chapters 9, 10) -/

/-- R134, R23, R24, R29, R39, R49, R183: a second tick moves the clock on, from 86,399 to 0, and counts every running
countdown down by 1: the window, the silence timers of ACTIVE links, the idle timers of READY drives without a claim, the
timers of drive operations, the stall timer of a MOVING picker; nothing else changes. The window is CLOSED at its expiry,
and at the expiry of an idle timer SPIN DOWN is issued on the drive, which stays READY. An expiry whose countdown does not
stand at 0 changes nothing (the model's choice, notes/assumptions/5.md). -/
def Obligations.SecondsAreCounted : Prop :=
  ∀ s : State, s.resetDue = false →
    let link (u : LinkUnit) : LinkUnit := if u.active = true then { u with timer := u.timer.map (· - 1) } else u
    let drive (x : Drive) : Drive :=
      { x with
        idle := if x.state = .ready ∧ x.claims = 0 then x.idle.map (· - 1) else x.idle
        op := x.op.map (fun o => { o with timer := o.timer - 1 }) }
    let picker : Picker :=
      if s.picker.state = .moving then { s.picker with stall := s.picker.stall.map (· - 1) } else s.picker
    (∃ t n, exec .clockSecondTick s = .next t ∧ (s.secondCount < 4294967295 → n = s.secondCount + 1) ∧ Reached t
      { s with
        clock := s.clock.map (fun k => if k < 86399 then k + 1 else 0)
        secondCount := n
        window := s.window.map (· - 1)
        links := s.links.map link
        drives := s.drives.map drive
        picker := picker }) ∧
    (s.window = some 0 → ∃ t, exec .receptionWindowExpiry s = .next t ∧ Reached t { s with window := none }) ∧
    (s.window ≠ some 0 → exec .receptionWindowExpiry s = .next s) ∧
    ∀ d, let x := s.drives.get d
      (x.idle = some 0 → x.state = .ready → x.claims = 0 → x.op = none → ∃ t, exec (.idleTimerExpiry d) s = .next t ∧
        Reached t { s with drives := s.drives.set d { x with idle := none, op := issued .spinDown .idle } }) ∧
      (x.idle ≠ some 0 → exec (.idleTimerExpiry d) s = .next s)

/-- R184, R185, R98, R54, R41: at the SILENT event of a link the frame being sent stays, the notices behind it go back into
the held set in the order produced and every other frame is discarded; its transfer ends, its hold is released or withdrawn,
its jobs with a READ in flight take the cancel mark, and those that wait without a claim leave the queue, the waiting requests
and every mount operation, a walk among them charged for the steps it has taken. A SILENT event of a link that is not ACTIVE, or
whose timer does not stand at 0, changes nothing (the model's choice, notes/assumptions/5.md). A valid frame on a SILENT link
makes it ACTIVE, reloads its silence timer, and puts the held notices that its mask enables ahead of the answer. -/
def Obligations.LinksFallSilentAndWake : Prop :=
  (∀ (l : LinkId) (s : State), s.resetDue = false → (s.links.get l).active = true → (s.links.get l).timer = some 0 →
    let u := s.links.get l
    let silent : LinkUnit :=
      { u with
        active := false
        timer := none
        out := u.out.take 1
        held := (noticesOf (u.out.drop 1) ++ u.held).foldl holdNotice [] }
    let blocks := match s.transfers.get l with
      | some t => t.blocks
      | none => []
    let base : State :=
      { s with
        links := s.links.set l silent
        transfers := s.transfers.set l none
        blockMap := freeBlocks s.blockMap blocks
        hold := s.hold.without l
        resetDue := (u.out.drop 1).any OutFrame.isRestart }
    let marked (j : Job) : Bool := j.id.link == l && s.toCore.readInFlight j
    let ended := s.queue.filter (fun j => j.id.link == l && !s.toCore.readInFlight j)
    let charged (c : Core) (j : Job) : Core :=
      match j.walk with
      | some w => if w.steps = 0 then c else (c.charge (j.item true)).1
      | none => c
    let charges := ended.foldl charged s.toCore
    (∀ j ∈ s.queue, j.id.link = l → s.toCore.job j.id = some j ∧
      (s.toCore.readInFlight j = true ∨ (j.drive = none ∧ j.state ≠ .waitOperator))) →
    ∃ t, exec (.silentEvent l) s = .next t ∧ ReachedThen t
      { base with
        queue := (s.queue.filter (fun j => j.id.link ≠ l ∨ marked j = true)).map
          (fun j => if j.id.link = l then { j with cancelled := true } else j)
        requests := s.requests.filter (fun q => ended.all (fun j => q.who ≠ .job j.id))
        mounts := s.mounts.map (fun m =>
          { m with requesters := m.requesters.filter (fun w => ended.all (fun j => w ≠ .job j.id)) })
        tallies := charges.tallies
        courtesy := charges.courtesy }) ∧
  (∀ (l : LinkId) (s : State), (s.links.get l).active = false ∨ (s.links.get l).timer ≠ some 0 →
    exec (.silentEvent l) s = .next s) ∧
  (∀ (r : Request) (s : State), s.resetDue = false → r.body = [] → (s.links.get r.link).active = false →
    let u := s.links.get r.link
    let limit := s.settings.silence.get r.link
    let woken (answer : OutFrame) : LinkUnit :=
      { u with
        active := true
        timer := if limit = 0 then none else some limit
        out := u.out ++ (u.held.filter (fun n => u.mask.enables n.kind)).map .notice ++ [answer]
        held := u.held.filter (fun n => !u.mask.enables n.kind) }
    ∃ t st, exec (.status r) s = .next t ∧
      Reached t { s with links := s.links.set r.link (woken (.result r.tag (.status st))) })

/-- R165: at a raw level change the debounce timer of the input is stopped where the raw level agrees with the debounced one,
started with the debounce time where they differ and it stands stopped, and runs on where they differ; nothing else changes. R165,
R167, R168, R170, R172, R38, R40, R43, R146: at a debounced edge the raw level is taken, the timer stops, the latch of the edge is
set, and a key's edge while the other key is active raises the stop; every SERVICE link is told of a latch newly set and of a stop
raised. An opening front door and a stop halt a MOVING picker: the link whose RESUME MECHANISM or CLEAR FAULT began the recovery so
halted is answered FAILED, without a volume (DEDUCED, notes/assumptions/24.md), and a waiting hold is granted; the mailslot record
takes the sensor, a volume in the mailslot becoming OUT at its fall. An edge of an input whose timer does not run changes nothing
(the model's choice, notes/assumptions/5.md). (The model's choices too: the order of one edge's PANEL notices, the latch's before
that of the stop, and their place before the other frames of the event, notes/assumptions/65.md, and that a halted recovery's DONE
goes before that of a waiting hold, notes/assumptions/69.md.) -/
def Obligations.InputsAreDebounced : Prop :=
  (∀ (i : Input) (a : Bool) (s : State), s.resetDue = false →
     let leads (timer : Option Nat) : Prop := ∃ t, exec (.rawInputChange i a) s = .next t ∧ Reached t
       { s with panel := { s.panel with raw := setLevel s.panel.raw i a, timers := s.panel.timers.put i timer } }
     (a = levelOf s.panel.level i → leads none) ∧
     (a ≠ levelOf s.panel.level i → s.panel.timers.of i = none → leads (some s.settings.debounce)) ∧
     (∀ n, a ≠ levelOf s.panel.level i → s.panel.timers.of i = some n → leads (some n))) ∧
  (∀ (i : Input) (s : State), s.resetDue = false →
     let p := s.panel
     let a := levelOf p.raw i
     let latch := latchOf i a
     let raised := a = true ∧ p.stop = false ∧ ((i = .kLeft ∧ p.level.kRight = true) ∨ (i = .kRight ∧ p.level.kLeft = true))
     let level := setLevel p.level i a
     let latches := match latch with
       | some l => p.latches.setLatch l
       | none => p.latches
     let stop := p.stop || decide raised
     let byLatch : List Notice := match latch with
       | some l => if p.latches.has l = true then [] else [.panel (.latch l) level latches stop]
       | none => []
     let notices := byLatch ++ (if raised then [.panel .stopStands level latches stop] else [])
     let base : State :=
       { s with
         panel := { p with level := level, timers := p.timers.put i none, latches := latches, stop := stop }
         links := notices.foldl (fun ls n => toldTo ls .service n) s.links }
     let leads (u : State) : Prop := ∃ t, exec (.debouncedEdge i) s = .next t ∧ ReachedThen t u
     let halts := (i = .frontDoor ∧ a = true) ∨ raised
     (p.timers.of i = none → exec (.debouncedEdge i) s = .next s) ∧
     (∀ n, p.timers.of i = some n →
       (i ≠ .cartridgePresent → ¬(halts ∧ s.picker.state = .moving) → leads base) ∧
       (halts → s.picker.state = .moving →
         let told := holdGranted s.hold (recoveryTold s.picker.by_ base.links .failed)
         leads
           { base with
             picker := { s.picker with state := .halted, by_ := none }
             hold := told.1
             links := told.2 }) ∧
       (i = .cartridgePresent → a = true →
         leads { base with mailslot := if s.mailslot = .empty then .inserted else s.mailslot }) ∧
       (i = .cartridgePresent → a = false →
         let cleared (x : List Alarm × Four LinkUnit) := alarmCleared x .foreignCartridge
         ((∀ v, s.toCore.location v ≠ some .inMailslot) →
           let y := cleared (s.alarms, base.links)
           leads { base with mailslot := .empty, alarms := y.1, links := y.2 }) ∧
         ∀ v, (∀ w, s.toCore.location w = some .inMailslot ↔ w = v) →
           let volumes := relocated s.volumes v .out
           let suspect := ({ s with volumes := volumes } : State).toCore.suspectStands
           let x := if suspect then alarmSet (s.alarms, base.links) .sideSuspect
             else alarmCleared (s.alarms, base.links) .sideSuspect
           let y := cleared x
           leads { base with volumes := volumes, mailslot := .empty, alarms := y.1, links := y.2 })))

/-! ### Completions of drive operations (chapter 2) -/

/-- R29, R32, R26, R34, R45, R157: a SPIN DOWN that is not a start probe's is followed by EJECT on an UNLOADING drive and leaves any
other SPUN_DOWN. At EJECT in a bound drive the move of its binding joins the set: the return of an evicted volume at class 1 under
the arrival number of the move it makes room for, a service MOVE or an export at class 4; a swap's move becomes startable. A move
under the binding of an IMPORT, or of an inventory that reads a slot's cartridge (its turn, the way home, the way out), joins at
class 4 under the arrival number of its mount operation, which stands as long as the binding (R37, R150; that this holds of every
such move is DEDUCED, notes/assumptions/55.md). In a drive being cleared DRIVE_FAULT clears: with no volume named the drive is EMPTY
and CLEARED is answered, and a named volume's move home joins at class 4. (The link an eviction's move is ordered by is the model's
choice, notes/assumptions/34.md.) R31, R34: how an unloading begins. A load move that is taken binds the lowest-numbered drive that
is EMPTY and free, and starts at once; with none, the evictable drive of oldest last-use time, the lower-numbered of equals, which
becomes UNLOADING; with none of either it is not startable. A swap's move that is taken binds its drive, which becomes UNLOADING. -/
def Obligations.UnloadingGoesOn : Prop :=
  (∀ (d : DriveId) (s : State), s.resetDue = false →
    let x := s.drives.get d
    let y : Drive := { x with op := none }
    let down (u : State) : Prop := ∃ t, exec (.spinDownComplete d) s = .next t ∧ ReachedThen t u
    let out (u : State) : Prop := ∃ t, exec (.ejectComplete d) s = .next t ∧ ReachedThen t u
    let with_ (z : Drive) : State := { s with drives := s.drives.set d z }
    let joined (u : State) (m : Move) : State := { u with moves := s.moves ++ [m], nextArrival := s.nextArrival + 1 }
    (∀ user, user ≠ .probe → InFlight s d .spinDown user →
      (x.state = .unloading → down (with_ { x with op := issued .eject .mechanism })) ∧
      (x.state ≠ .unloading → down (with_ { y with state := .spunDown }))) ∧
    (∀ user, InFlight s d .eject user →
      (x.state ≠ .faulted →
        (∀ n m sd, x.bound = some (.mount n) → s.toCore.mount n = some m → m.step ≠ .swapping → x.loaded = some sd →
          let by_ := (s.moves.find? (fun m => m.serves == .mount n)).bind (·.orderedBy)
          let move : Move :=
            { src := .drive d sd.face, dst := .fixed (.slot sd.slot), cls := 1, prio := 0, arrival := n, orderedBy := by_,
              serves := .evict d, carries := some sd.slot }
          out { with_ y with moves := s.moves ++ [move] }) ∧
        (∀ n m, x.bound = some (.mount n) → s.toCore.mount n = some m → m.step = .swapping →
          out { with_ y with
            mounts := s.mounts.map (fun k => if k.arrival = n then { k with step := .moveReady } else k) }) ∧
        (∀ sv f, x.bound = some (.service sv) → x.presented = some f →
          out (joined (with_ y) (serviceMoveOf s (.drive d f) (.fixed (.slot sv.slot)) (some sv.by_.link) (.service sv)
            (some sv.slot)))) ∧
        (∀ op f, x.bound = some .exporting → s.exportOp = some op → x.presented = some f →
          out (joined (with_ y) (serviceMoveOf s (.drive d f) (.fixed .mailslot) (some op.by_.link) .exportOut
            (some op.slot)))) ∧
        (∀ f k, x.presented = some f →
          let underMount (dst : Dest) (by_ : Option LinkId) (serves : Serves) (carries : Option SlotId) : Prop :=
            let move : Move :=
              { src := .drive d f, dst, cls := 4, prio := 0, arrival := k.arrival, orderedBy := by_, serves, carries }
            out { with_ y with moves := s.moves ++ [move] }
          let turned : Dest := .fixed (.drive d (otherFace f))
          (∀ op, x.bound = some .importing → s.importOp = some op →
            s.mounts.find? (fun m => m.target == .importing) = some k →
            (op.phase = .turning → underMount turned (some op.by_.link) .importTurn none) ∧
            (∀ v o, op.phase = .goingHome v o →
              underMount (.fixed (.slot v)) (some op.by_.link) .importHome (some v)) ∧
            (∀ o, op.phase = .settingBack o →
              underMount (.fixed .mailslot) (some op.by_.link) (.importBack o) none)) ∧
          (∀ i rd, x.bound = some .inventory → s.inventory = some i → i.reading = some rd →
            s.mounts.find? (fun m => match m.target with | .slotCartridge _ => true | _ => false) = some k →
            (rd.phase = .turning → underMount turned i.link .inventoryTurn none) ∧
            (∀ v, rd.phase = .goingHome v → underMount (.fixed (.slot v)) i.link .inventoryHome (some v)) ∧
            (rd.phase = .settingOut → underMount (.fixed .mailslot) i.link .inventoryOut none)))) ∧
      (∀ o, x.state = .faulted → x.clearing = some o →
        let cleared := alarmCleared (s.alarms, s.links) (.driveFault d)
        (x.loaded = none →
          out { with_ { y with state := .empty, clearing := none } with
            alarms := cleared.1
            links := answered cleared.2 o (.media .cleared none) }) ∧
        (∀ sd, x.loaded = some sd →
          out (joined { with_ { y with state := .unloading } with alarms := cleared.1, links := cleared.2 }
            (serviceMoveOf s (.drive d sd.face) (.fixed (.slot sd.slot)) (some o.link) (.clearReturn d)
              (some sd.slot))))))) ∧
  (∀ (m : Move) (n : Nat) (s : State), m.serves = .mount n →
     let takes (u : State) : Prop := s.toCore.take m = u.toCore
     let onMount (f : MountOp → MountOp) : List MountOp := s.mounts.map (fun k => if k.arrival = n then f k else k)
     let unloads (x : Drive) : Drive :=
       { x with
         state := .unloading
         idle := none
         bound := some (.mount n)
         op := if x.idleSpinDown = true then x.op
           else if x.state = .spunDown then issued .eject .mechanism else issued .spinDown .mechanism }
     let free (d : DriveId) : Prop :=
       let x := s.drives.get d
       x.state = .empty ∧ x.unnamed = false ∧ x.bound = none ∧ x.op = none
     let evictable (d : DriveId) : Prop :=
       let x := s.drives.get d
       x.claims = 0 ∧ x.bound = none ∧ (x.op = none ∨ x.idleSpinDown = true) ∧ x.unnamed = false ∧
         (x.state = .ready ∨ x.state = .spunDown) ∧ ¬(x.filingFlag = true ∧ s.pendingList ≠ []) ∧
         ∃ sd, x.loaded = some sd ∧ ∀ sel, s.selection = some sel → sel.side.slot ≠ sd.slot
     (∀ f, m.dst = .anyDrive f → (∀ d g, m.src ≠ .drive d g) →
       (∀ d, free d → (∀ k, free k → d ≤ k) →
         (∀ v, m.carries = some v → ∃ loc, s.toCore.location v = some loc ∧ loc ≠ .out) → takes
           { s with
             moves := s.moves.erase m
             mounts := onMount (fun k => { k with drive := some d, step := .moving })
             drives := s.drives.set d { s.drives.get d with state := .loading, bound := some (.mount n) }
             volumes := match m.carries with
               | some v => relocated s.volumes v (.inPicker m.src (.drive d f))
               | none => s.volumes
             mailslot := if m.src = .mailslot then .empty else s.mailslot
             picker := pickerIn (.move { m with dst := .fixed (.drive d f) }) s.picker.by_ s.picker.clearing }) ∧
       ((∀ k, ¬free k) → ∀ d, evictable d →
         (∀ k, evictable k → (s.drives.get d).lastUse < (s.drives.get k).lastUse ∨
           ((s.drives.get d).lastUse = (s.drives.get k).lastUse ∧ d ≤ k)) → takes
           { s with
             moves := s.moves.map (fun k => if k = m then { k with dst := .fixed (.drive d f) } else k)
             mounts := onMount (fun k => { k with drive := some d, step := .evicting })
             drives := s.drives.set d (unloads (s.drives.get d)) }) ∧
       ((∀ k, ¬free k) → (∀ k, ¬evictable k) → ∀ k, s.toCore.mount n = some k → k.step = .waiting →
         startable s.toFixed s.toCore m = false)) ∧
     (∀ p d f k, m.dst = .fixed p → m.src = .drive d f → s.toCore.mount n = some k → k.step = .waiting → takes
       { s with
         mounts := onMount (fun k => { k with drive := some d, step := .swapping })
         drives := s.drives.set d (unloads (s.drives.get d)) }))

/-- R33, R35, R27, R88, R89: a GOOD LOAD+SPIN UP that is not a start probe's leaves the drive READY. Of a mount operation
the requesters take their claims: the engine's, or a job's, which joins the empty service order as its head and reads its
directory entry. Without a requester, after a service MOVE and after a spin-up the binding ends and the idle timer starts
where no claim stands; the MOVE's link is answered DONE. A first LOAD+SPIN UP that is not GOOD is issued again. -/
def Obligations.LoadSpinUpMakesTheDriveReady : Prop :=
  ∀ (d : DriveId) (user : OpUser) (second : Bool) (s : State), s.resetDue = false → user ≠ .probe →
    InFlight s d (.loadSpinUp second) user →
    let x := s.drives.get d
    let idle := if x.claims = 0 then some s.settings.idle else x.idle
    let ready : Drive := { x with op := none, state := .ready, bound := none }
    let claimed : Drive := { ready with claims := x.claims + 1, idle := none }
    let leads (u : State) : Prop := ∃ t, exec (.loadSpinUpComplete d .good) s = .next t ∧ ReachedThen t u
    (x.bound = none → leads { s with drives := s.drives.set d { ready with idle := idle } }) ∧
    (∀ sv, x.bound = some (.service sv) → leads
      { s with
        drives := s.drives.set d { ready with idle := idle }
        links := answered s.links sv.by_ (.media .done (some sv.slot)) }) ∧
    (∀ n m, x.bound = some (.mount n) → s.toCore.mount n = some m →
      let ended : State := { s with mounts := s.mounts.filter (fun k => k.arrival ≠ n) }
      (m.requesters = [] → leads { ended with drives := s.drives.set d { ready with idle := idle } }) ∧
      (m.requesters = [.engine] → leads
        { ended with drives := s.drives.set d claimed, engine := { s.engine with claim := some d } }) ∧
      (∀ id, m.requesters = [.job id] → x.service = [] → x.filingFlag = false → leads
        { ended with
          drives := s.drives.set d { claimed with service := [id] }
          queue := s.queue.map
            (fun j => if j.id = id then { j with drive := some d, state := .readingDirectory } else j) })) ∧
    (second = false → ∀ r, r ≠ .good → ∃ t, exec (.loadSpinUpComplete d r) s = .next t ∧ ReachedThen t
      { s with drives := s.drives.set d { x with op := issued (.loadSpinUp true) .mechanism } })

/-- R24, R25, R26, R75, R99, R110: a drive operation that is not a start probe's and stands at its 60 s, or a second LOAD+SPIN
UP that is not GOOD, makes the drive FAULTED: no operation, no claim, no binding, no service order, its idle timer stopped; no
job and not the engine keeps a claim on it, and DRIVE_FAULT, where it does not stand, is told to every link after everything
else (the order of these frames is the model's choice, notes/assumptions/83.md). Each job that holds a claim ends FAILED
DRIVE_FAULT, or CANCELLED under the cancel mark, a walk with steps charged for them, in the order of acceptance
(notes/assumptions/61.md), and leaves the queue, the waiting requests and every mount operation; nothing else changes where the
engine neither holds a claim on the drive nor waits for it and nothing or a service MOVE has bound it, the MOVE's link being
answered FAULTED with the MOVE's volume (after a second failure too, notes/assumptions/89.md; the volume,
notes/assumptions/24.md). Where a claim ends so the drive's last-use time is set (R23). An engine that holds the claim for a
flush of the OPEN side is STALLED, its flush ended. A TIMEOUT of the EJECT that CLEAR FAULT issued leaves the drive FAULTED and
is answered FAULTED, without a volume even where the drive names one (DEDUCED, notes/assumptions/24.md). A timeout of an
operation that does not stand at its 60 s changes nothing (the model's choice, notes/assumptions/5.md). -/
def Obligations.FailedOperationFaultsTheDrive : Prop :=
  ∀ (d : DriveId) (user : OpUser) (kind : OpKind) (n : Nat) (s : State), s.resetDue = false → user ≠ .probe →
    let x := s.drives.get d
    x.op = some { kind, user, timer := n } →
    let timeout := Instr.driveOperationTimeout d
    let fails (c : Instr) : Prop := (c = timeout ∧ n = 0 ∧ (x.state = .faulted → x.clearing = none)) ∨
      (kind = .loadSpinUp true ∧ ∃ r, r ≠ .good ∧ c = .loadSpinUpComplete d r)
    let claiming := s.queue.filter (fun j => j.drive = some d)
    let faultedAt (lastUse : Nat) : Drive :=
      { x with state := .faulted, idle := none, op := none, service := [], claims := 0, bound := none, lastUse := lastUse }
    let ends (c : Core) (j : Job) : Core :=
      let outcome : JobOutcome := if j.cancelled = true then .cancelled else .failed .driveFault
      let stop : StopReason := if j.cancelled = true then .cancelled else .driveFault
      let told (b : JobDone) : Four LinkUnit := answered c.links { link := j.id.link, tag := j.id.tag } (.job b)
      match j.walk with
      | none => { c with links := told { outcome, stop := none, amount := j.sent, charge := none } }
      | some w =>
        if w.steps = 0 then { c with links := told { outcome, stop := some stop, amount := 0, charge := none } }
        else
          let p := c.charge (j.item true)
          { c with
            tallies := p.1.tallies
            courtesy := p.1.courtesy
            links := told { outcome := .done, stop := some stop, amount := w.steps, charge := some p.2 } }
    let after := claiming.foldl ends s.toCore
    let ended : State :=
      { s with
        drives := s.drives.set d (faultedAt (if claiming = [] then x.lastUse else s.secondCount))
        queue := s.queue.filter (fun j => claiming.all (fun k => j.id ≠ k.id))
        requests := s.requests.filter (fun q => claiming.all (fun k => q.who ≠ .job k.id))
        mounts := s.mounts.map (fun m =>
          { m with requesters := m.requesters.filter (fun r => claiming.all (fun k => r ≠ .job k.id)) })
        tallies := after.tallies
        courtesy := after.courtesy }
    let alarmed (u : State) (links : Four LinkUnit) : State :=
      let y := alarmSet (s.alarms, links) (.driveFault d)
      { u with alarms := y.1, links := y.2 }
    let leads (c : Instr) (u : State) : Prop := ∃ t, exec c s = .next t ∧ ReachedThen t u
    (∀ c, fails c → ∃ t u, exec c s = .next t ∧ ReachedThen t u ∧
      (let y := u.drives.get d
       y.state = .faulted ∧ y.op = none ∧ y.claims = 0 ∧ y.service = [] ∧ y.bound = none ∧ y.idle = none) ∧
      u.engine.claim ≠ some d ∧ (∀ j ∈ u.queue, j.drive ≠ some d) ∧ .driveFault d ∈ u.alarms ∧
      (.driveFault d ∉ s.alarms → ∃ links, u.links = toldAll links (.alarm (.driveFault d) true u.alarms))) ∧
    (∀ c, fails c → (∀ j ∈ claiming, s.toCore.job j.id = some j ∧ j.state ≠ .waitOperator) →
      s.engine.claim ≠ some d → s.toCore.engineWaitsOn d = false →
      (x.bound = none → leads c (alarmed ended after.links)) ∧
      (∀ sv, x.bound = some (.service sv) →
        leads c (alarmed ended (answered after.links sv.by_ (.media .faulted (some sv.slot)))))) ∧
    (n = 0 → user = .engineFlush → x.state ≠ .faulted → x.bound = none → claiming = [] → s.engine.claim = some d →
      s.toCore.openSide ≠ none → s.inventory = none → (∀ p ∈ s.pendingList.head?, p.state = .staged) →
      leads timeout (alarmed
        { s with
          drives := s.drives.set d (faultedAt s.secondCount)
          requests := s.requests.filter (fun q => q.who ≠ .engine)
          mounts := s.mounts.map (fun m => { m with requesters := m.requesters.filter (· ≠ .engine) })
          engine := { s.engine with state := .stalled .driveFault, claim := none, attempts := 0, flush := none } } s.links)) ∧
    (∀ o, n = 0 → x.state = .faulted → x.clearing = some o → leads timeout
      { s with
        drives := s.drives.set d { x with op := none, clearing := none }
        links := answered s.links o (.media .faulted none) }) ∧
    (n ≠ 0 → exec timeout s = .next s)

/-! ### The picker, and the start of the mechanism (chapter 2) -/

/-- R37: while the picker is IDLE, the front door closed and no stop standing, the arbiter takes, of the pending moves that are
startable, the one of highest class, then of highest priority, then of lowest arrival number. Startable is a move that the hold
permits, whose mount can bind a drive or has it, that finds the mailslot door closed where it goes through it (and the content
settled after a start, notes/assumptions/68.md), whose source holds its cartridge and whose destination is free (a home slot by
notes/assumptions/33.md during an inventory, whose probes need neither). A move to a destination that is taken starts: it leaves the
set, the picker is MOVING under its stall timer, what it carries is IN_PICKER. R3, R32, R33, R34, R39, R40, R45, R159: at the DONE
of the move a MOVING or HALTED picker carries out the volume stands at its destination, the picker is IDLE, a waiting hold is
granted (notes/assumptions/69.md, notes/assumptions/92.md), and the operation served goes on: a load, or the move of a swap, is
followed by LOAD+SPIN UP; the return of an eviction leaves the drive LOADING and the mount's own move startable; a service MOVE to a
drive is followed by LOAD+SPIN UP, and one home leaves the drive EMPTY and is answered DONE. A probe of inventory gives its result
to the probe table. R26, R149, R150, R154, R157, R159, R160: an IMPORT's volume from the mailslot, or its cartridge gone home, is
HOME and the IMPORT answered, the jobs that waited for a volume out of the mailslot placed again (notes/assumptions/84.md); a
rejected cartridge lies in the mailslot, a FOREIGN one with its alarm, and the IMPORT is answered without a volume (DEDUCED,
notes/assumptions/24.md); an EXPORT's volume is IN_MAILSLOT and EXPORTED is answered; CLEAR FAULT's drive is EMPTY and CLEARED is
answered, a known volume left unnamed (notes/assumptions/24.md); a cartridge turned, or fetched for an IMPORT or an inventory, is
spun up under the binding, with which its mount operation ends (DEDUCED where it goes home or out, notes/assumptions/55.md);
inventory has done with a cartridge gone home, and one set out is counted. -/
def Obligations.MoveDoneSetsTheCartridgeDown : Prop :=
  (∀ s : State,
     let before (x y : Move) : Prop :=
       y.cls < x.cls ∨ (x.cls = y.cls ∧ (y.prio < x.prio ∨ (x.prio = y.prio ∧ x.arrival < y.arrival)))
     let chosen := chooseMove s.toFixed s.toCore
     let starts (m : Move) : Prop := startable s.toFixed s.toCore m = true
     let driveFree (d : DriveId) : Prop :=
       let x := s.drives.get d
       x.state = .empty ∧ x.unnamed = false ∧ x.bound = none ∧ x.op = none
     let unclaimedQuiet (x : Drive) : Prop :=
       x.claims = 0 ∧ x.bound = none ∧ (x.op = none ∨ x.idleSpinDown = true) ∧ (x.state = .ready ∨ x.state = .spunDown) ∧
         ¬(x.filingFlag = true ∧ s.pendingList ≠ [])
     let evictable (x : Drive) : Prop := unclaimedQuiet x ∧ x.unnamed = false ∧
       ∃ sd, x.loaded = some sd ∧ ∀ sel, s.selection = some sel → sel.side.slot ≠ sd.slot
     let binds (m : Move) : Prop := ∀ n, m.serves = .mount n → ∃ k, s.toCore.mount n = some k ∧ (k.step = .moveReady ∨
       (k.step = .waiting ∧
         (((∃ f, m.dst = .anyDrive f) ∧ ∃ d, driveFree d ∨ evictable (s.drives.get d)) ∨
           ∃ p d f, m.dst = .fixed p ∧ m.src = .drive d f ∧ unclaimedQuiet (s.drives.get d))))
     let held (m : Move) : Prop := match m.carries, m.src with
       | some v, src => s.toCore.location v = some src.location ∧ (src = .mailslot → s.mailslot = .volume v)
       | none, .drive d _ => (s.drives.get d).unnamed = true
       | none, .mailslot => s.mailslot = .inserted ∨ ∃ v, s.mailslot = .volume v
       | none, .slot _ => True
     let room (m : Move) : Prop := match m.dst with
       | .anyDrive _ => True
       | .fixed (.slot v) => if s.inventory = none then s.toCore.location v ≠ some .home else s.toCore.slotFree v = true
       | .fixed .mailslot => s.mailslot = .empty ∧ s.panel.level.cartridgePresent = false
       | .fixed (.drive d _) =>
         (∃ f, m.src = .drive d f) ∨
           ((∀ k f, m.src ≠ .drive k f) ∧ (s.drives.get d).loaded = none ∧ (s.drives.get d).unnamed = false)
     (∀ m, chosen = some m → m ∈ s.moves ∧ starts m ∧ ∀ k ∈ s.moves, starts k → ¬before k m) ∧
     (chosen = none → ∀ k ∈ s.moves, ¬starts k) ∧
     (arbiterStep s.toFixed s.toCore =
       if s.picker.state = .idle ∧ s.panel.level.frontDoor = false ∧ s.panel.stop = false then chosen.map s.toCore.take
       else none) ∧
     (∀ m, starts m ↔
       (∀ l, s.hold = .granted l → m.orderedBy = some l) ∧ (∀ o, s.hold ≠ .waiting o) ∧ binds m ∧
         (m.src = .mailslot ∨ m.dst = .fixed .mailslot →
           s.panel.level.mailslotDoor = false ∧ s.startPhase = .settled) ∧
         ((∃ v, m.serves = .inventoryProbe v) ∨ (held m ∧ room m))) ∧
     (∀ m p, m.dst = .fixed p → (∀ n k, m.serves = .mount n → s.toCore.mount n = some k → k.step ≠ .waiting) → held m →
       let emptied := if m.src = .mailslot then Mailslot.empty else s.mailslot
       let started : State :=
         { s with
           moves := s.moves.erase m
           volumes := match m.carries with
             | some v => relocated s.volumes v (.inPicker m.src p)
             | none => s.volumes
           drives := match m.src with
             | .drive d _ => s.drives.set d { s.drives.get d with loaded := none, filingFlag := false }
             | _ => s.drives
           mailslot := if p = .mailslot ∧ emptied = .empty then .reserved else emptied
           picker := pickerIn (.move m) s.picker.by_ s.picker.clearing
           mounts := match m.serves with
             | .mount n => s.mounts.map (fun k => if k.arrival = n then { k with step := .moving } else k)
             | _ => s.mounts }
       s.toCore.take m = started.toCore)) ∧
  (∀ (m : Move) (s : State), s.resetDue = false → s.picker.state = .moving ∨ s.picker.state = .halted →
    s.picker.motion = some (.move m) →
    let leads (u : State) : Prop := ∃ t, exec .pickerMoveDone s = .next t ∧ ReachedThen t u
    let granted (u : State) : State :=
      { u with picker := pickerFree, hold := (holdGranted u.hold u.links).1, links := (holdGranted u.hold u.links).2 }
    let held (links : Four LinkUnit) : State := granted { s with links := links }
    let step (n : Nat) (st : MountStep) : List MountOp :=
      s.mounts.map (fun k => if k.arrival = n then { k with step := st } else k)
    let without (b : Binding) : List MountOp := s.mounts.filter (fun k => k.target.heldBy b = false)
    let spunUp (d : DriveId) (f : Face) : Drive :=
      { s.drives.get d with
        loaded := none, unnamed := true, presented := some f, state := .loading, op := issued (.loadSpinUp false) .mechanism }
    let media (links : Four LinkUnit) (o : Orderer) (x : MediaOutcome) (v : Option SlotId) : Four LinkUnit :=
      answered links o (.media x v)
    (∀ v src dst, m.carries = some v → s.toCore.location v = some (.inPicker src dst) →
      (∀ d f, m.dst = .fixed (.drive d f) →
        let home : State :=
          { held s.links with
            volumes := relocated s.volumes v (.inDrive d f)
            drives := s.drives.set d
              { seated (s.drives.get d) ⟨v, f⟩ (s.toCore.isOpen ⟨v, f⟩) with
                state := .loading, op := issued (.loadSpinUp false) .mechanism } }
        (∀ n k sd, m.serves = .mount n → s.toCore.mount n = some k → k.target = .side sd →
          (m.src = .slot v ∨ ∃ g, m.src = .drive d g) → leads { home with mounts := step n .loading }) ∧
        (∀ sv, m.serves = .service sv → sv.toDrive = true → m.src = .slot v → leads home)) ∧
      (m.dst = .fixed (.slot v) → ∀ d f, m.src = .drive d f →
        let x := s.drives.get d
        let emptied (links : Four LinkUnit) : State :=
          { held links with volumes := relocated s.volumes v .home, drives := s.drives.set d (Machine.emptied x) }
        (∀ n, m.serves = .evict d → x.bound = some (.mount n) → leads
          { held s.links with
            volumes := relocated s.volumes v .home
            drives := s.drives.set d { x with state := .loading }
            mounts := step n .moveReady }) ∧
        (∀ sv, m.serves = .service sv → sv.toDrive = false →
          leads (emptied (media s.links sv.by_ .done (some sv.slot)))) ∧
        (∀ o, m.serves = .clearReturn d → x.clearing = some o → leads
          { emptied (media s.links o .cleared none) with
            drives := s.drives.set d { Machine.emptied x with clearing := none } }) ∧
        (∀ op o, m.serves = .importHome → s.importOp = some op → op.phase = .goingHome v o → leads
          { emptied (media s.links op.by_ o (some v)) with importOp := none, mounts := without .importing }) ∧
        (∀ i, m.serves = .inventoryHome → s.inventory = some i → leads
          { emptied s.links with inventory := some { i with reading := none }, mounts := without .inventory })) ∧
      (m.dst = .fixed (.slot v) → ∀ op, m.serves = .importReturn → m.src = .mailslot → s.importOp = some op →
        s.exportOp = none → .noBlank ∉ s.alarms →
        let home : State :=
          { s with picker := pickerFree, volumes := relocated s.volumes v .home, importOp := none }
        let waiting := waitingOn s v
        s.queueBounded → (∀ j ∈ s.queue, j ∉ waiting → home.toCore.wakes j = false) →
        let placed := waiting.foldl placedAgain home
        leads (granted { placed with links := media placed.links op.by_ .returned (some v) })) ∧
      (m.dst = .fixed .mailslot → ∀ op, m.serves = .exportOut → s.exportOp = some op → op.slot = v →
        let out : State :=
          { held (media s.links op.by_ .exported (some v)) with
            volumes := relocated s.volumes v .inMailslot
            mailslot := .volume v
            exportOp := none }
        (m.src = .slot v → leads out) ∧
        (∀ d f, m.src = .drive d f → leads { out with drives := s.drives.set d (emptied (s.drives.get d)) }))) ∧
    (m.carries = none →
      (∀ d f g, m.src = .drive d f → m.dst = .fixed (.drive d g) → m.serves = .importTurn ∨ m.serves = .inventoryTurn →
        leads { held s.links with drives := s.drives.set d (spunUp d g) }) ∧
      (∀ d f, m.src = .drive d f → m.dst = .fixed .mailslot →
        let rejected (o : MediaOutcome) (by_ : Option Orderer) : State :=
          let y := if o = .foreign then alarmSet (s.alarms, s.links) .foreignCartridge else (s.alarms, s.links)
          { held (match by_ with
              | some b => media y.2 b o none
              | none => y.2) with
            drives := s.drives.set d (emptied (s.drives.get d))
            mailslot := .rejected o
            alarms := y.1 }
        (∀ op o, m.serves = .importBack o → s.importOp = some op → leads
          { rejected o (some op.by_) with importOp := none, mounts := without .importing }) ∧
        (∀ i, m.serves = .inventoryOut → s.inventory = some i → leads
          { rejected .foreign none with
            mounts := without .inventory
            inventory := some
              { i with reading := none, counts := { i.counts with setAside := i.counts.setAside + 1 } } })) ∧
      (∀ n k d g, m.serves = .mount n → s.toCore.mount n = some k → m.dst = .fixed (.drive d g) →
        let bound (b : Binding) : State :=
          { held s.links with
            mounts := step n .loading
            drives := s.drives.set d { spunUp d g with bound := some b } }
        (k.target = .importing → m.src = .mailslot → leads
          { bound .importing with importOp := s.importOp.map (fun o => { o with drive := some d }) }) ∧
        (∀ v, k.target = .slotCartridge v → m.src = .slot v → leads
          { bound .inventory with
            inventory := s.inventory.map (fun i =>
              { i with reading := i.reading.map (fun r => { r with drive := some d, phase := .loading }) }) }))) ∧
    (∀ v i occupied, m.serves = .inventoryProbe v → s.inventory = some i →
      ∃ t, exec (.inventoryProbeDone occupied) s = .next t ∧ ReachedThen t
        { held s.links with
          inventory := some { i with probes := i.probes.set v (if occupied = true then .occupied else .empty) } }))

/-- R38, R39, R40, R43: a motion that stalls, or that fails on a MOVING or HALTED picker, leaves the picker FAULTED, holding it;
PICKER_FAULT is told to every link, the link whose RESUME MECHANISM or CLEAR FAULT began a recovery is answered FAULTED, without
a volume (DEDUCED, notes/assumptions/24.md), and a waiting hold is granted (the FAILED of a HALTED picker:
notes/assumptions/20.md). A late DONE of a move that stalled is recorded, that of a probe of inventory with what it reports, and
in any other state it changes nothing, as does a stall of a timer that does not stand at 0 (the model's choice,
notes/assumptions/5.md, 6.md). R38, R43, R44, of a recovery under way and of one the gate has halted under way alike
(notes/assumptions/20.md): the re-home that finds a cartridge in the gripper goes on to return it; one that finds none, and the
return done, end the recovery: the cartridge is at the move's source, be it a home slot, a drive, which has its loaded side and
filing flag again, or the mailslot, whose content is as before the move, whatever it has become since (notes/assumptions/91.md);
a mailslot that was reserved for it is free; the move is back in the set, and its operation's move startable; the link that
ordered the recovery is answered DONE, without a volume though a known one was returned (DEDUCED, notes/assumptions/24.md), a
waiting hold is granted and the picker is IDLE. A service MOVE that CLEAR FAULT has recovered is answered FAILED instead, with
its volume, the drive at its destination EMPTY and the drive at its source SPUN_DOWN (notes/assumptions/43.md). The re-home
after a late DONE ends with its report of an empty gripper. (The order of the frames of one event is the model's choice,
notes/assumptions/69.md: the alarm, the MOVE's DONE, then the recovery's DONE, then the hold's.) -/
def Obligations.FailedMotionFaultsAndRecoveryReturns : Prop :=
  (∀ s : State, s.resetDue = false →
     let p := s.picker
     let alarm := alarmSet (s.alarms, s.links) .pickerFault
     let told := holdGranted s.hold (recoveryTold p.by_ alarm.2 .faulted)
     let faulted (stalled : Bool) : State :=
       { s with
         picker :=
           { p with
             state := .faulted, stall := none, stalled := stalled, lateDone := false, lateProbe := none, by_ := none }
         alarms := alarm.1
         hold := told.1
         links := told.2 }
     (∀ m, p.motion = some m → p.state = .moving ∨ p.state = .halted →
       ∃ t, exec .pickerMoveFailed s = .next t ∧ ReachedThen t (faulted false)) ∧
     (∀ m, p.state = .moving → p.stall = some 0 → p.motion = some m →
       ∃ t, exec .pickerStall s = .next t ∧ ReachedThen t (faulted m.isMove)) ∧
     (p.state ≠ .moving ∨ p.stall ≠ some 0 → exec .pickerStall s = .next s) ∧
     (∀ m, p.state = .faulted → p.stalled = true → p.motion = some (.move m) →
       (∃ t, exec .lateMoveDone s = .next t ∧ Reached t { s with picker := { p with lateDone := true } }) ∧
       ∀ v occupied, m.serves = .inventoryProbe v → ∃ t, exec (.inventoryProbeDone occupied) s = .next t ∧
         Reached t { s with picker := { p with lateDone := true, lateProbe := some occupied } }) ∧
     (p.state ≠ .faulted ∨ p.stalled = false → exec .lateMoveDone s = .next s)) ∧
  (∀ s : State, s.resetDue = false → s.picker.state = .moving ∨ s.picker.state = .halted ∧ s.picker.stall ≠ none →
     s.picker.motion = some .emptyRehome →
     let told := holdGranted s.hold (recoveryTold s.picker.by_ s.links .done)
     ∃ t, exec (.recoveryRehomeDone false) s = .next t ∧
       ReachedThen t { s with picker := pickerFree, hold := told.1, links := told.2 }) ∧
  (∀ (m : Move) (returning : Bool) (s : State), s.resetDue = false →
     s.picker.state = .moving ∨ s.picker.state = .halted ∧ s.picker.stall ≠ none →
     s.picker.motion = some (.recovery m returning) →
     let leads (c : Instr) (u : State) : Prop := ∃ t, exec c s = .next t ∧ ReachedThen t u
     let ends (u : State) : Prop :=
       (returning = false → leads (.recoveryRehomeDone false) u) ∧ (returning = true → leads .recoveryReturnDone u)
     let free (links : Four LinkUnit) : State :=
       let told := holdGranted s.hold (recoveryTold s.picker.by_ links .done)
       { s with picker := pickerFree, hold := told.1, links := told.2 }
     (returning = false →
       leads (.recoveryRehomeDone true) { s with picker := { s.picker with motion := some (.recovery m true) } }) ∧
     ∀ p, m.dst = .fixed p →
       let mailslot := if p = .mailslot ∧ s.mailslot = .reserved then Mailslot.empty else s.mailslot
       let goesOn (u : State) : Prop :=
         (∀ n, m.serves = .mount n → ends
           { u with
             moves := s.moves ++ [m]
             mounts := s.mounts.map (fun k => if k.arrival = n then { k with step := .moveReady } else k) }) ∧
         ((∀ n, m.serves ≠ .mount n) → (∀ sv, m.serves = .service sv → s.picker.clearing = false) → ends
           { u with moves := s.moves ++ [m] })
       let failed (sv : ServiceMove) : State := free (answered s.links sv.by_ (.media .failed (some sv.slot)))
       (∀ v src dst, m.carries = some v → s.toCore.location v = some (.inPicker src dst) →
         (∀ w, m.src = .slot w →
           goesOn { free s.links with volumes := relocated s.volumes v .home, mailslot := mailslot } ∧
           ∀ sv d f, m.serves = .service sv → s.picker.clearing = true → p = .drive d f → ends
             { failed sv with
               volumes := relocated s.volumes v .home
               drives := s.drives.set d (emptied (s.drives.get d)) }) ∧
         (∀ d f, m.src = .drive d f →
           let again := seated (s.drives.get d) ⟨v, f⟩ (s.toCore.isOpen ⟨v, f⟩)
           goesOn
             { free s.links with
               volumes := relocated s.volumes v (.inDrive d f)
               drives := s.drives.set d again
               mailslot := mailslot } ∧
           ∀ sv w, m.serves = .service sv → s.picker.clearing = true → p = .slot w → ends
             { failed sv with
               volumes := relocated s.volumes v (.inDrive d f)
               drives := s.drives.set d { again with state := .spunDown, bound := none } }) ∧
         (m.src = .mailslot →
           goesOn { free s.links with volumes := relocated s.volumes v .inMailslot, mailslot := .volume v })) ∧
       (m.carries = none →
         (m.src = .mailslot → goesOn { free s.links with mailslot := .inserted }) ∧
         ∀ d f, m.src = .drive d f → goesOn
           { free s.links with
             drives := s.drives.set d { s.drives.get d with presented := some f }
             mailslot := mailslot }))

/-- R19, R38, R43, R47, R155, of a start recovery under way and of one the gate has halted under way alike
(notes/assumptions/20.md): it ends, with the picker IDLE and the probe of every drive begun, at a re-home that finds no
cartridge while no volume is stored as IN_PICKER, at the return of a held one, and at the probe of the destination: the volume
stored as IN_PICKER is then at its source, or at the destination where that is occupied. A cartridge held goes back first, one
that no record names into the mailslot while that is free; an empty gripper has the destination probed. Where RESUME MECHANISM
or CLEAR FAULT began it again, that link is answered DONE, without a volume though a known one was returned (DEDUCED,
notes/assumptions/24.md), and a waiting hold is granted. (That a drive shows SPINNING_UP before its probe is the model's choice,
notes/assumptions/12.md, and that the DONE of a recovery goes before that of a waiting hold, notes/assumptions/69.md.) -/
def Obligations.StartRecoverySettlesTheGripper : Prop :=
  ∀ s : State, s.resetDue = false → s.picker.state = .moving ∨ s.picker.state = .halted ∧ s.picker.stall ≠ none →
    let probing (x : Drive) : Drive :=
      { x with state := .spinningUp, probe := .loading, op := issued (.loadSpinUp false) .probe }
    let told := holdGranted s.hold (recoveryTold s.picker.by_ s.links .done)
    let ended : State :=
      { s with
        picker := pickerFree
        hold := told.1
        links := told.2
        startPhase := .probing
        drives := s.drives.map probing }
    let goesOn (m : StartMotion) : State := { s with picker := { s.picker with motion := some (.start m) } }
    let leads (c : Instr) (u : State) : Prop := ∃ t, exec c s = .next t ∧ ReachedThen t u
    let inPicker (v : SlotId) (src dst : Position) : Prop := ∀ w a b,
      s.toCore.location w = some (.inPicker a b) ↔ w = v ∧ a = src ∧ b = dst
    let nobody := ∀ w a b, s.toCore.location w ≠ some (.inPicker a b)
    (s.picker.motion = some (.start .rehome) →
      (nobody →
        leads (.startRecoveryRehomeDone false) ended ∧
        (s.panel.level.cartridgePresent = false → leads (.startRecoveryRehomeDone true) (goesOn .returning))) ∧
      ∀ v src dst, inPicker v src dst →
        leads (.startRecoveryRehomeDone true) (goesOn .returning) ∧
        (dst ≠ .mailslot → leads (.startRecoveryRehomeDone false) (goesOn .probing)) ∧
        (dst = .mailslot →
          let at_ := if s.panel.level.cartridgePresent = true then Location.inMailslot else src.location
          leads (.startRecoveryRehomeDone false) { ended with volumes := relocated s.volumes v at_ })) ∧
    (s.picker.motion = some (.start .returning) →
      (nobody → leads .recoveryReturnDone { ended with mailslot := .inserted }) ∧
      ∀ v src dst, inPicker v src dst → leads .recoveryReturnDone
        { ended with
          volumes := relocated s.volumes v src.location
          mailslot := if src = .mailslot then .volume v else s.mailslot }) ∧
    (s.picker.motion = some (.start .probing) → ∀ v src dst occupied, inPicker v src dst →
      let at_ := if occupied = true then dst.location else src.location
      leads (.startRecoveryDestinationProbeDone occupied) { ended with volumes := relocated s.volumes v at_ })

/-- R20, R48: the start probe of a drive. LOAD+SPIN UP GOOD leaves the drive READY and is followed by the read of sector 0 (R24);
NO_MEDIA ends the probe with the drive EMPTY and the volume said to be in it UNKNOWN; a first NOT_READY is tried again, and a second
leaves the drive FAULTED, the location of the volume said to be in it as it was (what the drive's record then holds is the model's
choice, notes/assumptions/12.md). A read that confirms the volume loads its side, and one that does not, a GOOD read that is no
header among them (R199, notes/assumptions/53.md), leaves a cartridge without a name, presented on the face of its header's own face
byte where it has one (notes/assumptions/23.md), and the volume UNKNOWN; SPIN DOWN follows, and ends the probe with the drive
SPUN_DOWN. -/
def Obligations.StartProbeJudgesTheDrive : Prop :=
  ∀ (d : DriveId) (s : State), s.resetDue = false →
    let x := s.drives.get d
    let leads (c : Instr) (u : State) : Prop := ∃ t, exec c s = .next t ∧ ReachedThen t u
    let as_ (y : Drive) : State := { s with drives := s.drives.set d y }
    let unknown (u : State) (v : SlotId) : State := { u with volumes := relocated s.volumes v .unknown }
    let said (v : SlotId) (f : Face) : Prop := ∀ w g, s.toCore.location w = some (.inDrive d g) ↔ w = v ∧ g = f
    let nothing := ∀ w g, s.toCore.location w ≠ some (.inDrive d g)
    (∀ second, InFlight s d (.loadSpinUp second) .probe →
      let gone : Drive := { x with op := none, state := .empty, unnamed := false, probe := .ended }
      leads (.loadSpinUpComplete d .good) (as_
        { x with state := .ready, probe := .reading, op := issued (.read 0 1) .probe }) ∧
      (nothing → leads (.loadSpinUpComplete d .noMedia) (as_ gone)) ∧
      (∀ v f, said v f → leads (.loadSpinUpComplete d .noMedia) (unknown (as_ gone) v)) ∧
      (second = false →
        leads (.loadSpinUpComplete d .notReady) (as_ { x with op := issued (.loadSpinUp true) .probe })) ∧
      (second = true → x.loaded = none → x.unnamed = false →
        let y := alarmSet (s.alarms, s.links) (.driveFault d)
        let faulted (z : Drive) : State :=
          { as_ { z with op := none, idle := none, state := .faulted, probe := .ended } with alarms := y.1, links := y.2 }
        (nothing → leads (.loadSpinUpComplete d .notReady) (faulted { x with unnamed := true })) ∧
        ∀ v f, said v f → leads (.loadSpinUpComplete d .notReady)
          (faulted (seated x ⟨v, f⟩ (s.toCore.isOpen ⟨v, f⟩))))) ∧
    (∀ a n r, InFlight s d (.read a n) .probe →
      let down (y : Drive) : Drive :=
        { y with op := issued .spinDown .probe, probe := .stopping, lastUse := s.secondCount }
      let nameless (face : Option Face) : Drive :=
        { x with loaded := none, unnamed := true, presented := face, filingFlag := false }
      let face := match headerRead none r with
        | .header h => some h.face
        | _ => none
      (nothing → leads (.probeReadComplete d r) (as_ (down (nameless face)))) ∧
      ∀ v f y, said v f → s.toCore.vol v = some y →
        let confirms := agrees y f (headerRead (some f) r) = true ∧
          ∀ data, r = .good data → ∃ h, headerRead (some f) r = .header h
        (confirms → leads (.probeReadComplete d r)
          (as_ (down (seated x ⟨v, f⟩ (s.toCore.isOpen ⟨v, f⟩))))) ∧
        (¬confirms →
          leads (.probeReadComplete d r) (unknown (as_ (down (nameless face))) v))) ∧
    (InFlight s d .spinDown .probe →
      leads (.spinDownComplete d) (as_ { x with op := none, state := .spunDown, probe := .ended }))

/-! ### The Filing Engine (chapter 3) -/

/-- R9, R10, R57, R58, R63, R64, R65, R66, R70: at the completion of the WRITE of the head's extent the write pointer passes the
extent, void where it failed; GOOD is followed by the verify read. An extent that the verify read rejects is void too. A failed
attempt that is not the third is made again at the new write pointer where the head still fits, and where it does not a seal for
SPACE begins (R62); at the third a seal for WRITE_FAILURES begins (R69; FLUSHING while its partial flush runs,
notes/assumptions/28.md). An extent that verifies is the commit event: its directory entry joins the buffer, the side's range
and entry count grow (after a gap too, notes/assumptions/88.md), the head leaves the list with its blocks, FILED tells its link,
a number received today joins the courtesy list. A buffer then full is flushed; otherwise the first job of the filing drive's
service order is given its turn, and with no job there the engine chooses again (R59). All of this on the drive of the engine's
claim. R59: an IDLE engine by its head (a claim that it gives up at a stall sets the drive's last-use time, R23, R27): a lost
section stalls it STORE_LOST, a head that awaits its resubmission HEAD_AWAITING, an OPEN side off-line SIDE_OFFLINE (R61);
otherwise it is MOUNTING, where it asks for the OPEN side. R62: with its claim on the OPEN side and nothing due before the head,
the WRITE of the head's extent is issued where it ends by sector 310,272 and the entry count is below 16,384, and a seal for
SPACE begins where not. R72: a WITHDRAWN head is committed as a placeholder, under a claim or without one, and gives the filing
drive its turn alike, a unit under way being the one given (notes/assumptions/76.md): with no claim a buffer it fills leaves the
engine MOUNTING. -/
def Obligations.HeadIsWrittenVerifiedAndCommitted : Prop :=
  (∀ (d : DriveId) (sd : Side) (rec : SideRecord) (p : PendingEntry) (ps : List PendingEntry) (s : State),
    s.resetDue = false → s.engine.claim = some d → s.toCore.openSide = some (sd, rec) → s.pendingList = p :: ps →
    let n := sectorsOf p.desc.size
    let x := afterUse s d
    let side (r : SideRecord) (u : State) : State := { u with volumes := putSide s.volumes sd r }
    let leads (c : Instr) (u : State) : Prop := ∃ t, exec c s = .next t ∧ ReachedThen t u
    let passed : SideRecord := { rec with writePtr := rec.writePtr + n }
    let counted : State := { s with engine := { s.engine with attempts := s.engine.attempts + 1 } }
    let again (r : SideRecord) : State :=
      side r
        { s with
          pendingList := { p with state := .writing } :: ps
          engine := { s.engine with state := .writing, attempts := s.engine.attempts + 1 }
          drives := s.drives.set d
            { x with op := issued (.write r.writePtr n (padTo (1024 * n) p.image)) .engineWrite } }
    let fails (c : Instr) (r : SideRecord) : Prop :=
      let fits := (p.state = .withdrawn ∨ r.writePtr + n ≤ 310272) ∧ r.entryCount ≠ 16384
      (s.engine.attempts + 1 < 3 → fits → leads c (again r)) ∧
      (s.engine.attempts + 1 < 3 → ¬fits → leads c (side r (sealBegun counted d x r .space))) ∧
      (3 ≤ s.engine.attempts + 1 → leads c (side r (sealBegun counted d x r .writeFailures)))
    (∀ a k bytes, InFlight s d (.write a k bytes) .engineWrite →
      leads (.instrumentWriteComplete d .good)
        (side passed
          { s with
            pendingList := { p with state := .verifying } :: ps
            engine := { s.engine with state := .verifying }
            drives := s.drives.set d { x with op := issued (.read rec.writePtr n) .engineVerify } }) ∧
      fails (.instrumentWriteComplete d .mediaError) { passed with voidCount := rec.voidCount + n }) ∧
    (∀ a k r, InFlight s d (.read a k) .engineVerify →
      (verifyAccepts p r = false → fails (.verifyReadComplete d r) { rec with voidCount := rec.voidCount + n }) ∧
      (verifyAccepts p r = true →
        let start := rec.writePtr - n
        let committed : SideRecord :=
          { rec with
            lastRn := some p.rn
            entryCount := rec.entryCount + 1
            committedSectors := rec.committedSectors + n }
        let told := (s.links.get p.link).deliver (.filed [{ rn := p.rn, side := sd, start := some start }] false)
        leads (.verifyReadComplete d r)
          (commitFollowed
            (side committed
              { s with
                dirbuf := s.dirbuf ++ [p.directoryEntry start]
                pendingList := ps
                blockMap := freeBlocks s.blockMap (p.blocks.getD [])
                links := s.links.set p.link told
                courtesy := match s.counter with
                  | some today => if p.day = today.day then s.courtesy.append p.rn today.day else s.courtesy
                  | none => s.courtesy
                engine := { s.engine with state := .committing, attempts := 0 }
                drives := s.drives.set d x }) d committed)))) ∧
  (∀ s : State, s.startPhase = .settled → s.inventory = none →
    let next (u : State) : Prop := engineStep s.toFixed s.toCore = some u.toCore
    let whole := s.counter ≠ none ∧ s.pendingValid = true
    (s.engine.state = .idle →
      (¬whole → next (engineRests s (.stalled .storeLost))) ∧
      (whole → s.pendingList = [] → engineStep s.toFixed s.toCore = none) ∧
      (whole → ∀ p ps, s.pendingList = p :: ps →
        (p.state = .awaitingResubmit → next (engineRests s (.stalled .headAwaiting))) ∧
        (p.state = .staged → ∀ sd rec, s.toCore.openSide = some (sd, rec) →
          (s.toCore.offline sd.slot = true → next (engineRests s (.stalled .sideOffline))) ∧
          (s.toCore.offline sd.slot = false →
            (∀ d f, s.toCore.location sd.slot = some (.inDrive d f) → (s.drives.get d).state ≠ .faulted) →
            next { s with engine := { s.engine with state := .mounting } })))) ∧
    (s.engine.state = .mounting → whole → ∀ sd rec p ps, s.toCore.openSide = some (sd, rec) → s.pendingList = p :: ps →
      let n := sectorsOf p.desc.size
      let placed : SideRecord := { rec with lastRn := some p.rn, entryCount := rec.entryCount + 1 }
      let placeholder : State :=
        let entry : DirEntry :=
          { kind := 0, station := p.desc.station, pages := 0, day := p.day, sectors := 0, parcel := none, prior := none,
            time := p.time, start := 0, size := 0, crc := 0 }
        let told := (s.links.get p.link).deliver (.filed [{ rn := p.rn, side := sd, start := none }] false)
        { s with
          dirbuf := s.dirbuf ++ [entry]
          pendingList := ps
          blockMap := freeBlocks s.blockMap (p.blocks.getD [])
          links := s.links.set p.link told
          engine := { s.engine with attempts := 0 }
          volumes := putSide s.volumes sd placed }
      let unmarked := s.engine.flushRetryMark = false ∧ s.engine.restartSealMark = false ∧ s.engine.sealing = none ∧
        s.dirbuf.length < 32
      (s.engine.claim = none → (∀ q ∈ s.requests, q.who ≠ .engine) → (∀ m ∈ s.mounts, .engine ∉ m.requesters) →
        (p.state = .staged → s.toCore.offline sd.slot = false →
          (∀ d f, s.toCore.location sd.slot = some (.inDrive d f) → (s.drives.get d).state ≠ .faulted) →
          next { s with requests := s.requests ++ [{ who := .engine, side := sd }] }) ∧
        (p.state = .withdrawn → unmarked → rec.entryCount < 16384 →
          let filing (d : DriveId) : Prop := (s.drives.get d).filingFlag = true
          (s.dirbuf.length + 1 < 32 →
            (∀ d, filing d → (∀ k, k < d → ¬filing k) → next (turnGiven placeholder d)) ∧
            ((∀ d, ¬filing d) → next (choosesAgain placeholder))) ∧
          (32 ≤ s.dirbuf.length + 1 →
            next { placeholder with engine := { placeholder.engine with state := .mounting } }))) ∧
      (∀ d, s.engine.claim = some d → (s.drives.get d).op = none → (s.drives.get d).loaded = some sd →
        (∀ id ids j, (s.drives.get d).service = id :: ids → s.toCore.job id = some j →
          j.state ≠ .readingDirectory ∧ j.state ≠ .sending) → unmarked → s.engine.restartMark = false →
        let x := s.drives.get d
        (p.state = .staged →
          (rec.writePtr + n ≤ 310272 ∧ rec.entryCount ≠ 16384 → next
            { s with
              pendingList := { p with state := .writing } :: ps
              engine := { s.engine with state := .writing }
              drives := s.drives.set d
                { x with op := issued (.write rec.writePtr n (padTo (1024 * n) p.image)) .engineWrite } }) ∧
          (310272 < rec.writePtr + n ∨ rec.entryCount = 16384 → next (sealBegun s d x rec .space))) ∧
        (p.state = .withdrawn →
          (rec.entryCount ≠ 16384 → next (commitFollowed placeholder d placed)) ∧
          (rec.entryCount = 16384 → next (sealBegun s d x rec .space))))))

/-- R6, R7, R8, R9, R61, R78: a GOOD header WRITE opens the selected side: its open sequence and first number are set, its buffer is
empty (notes/assumptions/29.md), the drive's filing flag is set and the selection ends. After a MEDIA_ERROR the side is SUSPECT and
the engine gives up its claim. The restart FIND BLANK sets the write pointer to the sector found, or to the data limit, counts what
lies between and the extent not verified as void, and clears the restart mark. R12, R69: at the completion of the seal WRITE the
OPEN side is FULL after a GOOD write for want of space and SUSPECT otherwise, with its seal reason, and the filing flag of its drive
clears; the engine gives up its claim, its marks clear, and it chooses again by its head. All of this on the drive of the engine's
claim. R17: the side selected is the first in the order of the slots, face A before face B, of the BLANK sides whose volume is HOME,
IN_DRIVE or IN_PICKER and not being exported, and its open sequence is 1 above the highest held, 1 where none is; none is selected
where no side is so, or the highest held is 65,535. R18, R61: a MOUNTING engine with no side OPEN or selected takes the selection,
or is STALLED NO_BLANK with its alarm set; while NO_BLANK stands a selection that finds a side clears it (made whenever it may find
one, notes/assumptions/63.md). -/
def Obligations.SideIsOpenedFoundAgainAndSealed : Prop :=
  (∀ (d : DriveId) (s : State), s.resetDue = false → s.engine.claim = some d →
     let x := afterUse s d
     let leads (c : Instr) (u : State) : Prop := ∃ t, exec c s = .next t ∧ ReachedThen t u
     (∀ a k bytes sel p ps, InFlight s d (.write a k bytes) .engineHeader → s.selection = some sel →
       s.pendingList = p :: ps → s.toCore.vol sel.side.slot ≠ none →
       let opened : SideRecord :=
         { state := .opened, openSeq := some sel.openSeq, firstRn := some p.rn, lastRn := none, entryCount := 0,
           writePtr := 2, voidCount := 0, flushed := 0, sealReason := none, committedSectors := 0 }
       let faulted : SideRecord :=
         { opened with state := .suspect, firstRn := none, sealReason := some .writeFailures }
       leads (.headerWriteComplete d .good)
         { s with
           volumes := putSide s.volumes sel.side opened
           drives := s.drives.set d { x with filingFlag := true }
           selection := none
           dirbuf := [] } ∧
       let volumes := putSide s.volumes sel.side faulted
       let suspect := ({ s with volumes := volumes } : State).toCore.suspectStands
       let y := if suspect then alarmSet (s.alarms, s.links) .sideSuspect
         else alarmCleared (s.alarms, s.links) .sideSuspect
       leads (.headerWriteComplete d .mediaError)
         { s with
           volumes := volumes
           selection := none
           drives := s.drives.set d (unclaimed s x)
           engine := { s.engine with claim := none }
           alarms := y.1
           links := y.2 }) ∧
     (∀ lo hi sd rec f, InFlight s d (.findBlank lo hi) .engineFind → s.toCore.openSide = some (sd, rec) →
       rec.voidCount + rec.committedSectors + 2 ≤ rec.writePtr →
       let found := match f with
         | .good a => a
         | .none => 310272
       let unverified := rec.writePtr - 2 - rec.voidCount - rec.committedSectors
       leads (.restartFindBlankComplete d f)
         { s with
           volumes := putSide s.volumes sd
             { rec with writePtr := found, voidCount := rec.voidCount + (found - rec.writePtr) + unverified }
           drives := s.drives.set d x
           engine := { s.engine with restartMark := false } })) ∧
  (∀ (d : DriveId) (a k : Nat) (bytes : List Byte) (why : SealReason) (r : WriteResult) (sd : Side) (rec : SideRecord)
     (s : State), s.resetDue = false → InFlight s d (.write a k bytes) .engineSeal → s.engine.sealing = some why →
     s.toCore.openSide = some (sd, rec) → s.engine.claim = some d →
     let full := r = .good ∧ why = .space
     let volumes := putSide s.volumes sd { rec with state := if full then .full else .suspect, sealReason := some why }
     let suspect := ({ s with volumes := volumes } : State).toCore.suspectStands
     let y := if full then (s.alarms, s.links)
       else if suspect then alarmSet (s.alarms, s.links) .sideSuspect
       else alarmCleared (s.alarms, s.links) .sideSuspect
     let sealed : State :=
       { s with
         volumes := volumes
         alarms := y.1
         links := y.2
         drives := s.drives.set d (unclaimed s { afterUse s d with filingFlag := false })
         engine :=
           { s.engine with
             sealing := none, attempts := 0, claim := none
             restartMark := false, flushRetryMark := false, restartSealMark := false } }
     ∃ t, exec (.sealWriteComplete d r) s = .next t ∧ ReachedThen t (choosesAgain sealed)) ∧
  (∀ s : State,
     let held (n : Nat) : Prop := ∃ sd r, (sd, r) ∈ s.toCore.sides ∧ r.openSeq = some n
     let eligible (sd : Side) : Prop := ∃ r loc, (sd, r) ∈ s.toCore.sides ∧ r.state = .blank ∧
       s.toCore.location sd.slot = some loc ∧ (loc = .home ∨ (∃ d f, loc = .inDrive d f) ∨ ∃ a b, loc = .inPicker a b) ∧
       ∀ x, s.exportOp = some x → x.slot ≠ sd.slot
     let before (a b : Side) : Prop := a.slot < b.slot ∨ (a.slot = b.slot ∧ a.face = .a ∧ b.face = .b)
     let chosen := s.toCore.select
     let free := s.rebuilding = false ∧ s.toCore.openSide = none
     (∀ sel, chosen = some sel → eligible sel.side ∧ (∀ sd, eligible sd → sd = sel.side ∨ before sel.side sd) ∧
       (∀ n, held n → n < sel.openSeq) ∧ (sel.openSeq = 1 ∨ held (sel.openSeq - 1)) ∧ sel.openSeq ≤ 65535) ∧
     (chosen = none → (∃ n, held n ∧ 65535 ≤ n) ∨ ∀ sd, ¬eligible sd) ∧
     (free → s.engine.state = .mounting → s.engine.claim = none → s.startPhase = .settled → s.selection = none →
       .noBlank ∉ s.alarms →
       let next (u : State) : Prop := engineStep s.toFixed s.toCore = some u.toCore
       (∀ sel, chosen = some sel → next { s with selection := some sel }) ∧
       (chosen = none →
         let y := alarmSet (s.alarms, s.links) .noBlank
         next (engineRests { s with alarms := y.1, links := y.2 } (.stalled .noBlank)))) ∧
     (free → .noBlank ∈ s.alarms → ∀ sel, chosen = some sel →
       let y := alarmCleared (s.alarms, s.links) .noBlank
       reselectStep s.toCore = some ({ s with selection := some sel, alarms := y.1, links := y.2 } : State).toCore))

/-- R11, R67, R68: the four operations of a flush. Each WRITE that is GOOD is followed by its read-back (a copy whose WRITE failed
is not read back, notes/assumptions/27.md), and copy A by copy B whatever came of A, its outcome kept. At the end of copy B a flush
with either copy verified counts the directory sector, empties the buffer and clears DIRECTORY_FAULT, and the first job of the
service order has its turn, or with no job there the engine chooses again (R59, R70); the partial flush of a seal is followed by the
seal sector, with what the directory then holds (R69, notes/assumptions/28.md); one with neither leaves the engine HALTED without
its claim, DIRECTORY_FAULT standing and the buffer kept. All of this on the drive of the engine's claim. -/
def Obligations.FlushWritesBothCopies : Prop :=
  ∀ (d : DriveId) (kind : OpKind) (f : Flush) (sd : Side) (rec : SideRecord) (s : State), s.resetDue = false →
    s.engine.claim = some d → InFlight s d kind .engineFlush → kind.uses = true → s.engine.flush = some f →
    s.toCore.openSide = some (sd, rec) →
    let bytes := directorySector s.dirbuf
    let a := 310272 + rec.flushed
    let b := 310784 + rec.flushed
    let leads (r : FlushResult) (u : State) : Prop :=
      ∃ t, exec (.flushOperationComplete d r) s = .next t ∧ ReachedThen t u
    let next (step : FlushStep) (aOk : Bool) (kind : OpKind) : State :=
      { s with
        engine := { s.engine with flush := some { step, aOk } }
        drives := s.drives.set d { afterUse s d with op := issued kind .engineFlush } }
    let verified (r : ReadResult) : Bool := r == .good bytes
    (f.step = .writeA →
      leads (.wrote .good) (next .readA false (.read a 1)) ∧
      leads (.wrote .mediaError) (next .writeB false (.write b 1 bytes))) ∧
    (f.step = .readA → ∀ r, leads (.read r) (next .writeB (verified r) (.write b 1 bytes))) ∧
    (f.step = .writeB → leads (.wrote .good) (next .readB f.aOk (.read b 1))) ∧
    (∀ r, (f.step = .readB ∧ ∃ x, r = .read x) ∨ (f.step = .writeB ∧ r = .wrote .mediaError) →
      let ok := f.aOk = true ∨ r = .read (.good bytes)
      (ok →
        let y := alarmCleared (s.alarms, s.links) .directoryFault
        let flushed : SideRecord := { rec with flushed := rec.flushed + 1 }
        let emptied : State :=
          { s with
            volumes := putSide s.volumes sd flushed
            dirbuf := []
            alarms := y.1
            links := y.2
            engine := { s.engine with flush := none, flushRetryMark := false }
            drives := s.drives.set d (afterUse s d) }
        (s.engine.sealing = none → leads r (turnGiven emptied d)) ∧
        (∀ why, s.engine.sealing = some why → leads r (sealBeingWritten emptied d (afterUse s d) flushed why))) ∧
      (¬ok →
        let y := alarmSet (s.alarms, s.links) .directoryFault
        ∃ t u, exec (.flushOperationComplete d r) s = .next t ∧ ReachedThen t u ∧
          u.engine = { s.engine with flush := none, sealing := none, state := .halted, claim := none } ∧
          u.dirbuf = s.dirbuf ∧ u.drives = s.drives.set d (unclaimed s (afterUse s d)) ∧
          u.alarms = y.1 ∧ u.links = y.2 ∧ u.volumes = s.volumes ∧ u.queue = s.queue))

/-! ### Jobs, import and inventory at a drive (chapters 4, 5, 8) -/

/-- R91, R92, R97: a directory READ of a FETCH. The entry of an instrument is kept, its pages are known, and the READ of the
first chunk is issued; a placeholder ends the job FAILED WITHDRAWN. Copy A without the entry is followed by copy B, and copy
B without it ends the job FAILED MEDIA_ERROR. A job with the cancel mark ends CANCELLED, whatever was read. -/
def Obligations.DirectoryReadGivesTheEntry : Prop :=
  ∀ (d : DriveId) (start k : Nat) (j : Job) (r : ReadResult) (s : State), s.resetDue = false →
    InFlight s d (.read start k) (.jobDirectory j.id) → s.toCore.job j.id = some j → j.walk = none → j.drive = some d →
    j.state ≠ .waitOperator →
    let x := afterUse s d
    let leads (u : State) : Prop := ∃ t, exec (.directoryReadComplete d r) s = .next t ∧ ReachedThen t u
    let ends (o : JobOutcome) : Prop :=
      leads (jobEnded s d x j.id { outcome := o, stop := none, amount := j.sent, charge := none })
    let given (en : DirEntry) : Prop := ∃ data, r = .good data ∧ entryGiven data (j.index % 32) = some en
    (j.cancelled = true → ends .cancelled) ∧
    (j.cancelled = false →
      (∀ en, given en → en.kind = 0 → ends (.failed .withdrawn)) ∧
      (∀ en, given en → en.kind ≠ 0 →
        let kept (q : Job) : Job := { q with state := .sending, entry := some en, knownPages := some en.pages }
        let read : OpKind := .read (en.start + j.sent) (min 32 (sectorsOf en.size - j.sent))
        leads
          { s with
            queue := s.queue.map (fun q => if q.id = j.id then kept q else q)
            drives := s.drives.set d { x with op := issued read (.jobChunk j.id) } }) ∧
      ((∀ en, ¬given en) → start < 310784 →
        let read : OpKind := .read (310784 + j.index / 32) 1
        leads { s with drives := s.drives.set d { x with op := issued read (.jobDirectory j.id) } }) ∧
      ((∀ en, ¬given en) → 310784 ≤ start → ends (.failed .mediaError)))

/-- R105, R106, R107, R108, R111: a directory READ of a WALK that gives an entry takes a step: ENTRY is sent, the step is
counted, and the first stop check that applies ends the walk, its claim released, the steps charged at SEARCH and DONE sent.
A walk that goes on to a number on the same side reads its entry in the same turn. -/
def Obligations.WalkTakesAStep : Prop :=
  ∀ (d : DriveId) (start k : Nat) (j : Job) (w : WalkFields) (data : List Byte) (en : DirEntry) (s : State),
    s.resetDue = false → InFlight s d (.read start k) (.jobDirectory j.id) → s.toCore.job j.id = some j →
    (∀ q ∈ s.queue, q.id = j.id → q = j) → j.walk = some w → j.drive = some d → j.state ≠ .waitOperator →
    j.cancelled = false → (s.links.get j.id.link).active = true → entryGiven data (j.index % 32) = some en →
    let x := afterUse s d
    let leads (u : State) : Prop := ∃ t, exec (.directoryReadComplete d (.good data)) s = .next t ∧ ReachedThen t u
    let n := w.steps + 1
    let parcel := if en.kind = 0 then none else en.parcel
    let w' : WalkFields :=
      { w with steps := n, startParcel := if w.steps = 0 then parcel else w.startParcel, next := en.prior }
    let frame : EntryFrame :=
      { step := n, rn := j.rn, kind := en.kind, parcel, prior := if en.kind = 0 then none else en.prior, pages := en.pages,
        day := en.day, time := en.time }
    let sent : State := { s with links := sendOn s.links j.id.link [.entry j.id.tag frame] }
    let stop : Option StopReason :=
      if en.kind = 0 then some .withdrawn
      else if w.stopKinds.getLsbD en.kind = true then some .kindMatch
      else if w.parcelMatch = true ∧ 2 ≤ n ∧ en.parcel ≠ w'.startParcel then some .mismatch
      else if en.prior = none then some .finished
      else if n = w.limit then some .limit
      else none
    (∀ why, stop = some why →
      let p := s.toCore.charge ({ j with walk := some w' }.item false)
      let done : JobDone := { outcome := .done, stop := some why, amount := n, charge := some p.2 }
      leads { jobEnded sent d x j.id done with tallies := p.1.tallies, courtesy := p.1.courtesy }) ∧
    (∀ rn sd i, stop = none → en.prior = some rn → j.side = some sd →
      resolve s.toFixed s.toCore rn = .onSide sd i → x.filingFlag = false →
      let next : Job := { j with walk := some w', rn, index := i, state := .readingDirectory }
      leads { sent with
        drives := s.drives.set d x
        queue := s.queue.map (fun q => if q.id = j.id then next else q) })

/-- R93, R94, R95, R96, R97: a chunk READ of a FETCH. A GOOD chunk's sectors are sent as DATA frames in order and the next
chunk is read; after the last the job ends DONE, charged and tallied, where the CRC-32 of the bytes sent is the entry's, and
FAILED MEDIA_ERROR where it is not. A chunk that fails is read again once, and a second failure ends the job FAILED
MEDIA_ERROR. A job with the cancel mark ends CANCELLED. -/
def Obligations.ChunksAreSentInOrder : Prop :=
  ∀ (d : DriveId) (a k : Nat) (j : Job) (en : DirEntry) (s : State), s.resetDue = false →
    InFlight s d (.read a k) (.jobChunk j.id) → s.toCore.job j.id = some j → (∀ q ∈ s.queue, q.id = j.id → q = j) →
    j.walk = none → j.entry = some en → j.drive = some d → j.state ≠ .waitOperator →
    (s.links.get j.id.link).active = true →
    let x := afterUse s d
    let leads (r : ReadResult) (u : State) : Prop :=
      ∃ t, exec (.chunkReadComplete d r) s = .next t ∧ ReachedThen t u
    let done (o : JobOutcome) (sent : Nat) (c : Option Charge) : JobDone :=
      { outcome := o, stop := none, amount := sent, charge := c }
    let reads (sent : Nat) : Drive :=
      { x with op := issued (.read (en.start + sent) (min 32 (sectorsOf en.size - sent))) (.jobChunk j.id) }
    let queue (q : Job) : List Job := s.queue.map (fun k => if k.id = j.id then q else k)
    (j.cancelled = true → ∀ r, leads r (jobEnded s d x j.id (done .cancelled j.sent none))) ∧
    (j.cancelled = false →
      (∀ data,
        let count := min 32 (sectorsOf en.size - j.sent)
        let sector (i : Nat) : List Byte := sectorOf data i
        let bytes (i : Nat) : List Byte :=
          if j.sent + i + 1 = sectorsOf en.size then (sector i).take (en.size - 1024 * (j.sent + i)) else sector i
        let frames := (List.range count).map (fun i => OutFrame.data j.id.tag (j.sent + i) (bytes i))
        let crc := crc32Update j.crc ((List.range count).flatMap bytes)
        let total := j.sent + count
        let sent : State := { s with links := sendOn s.links j.id.link frames }
        (total ≠ sectorsOf en.size → leads (.good data)
          { sent with queue := queue { j with sent := total, crc, retry := false }, drives := s.drives.set d (reads total) }) ∧
        (total = sectorsOf en.size →
          (crc32Final crc = en.crc →
            let p := s.toCore.charge ({ j with sent := total, crc }.item false)
            leads (.good data)
              { jobEnded sent d x j.id (done .done total (some p.2)) with
                tallies := p.1.tallies
                courtesy := p.1.courtesy }) ∧
          (crc32Final crc ≠ en.crc →
            leads (.good data) (jobEnded sent d x j.id (done (.failed .mediaError) total none))))) ∧
      (∀ r, r = .mediaError ∨ r = .blank →
        (j.retry = false →
          leads r { s with queue := queue { j with retry := true }, drives := s.drives.set d (reads j.sent) }) ∧
        (j.retry = true → leads r (jobEnded s d x j.id (done (.failed .mediaError) j.sent none)))))

/-- R32, R151, R152, R153, R154: a header READ of an import. Face A without a readable header is followed by the turn to face B. A
cartridge that the headers identify as a volume OUT is placed in the drive, and a blank one is enrolled in the lowest vacant slot
with both sides BLANK; it goes home where it does not stay, and where a job waits for it, or NO_BLANK stands and it has a BLANK
side, it stays: the binding and its mount operation end, the drive is READY with its idle timer running where it has no claim, the
jobs that waited are placed again, the selection is made, and the IMPORT is answered, after the notice of SIDE_SUSPECT and then that
of NO_BLANK or those of OPERATOR_NEEDED (this order is the model's choice, notes/assumptions/92.md). One rejected goes back to the
mailslot. Each begins with SPIN DOWN on the READY drive. R161: the operations by which inventory reads a face whose presented face
is known follow one another: after a readable header the seal sector, after an unreadable one and after the seal FIND BLANK for the
write pointer, then FIND BLANK over copy A and copy B, and from the larger of the two counts each directory sector, from copy B
where copy A does not read GOOD. The face ends at a BLANK header, at the write pointer after an unreadable one, and at the last
directory sector, with the side record rebuilt from what was read and whether it was unsealed (notes/assumptions/67.md); the
cartridge is then turned for its other face. R160: with both faces read, the cartridge in the slot of a lost record is placed where
both agree with the record (notes/assumptions/44.md), and goes home where it does not stay; otherwise the volume is OUT and the
cartridge set out. R162, R87, R18: at the end of the inventory every side whose header was unreadable has an open sequence, in the
order of the sides, each 1 above the highest held; the entries of the buffer are counted into a rebuilt OPEN side; the range table
is COMPLETE, NO_BLANK does not stand with a side OPEN, and the orderer is answered last with the counts. -/
def Obligations.ImportJudgesAndInventoryReads : Prop :=
  (∀ (d : DriveId) (a k : Nat) (op : ImportOp) (r : ReadResult) (s : State), s.resetDue = false →
     InFlight s d (.read a k) .importRead → s.importOp = some op → (s.drives.get d).state = .ready →
     let unloading (x : Drive) : Drive := { x with state := .unloading, idle := none, op := issued .spinDown .mechanism }
     let x := afterUse s d
     let leads (u : State) : Prop := ∃ t, exec (.importHeaderReadComplete d r) s = .next t ∧ ReachedThen t u
     let goesOn (o : ImportOp) (x : Drive) : State :=
       { s with importOp := some o, drives := s.drives.set d (unloading x) }
     let judged := if op.phase = .readingB then s.toCore.judge op.label op.faceA (some (headerRead (some .b) r))
       else s.toCore.judge op.label (headerRead (some .a) r) none
     let course (v : SlotId) (f : Face) (outcome : MediaOutcome) (volumes : Vector (Option Volume) 64)
         (y : List Alarm × Four LinkUnit) : Prop :=
       let placed := seated x ⟨v, f⟩ (s.toCore.isOpen ⟨v, f⟩)
       let free : Drive := { placed with bound := none, idle := if x.claims = 0 then some s.settings.idle else x.idle }
       let stays : State :=
         { s with
           importOp := none, mounts := s.mounts.filter (fun k => k.target ≠ .importing), drives := s.drives.set d free
           volumes := volumes, alarms := y.1, links := y.2 }
       let waiting := waitingOn s v
       let answers (u : State) : State := { u with links := answered u.links op.by_ (.media outcome (some v)) }
       let blank := ∃ z, volumes[v] = some z ∧ (z.sideA.state = .blank ∨ z.sideB.state = .blank)
       (waiting = [] → .noBlank ∉ s.alarms ∨ ¬blank → leads
         { goesOn { op with phase := .goingHome v outcome } placed with volumes := volumes, alarms := y.1, links := y.2 }) ∧
       (waiting ≠ [] → .noBlank ∉ s.alarms → s.exportOp = none → s.queueBounded →
         (∀ j ∈ s.queue, j ∉ waiting → stays.toCore.wakes j = false) → leads (answers (waiting.foldl placedAgain stays))) ∧
       (waiting = [] → .noBlank ∈ s.alarms → s.rebuilding = false → s.toCore.openSide = none →
         (∀ j ∈ s.queue, stays.toCore.wakes j = false) → blank → ∀ sel, stays.toCore.select = some sel →
           let w := alarmCleared y .noBlank
           leads (answers { stays with selection := some sel, alarms := w.1, links := w.2 }))
     (op.phase ≠ .readingB → (∀ h, headerRead (some .a) r ≠ .header h) →
       leads (goesOn { op with phase := .turning, faceA := headerRead (some .a) r } x)) ∧
     (∀ o, judged = some (.rejected o) → leads (goesOn { op with phase := .settingBack o } x)) ∧
     (∀ v f, judged = some (.returned v) → x.presented = some f → s.toCore.location v = some .out →
       let volumes := relocated s.volumes v (.inDrive d f)
       let suspect := ({ s with volumes := volumes } : State).toCore.suspectStands
       course v f .returned volumes
         (if suspect then alarmSet (s.alarms, s.links) .sideSuspect else alarmCleared (s.alarms, s.links) .sideSuspect)) ∧
     (∀ v f, judged = some (.enrolled v) → x.presented = some f →
       s.toCore.vol v = none ∧ (∀ w, w < v → s.toCore.vol w ≠ none) ∧
       course v f .enrolled
         (s.volumes.set v (some { label := some op.label, loc := .inDrive d f, sideA := .blank, sideB := .blank }))
         (s.alarms, s.links))) ∧
  (∀ (d : DriveId) (kind : OpKind) (i : Inventory) (rd : Reading) (f : Face) (s : State), s.resetDue = false →
     s.inventory = some i → i.reading = some rd → (s.drives.get d).presented = some f → kind.uses = true →
     let sc := rd.scan
     let goesOn (sc : Scan) (kind : OpKind) (user : OpUser) : State :=
       { s with
         inventory := some { i with reading := some { rd with phase := .scanning, scan := sc } }
         drives := s.drives.set d { afterUse s d with op := issued kind user } }
     let sector (copyB : Bool) (n : Nat) : OpKind := .read ((if copyB = true then 310784 else 310272) + n) 1
     let within (base : Nat) (x : FindResult) : Nat := match x with
       | .good a => a - base
       | .none => 512
     let other := if f = .a then rd.faceB else rd.faceA
     let ends (sc : Scan) (rebuilt : SideRecord) (unsealed : Bool) (leads : State → Prop) : Prop :=
       let res : FaceResult := { header := sc.header, record := rebuilt, unsealed }
       let a := if f = .a then some res else rd.faceA
       let b := if f = .b then some res else rd.faceB
       let goesOut (x : Drive) (phase : ReadingPhase) (counts : InventoryCounts) : State :=
         { s with
           inventory := some
             { i with reading := some { rd with phase, scan := sc, faceA := a, faceB := b }, counts := counts }
           drives := s.drives.set d { x with state := .unloading, idle := none, op := issued .spinDown .mechanism } }
       (s.drives.get d).state = .ready →
       (other = none → leads (goesOut (afterUse s d) .turning i.counts)) ∧
       (∀ v z ra rb, a = some ra → b = some rb → rd.slot = some v → s.toCore.vol v = some z → z.loc = .unknown →
         z.label ≠ none →
         let agree := agrees z .a ra.header = true ∧ agrees z .b rb.header = true
         (agree → waitingOn s v = [] → .noBlank ∉ s.alarms → leads
           { goesOut (seated (afterUse s d) ⟨v, f⟩ (s.toCore.isOpen ⟨v, f⟩)) (.goingHome v)
               { i.counts with placed := i.counts.placed + 1 } with
             volumes := relocated s.volumes v (.inDrive d f) }) ∧
         (¬agree →
           let volumes := relocated s.volumes v .out
           let suspect := ({ s with volumes := volumes } : State).toCore.suspectStands
           let y := if suspect then alarmSet (s.alarms, s.links) .sideSuspect
             else alarmCleared (s.alarms, s.links) .sideSuspect
           leads
             { goesOut (afterUse s d) .settingOut { i.counts with madeOut := i.counts.madeOut + 1 } with
               volumes := volumes
               alarms := y.1
               links := y.2 }))
     let rebuilt (sc : Scan) (h : Header) : SideRecord :=
       let n := match sc.sealRead with
         | .sealed _ count _ => count
         | _ => if sc.flushed = 0 then 0 else 32 * (sc.flushed - 1) + sc.lastEntries
       let state : SideState × Option SealReason :=
         if sc.badSector = true then (.suspect, some .writeFailures)
         else match sc.sealRead with
           | .blank => (.opened, none)
           | .sealed _ _ .space => (.full, some .space)
           | _ => (.suspect, some .writeFailures)
       { state := state.1, openSeq := some h.openSeq, firstRn := some h.firstRn,
         lastRn := if n = 0 then none else some (h.firstRn + n - 1), entryCount := n, writePtr := sc.writePtr,
         voidCount := sc.writePtr - 2 - sc.sum, flushed := sc.flushed, sealReason := state.2, committedSectors := sc.sum }
     let endsRead (sc : Scan) (leads : State → Prop) : Prop :=
       ∀ h, sc.header = .header h → sc.sum + 2 ≤ sc.writePtr → ends sc (rebuilt sc h) (sc.sealRead == .blank) leads
     (InFlight s d kind .inventoryRead →
       let leads (r : ReadResult) (u : State) : Prop :=
         ∃ t, exec (.inventoryReadComplete d r) s = .next t ∧ ReachedThen t u
       (∀ h r, sc.step = .header → headerRead (some f) r = .header h →
         leads r (goesOn { Scan.fresh with step := .sealSector, header := .header h } (.read 1 1) .inventoryRead)) ∧
       (∀ r, sc.step = .header → headerRead (some f) r = .unreadable →
         leads r (goesOn { Scan.fresh with step := .writePointer, header := .unreadable } (.findBlank 2 310271)
           .inventoryFind)) ∧
       (∀ r, sc.step = .header → headerRead (some f) r = .blank → ends Scan.fresh .blank false (leads r)) ∧
       (∀ r, sc.step = .sealSector →
         leads r (goesOn { sc with step := .writePointer, sealRead := sealRead r } (.findBlank 2 310271) .inventoryFind)) ∧
       (∀ data, sc.step = .directory →
         let es := entriesOf data
         let counted : Scan :=
           { sc with
             sector := sc.sector + 1, lastEntries := es.length, sum := sc.sum + (es.map (fun x => sectorsOf x.size)).sum }
         (sc.sector + 1 < sc.flushed → leads (.good data) (goesOn
           { counted with step := .directory, copyB := false } (sector false (sc.sector + 1)) .inventoryRead)) ∧
         (sc.flushed ≤ sc.sector + 1 → endsRead counted (leads (.good data)))) ∧
       (∀ r, sc.step = .directory → r = .mediaError ∨ r = .blank →
         let bad : Scan := { sc with sector := sc.sector + 1, lastEntries := 32, badSector := true }
         (sc.copyB = false → leads r (goesOn { sc with copyB := true } (sector true sc.sector) .inventoryRead)) ∧
         (sc.copyB = true → sc.sector + 1 < sc.flushed →
           leads r (goesOn { bad with copyB := false } (sector false (sc.sector + 1)) .inventoryRead)) ∧
         (sc.copyB = true → sc.flushed ≤ sc.sector + 1 → endsRead bad (leads r)))) ∧
     (InFlight s d kind .inventoryFind → ∀ x,
       let leads (u : State) : Prop := ∃ t, exec (.inventoryFindBlankComplete d x) s = .next t ∧ ReachedThen t u
       let writePtr := match x with
         | .good a => a
         | .none => 310272
       let flushed := max sc.flushedA (within 310784 x)
       (sc.step = .writePointer → sc.header ≠ .unreadable →
         leads (goesOn { sc with step := .findA, writePtr } (.findBlank 310272 310783) .inventoryFind)) ∧
       (sc.step = .writePointer → sc.header = .unreadable → ends { sc with writePtr }
         { state := .suspect, openSeq := none, firstRn := none, lastRn := none, entryCount := 0, writePtr,
           voidCount := writePtr - 2, flushed := 0, sealReason := some .writeFailures, committedSectors := 0 } false leads) ∧
       (sc.step = .findA → leads (goesOn { sc with step := .findB, flushedA := within 310272 x }
         (.findBlank 310784 311295) .inventoryFind)) ∧
       (sc.step = .findB → 0 < flushed →
         leads (goesOn { sc with step := .directory, flushed, sector := 0, copyB := false } (sector false 0)
           .inventoryRead)) ∧
       (sc.step = .findB → flushed = 0 → endsRead { sc with flushed, sector := 0 } leads))) ∧
  (∀ (i : Inventory) (s : State), s.startPhase = .settled → s.inventory = some i → i.phase = .slots → i.reading = none →
     64 ≤ i.cursor → ∃ c, inventoryStep s.toFixed s.toCore = some c ∧
       let sides := s.toCore.sides
       let lacking := sides.filter (fun p => p.2.state ≠ .blank ∧ p.2.openSeq = none)
       let counted (sd : Side) : Prop := i.rebuiltOpen = some sd ∧ s.dirbuf ≠ [] ∧ (s.toCore.openSide.map (·.1)) = some sd
       c.inventory = none ∧ c.rebuilding = false ∧ c.dirbuf = s.dirbuf ∧
       (s.toCore.openSide ≠ none → .noBlank ∉ c.alarms) ∧
       (∀ sd r, (sd, r) ∈ sides → r.state = .blank ∨ r.openSeq ≠ none → ¬counted sd → (sd, r) ∈ c.sides) ∧
       (∀ n sd r, lacking[n]? = some (sd, r) → s.toCore.highestSeq + n < 65535 → ¬counted sd →
         (sd, { r with openSeq := some (s.toCore.highestSeq + n + 1) }) ∈ c.sides) ∧
       (∀ sd r, (sd, r) ∈ sides → counted sd → r.openSeq ≠ none → ∃ k, (sd, k) ∈ c.sides ∧
         k.entryCount = r.entryCount + s.dirbuf.length ∧ k.lastRn = r.firstRn.map (· + k.entryCount - 1) ∧
         k.committedSectors = r.committedSectors + (s.dirbuf.map (·.sectors)).sum ∧ k.openSeq = r.openSeq ∧
         k.state = r.state ∧ k.writePtr = r.writePtr ∧
         (k.committedSectors + 2 ≤ k.writePtr → k.voidCount = k.writePtr - 2 - k.committedSectors)) ∧
       (∀ o, i.by_ = some o → (s.links.get o.link).active = true →
         ∃ fs, (c.links.get o.link).out = (s.links.get o.link).out ++ fs ++ [.done o.tag (.inventory i.counts)]))

/-! ### Reset (chapter 11) -/

/-- R193, R197: what a reset leaves, whatever state it comes in. Each lost section has the value of R193, and the schedule,
the settings and the close result are otherwise the ones stored; nothing waits, runs or is in transfer; the clock is unset,
the window CLOSED, the panel at its sampled levels with its timers stopped and its latches clear; every link is ACTIVE with
its mask disabled, nothing in its output list, the role of its straps and its silence timer started; the start record names
the cause and the sections lost; and STORE_LOST stands for COUNTER and PENDING where they are lost. The model's choices in it:
which store and which lost sections the reset finds (notes/assumptions/9.md, 10.md), the state SPINNING_UP that every drive
shows before its probe (notes/assumptions/12.md), and that commands that wait stay (notes/assumptions/39.md). -/
def Obligations.ResetLeavesTheStartValues : Prop :=
  ∀ (cause : StartCause) (straps : Four (BitVec 2)) (levels : Levels) (fate : StoreFate) (s : State),
    let found := s.storeFound cause fate
    let lost := lostSections found
    let lostVolume : Volume := { label := none, loc := .unknown, sideA := .blank, sideB := .blank }
    ∃ t, exec (.reset cause straps levels fate) s = .next t ∧ t.pending = s.pending ∧
      (t.settings = if .settings ∈ lost then Settings.default else found.settings) ∧
      (t.schedule = if .schedule ∈ lost then Schedule.unset else found.schedule) ∧
      (.counter ∈ lost → t.counter = none) ∧ (.counter ∉ lost → t.counter ≠ none) ∧
      (t.pendingValid = true ↔ .pending ∉ lost) ∧ (.pending ∈ lost → t.pendingList = []) ∧
      (∀ p ∈ t.pendingList, (p.state = .awaitingResubmit ∨ p.state = .withdrawn) ∧ p.blocks = none) ∧
      (.dirbuf ∈ lost → t.dirbuf = []) ∧
      (.volumes ∈ lost → ∀ v, t.toCore.vol v = some lostVolume) ∧ (t.rebuilding = true ↔ .volumes ∈ lost) ∧
      (.tallies ∈ lost → t.tallies = zeroTallies ∧ t.tallyLost = true ∧ t.snapshot = .empty) ∧
      (t.closeResult = if .tallies ∈ lost then none else found.closeResult) ∧
      (.courtesy ∈ lost → t.courtesy = { rns := [], day := none }) ∧
      t.startRecord.cause = cause ∧ t.startRecord.lost = lost ∧
      t.clock = none ∧ t.window = none ∧ t.secondCount = 0 ∧ t.resetDue = false ∧ t.straps = straps ∧
      t.transfers = Four.all none ∧ t.queue = [] ∧ t.mounts = [] ∧ t.requests = [] ∧ t.moves = [] ∧
      t.selection = none ∧ t.importOp = none ∧ t.exportOp = none ∧ t.inventory = none ∧ t.hold = .none ∧
      t.blockMap = List.replicate 256 false ∧ t.drives = Four.all .atStart ∧ t.engine.claim = none ∧
      t.picker.motion = some (.start .rehome) ∧
      (t.picker.state = .halted ↔ levels.frontDoor = true ∨ (levels.kLeft = true ∧ levels.kRight = true)) ∧
      (t.picker.state ≠ .halted → t.picker.state = .moving) ∧
      t.panel.raw = levels ∧ t.panel.level = levels ∧ t.panel.timers = .stopped ∧ t.panel.latches = .none ∧
      (t.panel.stop = true ↔ levels.kLeft = true ∧ levels.kRight = true) ∧
      (∀ x, x ∈ t.alarms ↔ (x = .storeLost .counter ∧ .counter ∈ lost) ∨ (x = .storeLost .pending ∧ .pending ∈ lost)) ∧
      ∀ l, (t.links.get l).active = true ∧ (t.links.get l).mask = .disabled ∧ (t.links.get l).out = [] ∧
        (t.links.get l).role = roleOfStrap (straps.get l) ∧
        (t.links.get l).timer = timerOf (t.settings.silence.get l)

end
end

