-- ==== Sys2Proof/Laws/Bytes.lean ====
section
/-! SUPPORT. Big-endian fields: what `beBytes` writes, `beNat` and `fieldNat` read back (12-1). -/

namespace Sys2Proof.Machine

@[simp] theorem beBytes_length (w n : Nat) : (beBytes w n).length = w := by
  induction w with
  | zero => rfl
  | succ w ih => simp [beBytes, ih]

/-- A byte more at the front is worth 256 to the power of the bytes behind it. -/
theorem beNat_cons (b : Byte) (bs : List Byte) : beNat (b :: bs) = b.toNat * 256 ^ bs.length + beNat bs := by
  have key : ∀ (bs : List Byte) (acc : Nat),
      bs.foldl (fun acc b => 256 * acc + b.toNat) acc = acc * 256 ^ bs.length + beNat bs := by
    intro bs
    induction bs with
    | nil => simp [beNat]
    | cons x xs ih =>
      intro acc
      simp only [beNat, List.foldl_cons, List.length_cons]
      rw [ih, ih (256 * 0 + x.toNat)]
      ring
  simp only [beNat, List.foldl_cons]
  rw [key]
  simp [beNat]

/-- The low bytes of a number spell it modulo their weight. -/
theorem beNat_beBytes (w n : Nat) : beNat (beBytes w n) = n % 256 ^ w := by
  induction w with
  | zero => simp [beBytes, beNat, Nat.mod_one]
  | succ w ih =>
    rw [beBytes, beNat_cons, ih, beBytes_length, BitVec.toNat_ofNat]
    have h : n % 256 ^ (w + 1) = n % (256 ^ w * 256) := by rw [Nat.pow_succ]
    rw [h, Nat.mod_mul]
    ring

/-- A field that lies behind the first part of a body. -/
theorem field_append_right (xs ys : List Byte) (a n : Nat) (h : xs.length ≤ a) :
    field (xs ++ ys) a n = field ys (a - xs.length) n := by
  simp [field, List.drop_append, List.drop_eq_nil_of_le h]

/-- A field that is the first part of a body. -/
theorem field_append_left (xs ys : List Byte) (n : Nat) (h : xs.length = n) : field (xs ++ ys) 0 n = xs := by
  subst h
  simp [field, List.rightpad]

/-- A field that is the whole of a body. -/
theorem field_whole (xs : List Byte) (n : Nat) (h : xs.length = n) : field xs 0 n = xs := by
  have := field_append_left xs [] n h
  simpa using this

/-- The number written first is the one read at offset 0. -/
theorem fieldNat_first (w n : Nat) (ys : List Byte) : fieldNat (beBytes w n ++ ys) 0 w = n % 256 ^ w := by
  rw [fieldNat, field_append_left _ _ _ (beBytes_length w n), beNat_beBytes]

/-- The number that a body consists of. -/
theorem fieldNat_only (w n : Nat) : fieldNat (beBytes w n) 0 w = n % 256 ^ w := by
  rw [fieldNat, field_whole _ _ (beBytes_length w n), beNat_beBytes]

/-- A number behind the first one written. -/
theorem fieldNat_skip (w n a m : Nat) (ys : List Byte) (h : w ≤ a) :
    fieldNat (beBytes w n ++ ys) a m = fieldNat ys (a - w) m := by
  rw [fieldNat, field_append_right _ _ _ _ (by simpa using h), beBytes_length, fieldNat]

/-- A field that reaches no further than the first part of a body. -/
theorem field_append_inside (xs ys : List Byte) (a n : Nat) (h : a + n ≤ xs.length) :
    field (xs ++ ys) a n = field xs a n := by
  have h2 : n ≤ xs.length - a := by omega
  simp [field, List.drop_append, List.take_append, Nat.sub_eq_zero_of_le h2]

/-- The kind byte of a request names its kind (R198). -/
theorem RequestKind.ofCode_code (k : RequestKind) : RequestKind.ofCode (BitVec.ofNat 8 k.code) = some k := by
  cases k <;> rfl

end Sys2Proof.Machine
end

