-- ==== Sys2Proof/Laws/Four.lean ====
section
/-! SUPPORT. Reading and writing one of four. -/

namespace Sys2Proof

@[simp] theorem Four.get_set_same {α : Type} (x : Four α) (i : Fin 4) (v : α) : (x.set i v).get i = v := by
  match i with
  | 0 => rfl
  | 1 => rfl
  | 2 => rfl
  | 3 => rfl

theorem Four.get_set_other {α : Type} (x : Four α) (i j : Fin 4) (v : α) (h : j ≠ i) : (x.set i v).get j = x.get j := by
  match i, j with
  | 0, 0 | 1, 1 | 2, 2 | 3, 3 => exact absurd rfl h
  | 0, 1 | 0, 2 | 0, 3 | 1, 0 | 1, 2 | 1, 3 | 2, 0 | 2, 1 | 2, 3 | 3, 0 | 3, 1 | 3, 2 => rfl

@[simp] theorem Four.set_set {α : Type} (x : Four α) (i : Fin 4) (v w : α) : (x.set i v).set i w = x.set i w := by
  match i with
  | 0 => rfl
  | 1 => rfl
  | 2 => rfl
  | 3 => rfl

@[simp] theorem Four.set_get_self {α : Type} (x : Four α) (i : Fin 4) : x.set i (x.get i) = x := by
  match i with
  | 0 => rfl
  | 1 => rfl
  | 2 => rfl
  | 3 => rfl

@[simp] theorem Four.get_map {α β : Type} (f : α → β) (x : Four α) (i : Fin 4) : (x.map f).get i = f (x.get i) := by
  match i with
  | 0 => rfl
  | 1 => rfl
  | 2 => rfl
  | 3 => rfl

@[simp] theorem Four.get_all {α : Type} (v : α) (i : Fin 4) : (Four.all v).get i = v := by
  match i with
  | 0 => rfl
  | 1 => rfl
  | 2 => rfl
  | 3 => rfl

/-- Two fours that agree at every number are equal. -/
theorem Four.ext_get {α : Type} {x y : Four α} (h : ∀ i, x.get i = y.get i) : x = y := by
  cases x
  cases y
  have h0 := h 0
  have h1 := h 1
  have h2 := h 2
  have h3 := h 3
  simp only [Four.get] at h0 h1 h2 h3
  subst h0 h1 h2 h3
  rfl

end Sys2Proof
end

