-- ==== Sys2Proof/Laws/State.lean ====
section
/-! SUPPORT. The field-by-field lemmas of the record updates, all true by `rfl`: what an update of the core leaves of the other
fields, and what an update of the state leaves of its two parts. -/

namespace Sys2Proof.Machine

/-! ### The store -/

@[simp] theorem State.retained_values (s : State) : s.retained.toStoreValues = valuesOf s.toFixed s.toCore := rfl
@[simp] theorem State.retained_words (s : State) : s.retained.words = s.words := rfl
@[simp] theorem storeOf_values (e : Fixed) (c : Core) : (storeOf e c).toStoreValues = valuesOf e c := rfl
@[simp] theorem storeOf_words (e : Fixed) (c : Core) : (storeOf e c).words = (valuesOf e c).words := rfl
@[simp] theorem valuesOf_counter (e : Fixed) (c : Core) : (valuesOf e c).counter = e.counter := rfl
@[simp] theorem valuesOf_volumes (e : Fixed) (c : Core) : (valuesOf e c).volumes = c.volumes := rfl
@[simp] theorem valuesOf_pendingValid (e : Fixed) (c : Core) : (valuesOf e c).pendingValid = e.pendingValid := rfl
@[simp] theorem valuesOf_dirbuf (e : Fixed) (c : Core) : (valuesOf e c).dirbuf = c.dirbuf := rfl
@[simp] theorem valuesOf_tallies (e : Fixed) (c : Core) : (valuesOf e c).tallies = c.tallies := rfl
@[simp] theorem valuesOf_tallyDay (e : Fixed) (c : Core) : (valuesOf e c).tallyDay = e.tallyDay := rfl
@[simp] theorem valuesOf_closeResult (e : Fixed) (c : Core) : (valuesOf e c).closeResult = e.closeResult := rfl
@[simp] theorem valuesOf_schedule (e : Fixed) (c : Core) : (valuesOf e c).schedule = e.schedule := rfl
@[simp] theorem valuesOf_courtesy (e : Fixed) (c : Core) : (valuesOf e c).courtesy = c.courtesy := rfl
@[simp] theorem valuesOf_settings (e : Fixed) (c : Core) : (valuesOf e c).settings = e.settings := rfl

/-! ### Updates of the state -/

@[simp] theorem State.onCore_toCore (s : State) (f : Core → Core) : (s.onCore f).toCore = f s.toCore := rfl
@[simp] theorem State.onCore_toFixed (s : State) (f : Core → Core) : (s.onCore f).toFixed = s.toFixed := rfl
@[simp] theorem State.onCore_journal (s : State) (f : Core → Core) : (s.onCore f).journal = s.journal := rfl
@[simp] theorem State.onCore_words (s : State) (f : Core → Core) : (s.onCore f).words = s.words := rfl
@[simp] theorem State.onCore_pending (s : State) (f : Core → Core) : (s.onCore f).pending = s.pending := rfl
@[simp] theorem State.settled_toCore (s : State) : s.settled.toCore = settle settleFuel s.toFixed s.toCore := rfl
@[simp] theorem State.settled_toFixed (s : State) : s.settled.toFixed = s.toFixed := rfl
@[simp] theorem State.settled_journal (s : State) :
    s.settled.journal = s.journal ++ settleUpdates settleFuel s.toFixed s.toCore := rfl
@[simp] theorem State.settled_words (s : State) : s.settled.words = s.words := rfl
@[simp] theorem State.settled_pending (s : State) : s.settled.pending = s.pending := rfl
@[simp] theorem State.act_toCore (s : State) (f : Fixed → Core → Core) :
    (s.act f).toCore = settle settleFuel s.toFixed (f s.toFixed s.toCore) := rfl
@[simp] theorem State.act_toFixed (s : State) (f : Fixed → Core → Core) : (s.act f).toFixed = s.toFixed := rfl
@[simp] theorem State.act_pending (s : State) (f : Fixed → Core → Core) : (s.act f).pending = s.pending := rfl
@[simp] theorem State.validFrame_toFixed (s : State) (l : LinkId) : (s.validFrame l).toFixed = s.toFixed := rfl
@[simp] theorem State.validFrame_pending (s : State) (l : LinkId) : (s.validFrame l).pending = s.pending := rfl
@[simp] theorem State.validFrame_links (s : State) (l : LinkId) : (s.validFrame l).links =
    s.links.set l ((s.links.get l).validFrame (s.settings.silence.get l)) := rfl
@[simp] theorem State.refuse_toFixed (s : State) (r : Request) (k : RefusalCode) : (s.refuse r k).toFixed = s.toFixed := rfl
@[simp] theorem State.answer_toFixed (s : State) (r : Request) (b : DoneBody) : (s.answer r b).toFixed = s.toFixed := rfl
@[simp] theorem State.accept_toFixed (s : State) (r : Request) (b : AcceptedBody) : (s.accept r b).toFixed = s.toFixed := rfl
@[simp] theorem State.result_toFixed (s : State) (r : Request) (b : ResultBody) : (s.result r b).toFixed = s.toFixed := rfl


/-! ### `Core.onLink` changes `links` only -/

@[simp] theorem Core.onLink_links (c : Core) (l : LinkId) (f : LinkUnit → LinkUnit) :
    (c.onLink l f).links = c.links.set l (f (c.links.get l)) := rfl
@[simp] theorem Core.onLink_alarms (c : Core) (l : LinkId) (f : LinkUnit → LinkUnit) : (c.onLink l f).alarms = c.alarms := rfl
@[simp] theorem Core.onLink_volumes (c : Core) (l : LinkId) (f : LinkUnit → LinkUnit) : (c.onLink l f).volumes = c.volumes := rfl
@[simp] theorem Core.onLink_selection (c : Core) (l : LinkId) (f : LinkUnit → LinkUnit) : (c.onLink l f).selection = c.selection := rfl
@[simp] theorem Core.onLink_rebuilding (c : Core) (l : LinkId) (f : LinkUnit → LinkUnit) : (c.onLink l f).rebuilding = c.rebuilding := rfl
@[simp] theorem Core.onLink_mailslot (c : Core) (l : LinkId) (f : LinkUnit → LinkUnit) : (c.onLink l f).mailslot = c.mailslot := rfl
@[simp] theorem Core.onLink_drives (c : Core) (l : LinkId) (f : LinkUnit → LinkUnit) : (c.onLink l f).drives = c.drives := rfl
@[simp] theorem Core.onLink_mounts (c : Core) (l : LinkId) (f : LinkUnit → LinkUnit) : (c.onLink l f).mounts = c.mounts := rfl
@[simp] theorem Core.onLink_requests (c : Core) (l : LinkId) (f : LinkUnit → LinkUnit) : (c.onLink l f).requests = c.requests := rfl
@[simp] theorem Core.onLink_picker (c : Core) (l : LinkId) (f : LinkUnit → LinkUnit) : (c.onLink l f).picker = c.picker := rfl
@[simp] theorem Core.onLink_moves (c : Core) (l : LinkId) (f : LinkUnit → LinkUnit) : (c.onLink l f).moves = c.moves := rfl
@[simp] theorem Core.onLink_nextArrival (c : Core) (l : LinkId) (f : LinkUnit → LinkUnit) : (c.onLink l f).nextArrival = c.nextArrival := rfl
@[simp] theorem Core.onLink_hold (c : Core) (l : LinkId) (f : LinkUnit → LinkUnit) : (c.onLink l f).hold = c.hold := rfl
@[simp] theorem Core.onLink_startPhase (c : Core) (l : LinkId) (f : LinkUnit → LinkUnit) : (c.onLink l f).startPhase = c.startPhase := rfl
@[simp] theorem Core.onLink_importOp (c : Core) (l : LinkId) (f : LinkUnit → LinkUnit) : (c.onLink l f).importOp = c.importOp := rfl
@[simp] theorem Core.onLink_exportOp (c : Core) (l : LinkId) (f : LinkUnit → LinkUnit) : (c.onLink l f).exportOp = c.exportOp := rfl
@[simp] theorem Core.onLink_inventory (c : Core) (l : LinkId) (f : LinkUnit → LinkUnit) : (c.onLink l f).inventory = c.inventory := rfl
@[simp] theorem Core.onLink_engine (c : Core) (l : LinkId) (f : LinkUnit → LinkUnit) : (c.onLink l f).engine = c.engine := rfl
@[simp] theorem Core.onLink_pendingList (c : Core) (l : LinkId) (f : LinkUnit → LinkUnit) : (c.onLink l f).pendingList = c.pendingList := rfl
@[simp] theorem Core.onLink_blockMap (c : Core) (l : LinkId) (f : LinkUnit → LinkUnit) : (c.onLink l f).blockMap = c.blockMap := rfl
@[simp] theorem Core.onLink_dirbuf (c : Core) (l : LinkId) (f : LinkUnit → LinkUnit) : (c.onLink l f).dirbuf = c.dirbuf := rfl
@[simp] theorem Core.onLink_queue (c : Core) (l : LinkId) (f : LinkUnit → LinkUnit) : (c.onLink l f).queue = c.queue := rfl
@[simp] theorem Core.onLink_nextAccept (c : Core) (l : LinkId) (f : LinkUnit → LinkUnit) : (c.onLink l f).nextAccept = c.nextAccept := rfl
@[simp] theorem Core.onLink_tallies (c : Core) (l : LinkId) (f : LinkUnit → LinkUnit) : (c.onLink l f).tallies = c.tallies := rfl
@[simp] theorem Core.onLink_courtesy (c : Core) (l : LinkId) (f : LinkUnit → LinkUnit) : (c.onLink l f).courtesy = c.courtesy := rfl

/-! ### `Core.onDrive` changes `drives` only -/

@[simp] theorem Core.onDrive_drives (c : Core) (d : DriveId) (f : Drive → Drive) :
    (c.onDrive d f).drives = c.drives.set d (f (c.drives.get d)) := rfl
@[simp] theorem Core.onDrive_links (c : Core) (d : DriveId) (f : Drive → Drive) : (c.onDrive d f).links = c.links := rfl
@[simp] theorem Core.onDrive_alarms (c : Core) (d : DriveId) (f : Drive → Drive) : (c.onDrive d f).alarms = c.alarms := rfl
@[simp] theorem Core.onDrive_volumes (c : Core) (d : DriveId) (f : Drive → Drive) : (c.onDrive d f).volumes = c.volumes := rfl
@[simp] theorem Core.onDrive_selection (c : Core) (d : DriveId) (f : Drive → Drive) : (c.onDrive d f).selection = c.selection := rfl
@[simp] theorem Core.onDrive_rebuilding (c : Core) (d : DriveId) (f : Drive → Drive) : (c.onDrive d f).rebuilding = c.rebuilding := rfl
@[simp] theorem Core.onDrive_mailslot (c : Core) (d : DriveId) (f : Drive → Drive) : (c.onDrive d f).mailslot = c.mailslot := rfl
@[simp] theorem Core.onDrive_mounts (c : Core) (d : DriveId) (f : Drive → Drive) : (c.onDrive d f).mounts = c.mounts := rfl
@[simp] theorem Core.onDrive_requests (c : Core) (d : DriveId) (f : Drive → Drive) : (c.onDrive d f).requests = c.requests := rfl
@[simp] theorem Core.onDrive_picker (c : Core) (d : DriveId) (f : Drive → Drive) : (c.onDrive d f).picker = c.picker := rfl
@[simp] theorem Core.onDrive_moves (c : Core) (d : DriveId) (f : Drive → Drive) : (c.onDrive d f).moves = c.moves := rfl
@[simp] theorem Core.onDrive_nextArrival (c : Core) (d : DriveId) (f : Drive → Drive) : (c.onDrive d f).nextArrival = c.nextArrival := rfl
@[simp] theorem Core.onDrive_hold (c : Core) (d : DriveId) (f : Drive → Drive) : (c.onDrive d f).hold = c.hold := rfl
@[simp] theorem Core.onDrive_startPhase (c : Core) (d : DriveId) (f : Drive → Drive) : (c.onDrive d f).startPhase = c.startPhase := rfl
@[simp] theorem Core.onDrive_importOp (c : Core) (d : DriveId) (f : Drive → Drive) : (c.onDrive d f).importOp = c.importOp := rfl
@[simp] theorem Core.onDrive_exportOp (c : Core) (d : DriveId) (f : Drive → Drive) : (c.onDrive d f).exportOp = c.exportOp := rfl
@[simp] theorem Core.onDrive_inventory (c : Core) (d : DriveId) (f : Drive → Drive) : (c.onDrive d f).inventory = c.inventory := rfl
@[simp] theorem Core.onDrive_engine (c : Core) (d : DriveId) (f : Drive → Drive) : (c.onDrive d f).engine = c.engine := rfl
@[simp] theorem Core.onDrive_pendingList (c : Core) (d : DriveId) (f : Drive → Drive) : (c.onDrive d f).pendingList = c.pendingList := rfl
@[simp] theorem Core.onDrive_blockMap (c : Core) (d : DriveId) (f : Drive → Drive) : (c.onDrive d f).blockMap = c.blockMap := rfl
@[simp] theorem Core.onDrive_dirbuf (c : Core) (d : DriveId) (f : Drive → Drive) : (c.onDrive d f).dirbuf = c.dirbuf := rfl
@[simp] theorem Core.onDrive_queue (c : Core) (d : DriveId) (f : Drive → Drive) : (c.onDrive d f).queue = c.queue := rfl
@[simp] theorem Core.onDrive_nextAccept (c : Core) (d : DriveId) (f : Drive → Drive) : (c.onDrive d f).nextAccept = c.nextAccept := rfl
@[simp] theorem Core.onDrive_tallies (c : Core) (d : DriveId) (f : Drive → Drive) : (c.onDrive d f).tallies = c.tallies := rfl
@[simp] theorem Core.onDrive_courtesy (c : Core) (d : DriveId) (f : Drive → Drive) : (c.onDrive d f).courtesy = c.courtesy := rfl

/-! ### `Core.setVol` changes `volumes` only -/

@[simp] theorem Core.setVol_volumes (c : Core) (v : SlotId) (x : Option Volume) :
    (c.setVol v x).volumes = c.volumes.set v x := rfl
@[simp] theorem Core.setVol_links (c : Core) (v : SlotId) (x : Option Volume) : (c.setVol v x).links = c.links := rfl
@[simp] theorem Core.setVol_alarms (c : Core) (v : SlotId) (x : Option Volume) : (c.setVol v x).alarms = c.alarms := rfl
@[simp] theorem Core.setVol_selection (c : Core) (v : SlotId) (x : Option Volume) : (c.setVol v x).selection = c.selection := rfl
@[simp] theorem Core.setVol_rebuilding (c : Core) (v : SlotId) (x : Option Volume) : (c.setVol v x).rebuilding = c.rebuilding := rfl
@[simp] theorem Core.setVol_mailslot (c : Core) (v : SlotId) (x : Option Volume) : (c.setVol v x).mailslot = c.mailslot := rfl
@[simp] theorem Core.setVol_drives (c : Core) (v : SlotId) (x : Option Volume) : (c.setVol v x).drives = c.drives := rfl
@[simp] theorem Core.setVol_mounts (c : Core) (v : SlotId) (x : Option Volume) : (c.setVol v x).mounts = c.mounts := rfl
@[simp] theorem Core.setVol_requests (c : Core) (v : SlotId) (x : Option Volume) : (c.setVol v x).requests = c.requests := rfl
@[simp] theorem Core.setVol_picker (c : Core) (v : SlotId) (x : Option Volume) : (c.setVol v x).picker = c.picker := rfl
@[simp] theorem Core.setVol_moves (c : Core) (v : SlotId) (x : Option Volume) : (c.setVol v x).moves = c.moves := rfl
@[simp] theorem Core.setVol_nextArrival (c : Core) (v : SlotId) (x : Option Volume) : (c.setVol v x).nextArrival = c.nextArrival := rfl
@[simp] theorem Core.setVol_hold (c : Core) (v : SlotId) (x : Option Volume) : (c.setVol v x).hold = c.hold := rfl
@[simp] theorem Core.setVol_startPhase (c : Core) (v : SlotId) (x : Option Volume) : (c.setVol v x).startPhase = c.startPhase := rfl
@[simp] theorem Core.setVol_importOp (c : Core) (v : SlotId) (x : Option Volume) : (c.setVol v x).importOp = c.importOp := rfl
@[simp] theorem Core.setVol_exportOp (c : Core) (v : SlotId) (x : Option Volume) : (c.setVol v x).exportOp = c.exportOp := rfl
@[simp] theorem Core.setVol_inventory (c : Core) (v : SlotId) (x : Option Volume) : (c.setVol v x).inventory = c.inventory := rfl
@[simp] theorem Core.setVol_engine (c : Core) (v : SlotId) (x : Option Volume) : (c.setVol v x).engine = c.engine := rfl
@[simp] theorem Core.setVol_pendingList (c : Core) (v : SlotId) (x : Option Volume) : (c.setVol v x).pendingList = c.pendingList := rfl
@[simp] theorem Core.setVol_blockMap (c : Core) (v : SlotId) (x : Option Volume) : (c.setVol v x).blockMap = c.blockMap := rfl
@[simp] theorem Core.setVol_dirbuf (c : Core) (v : SlotId) (x : Option Volume) : (c.setVol v x).dirbuf = c.dirbuf := rfl
@[simp] theorem Core.setVol_queue (c : Core) (v : SlotId) (x : Option Volume) : (c.setVol v x).queue = c.queue := rfl
@[simp] theorem Core.setVol_nextAccept (c : Core) (v : SlotId) (x : Option Volume) : (c.setVol v x).nextAccept = c.nextAccept := rfl
@[simp] theorem Core.setVol_tallies (c : Core) (v : SlotId) (x : Option Volume) : (c.setVol v x).tallies = c.tallies := rfl
@[simp] theorem Core.setVol_courtesy (c : Core) (v : SlotId) (x : Option Volume) : (c.setVol v x).courtesy = c.courtesy := rfl

/-! ### `Core.onEngine` changes `engine` only -/

@[simp] theorem Core.onEngine_engine (c : Core) (f : Engine → Engine) :
    (c.onEngine f).engine = f c.engine := rfl
@[simp] theorem Core.onEngine_links (c : Core) (f : Engine → Engine) : (c.onEngine f).links = c.links := rfl
@[simp] theorem Core.onEngine_alarms (c : Core) (f : Engine → Engine) : (c.onEngine f).alarms = c.alarms := rfl
@[simp] theorem Core.onEngine_volumes (c : Core) (f : Engine → Engine) : (c.onEngine f).volumes = c.volumes := rfl
@[simp] theorem Core.onEngine_selection (c : Core) (f : Engine → Engine) : (c.onEngine f).selection = c.selection := rfl
@[simp] theorem Core.onEngine_rebuilding (c : Core) (f : Engine → Engine) : (c.onEngine f).rebuilding = c.rebuilding := rfl
@[simp] theorem Core.onEngine_mailslot (c : Core) (f : Engine → Engine) : (c.onEngine f).mailslot = c.mailslot := rfl
@[simp] theorem Core.onEngine_drives (c : Core) (f : Engine → Engine) : (c.onEngine f).drives = c.drives := rfl
@[simp] theorem Core.onEngine_mounts (c : Core) (f : Engine → Engine) : (c.onEngine f).mounts = c.mounts := rfl
@[simp] theorem Core.onEngine_requests (c : Core) (f : Engine → Engine) : (c.onEngine f).requests = c.requests := rfl
@[simp] theorem Core.onEngine_picker (c : Core) (f : Engine → Engine) : (c.onEngine f).picker = c.picker := rfl
@[simp] theorem Core.onEngine_moves (c : Core) (f : Engine → Engine) : (c.onEngine f).moves = c.moves := rfl
@[simp] theorem Core.onEngine_nextArrival (c : Core) (f : Engine → Engine) : (c.onEngine f).nextArrival = c.nextArrival := rfl
@[simp] theorem Core.onEngine_hold (c : Core) (f : Engine → Engine) : (c.onEngine f).hold = c.hold := rfl
@[simp] theorem Core.onEngine_startPhase (c : Core) (f : Engine → Engine) : (c.onEngine f).startPhase = c.startPhase := rfl
@[simp] theorem Core.onEngine_importOp (c : Core) (f : Engine → Engine) : (c.onEngine f).importOp = c.importOp := rfl
@[simp] theorem Core.onEngine_exportOp (c : Core) (f : Engine → Engine) : (c.onEngine f).exportOp = c.exportOp := rfl
@[simp] theorem Core.onEngine_inventory (c : Core) (f : Engine → Engine) : (c.onEngine f).inventory = c.inventory := rfl
@[simp] theorem Core.onEngine_pendingList (c : Core) (f : Engine → Engine) : (c.onEngine f).pendingList = c.pendingList := rfl
@[simp] theorem Core.onEngine_blockMap (c : Core) (f : Engine → Engine) : (c.onEngine f).blockMap = c.blockMap := rfl
@[simp] theorem Core.onEngine_dirbuf (c : Core) (f : Engine → Engine) : (c.onEngine f).dirbuf = c.dirbuf := rfl
@[simp] theorem Core.onEngine_queue (c : Core) (f : Engine → Engine) : (c.onEngine f).queue = c.queue := rfl
@[simp] theorem Core.onEngine_nextAccept (c : Core) (f : Engine → Engine) : (c.onEngine f).nextAccept = c.nextAccept := rfl
@[simp] theorem Core.onEngine_tallies (c : Core) (f : Engine → Engine) : (c.onEngine f).tallies = c.tallies := rfl
@[simp] theorem Core.onEngine_courtesy (c : Core) (f : Engine → Engine) : (c.onEngine f).courtesy = c.courtesy := rfl

/-! ### `Core.onJob` changes `queue` only -/

@[simp] theorem Core.onJob_queue (c : Core) (id : JobId) (f : Job → Job) :
    (c.onJob id f).queue = c.queue.map (fun j => if j.id = id then f j else j) := rfl
@[simp] theorem Core.onJob_links (c : Core) (id : JobId) (f : Job → Job) : (c.onJob id f).links = c.links := rfl
@[simp] theorem Core.onJob_alarms (c : Core) (id : JobId) (f : Job → Job) : (c.onJob id f).alarms = c.alarms := rfl
@[simp] theorem Core.onJob_volumes (c : Core) (id : JobId) (f : Job → Job) : (c.onJob id f).volumes = c.volumes := rfl
@[simp] theorem Core.onJob_selection (c : Core) (id : JobId) (f : Job → Job) : (c.onJob id f).selection = c.selection := rfl
@[simp] theorem Core.onJob_rebuilding (c : Core) (id : JobId) (f : Job → Job) : (c.onJob id f).rebuilding = c.rebuilding := rfl
@[simp] theorem Core.onJob_mailslot (c : Core) (id : JobId) (f : Job → Job) : (c.onJob id f).mailslot = c.mailslot := rfl
@[simp] theorem Core.onJob_drives (c : Core) (id : JobId) (f : Job → Job) : (c.onJob id f).drives = c.drives := rfl
@[simp] theorem Core.onJob_mounts (c : Core) (id : JobId) (f : Job → Job) : (c.onJob id f).mounts = c.mounts := rfl
@[simp] theorem Core.onJob_requests (c : Core) (id : JobId) (f : Job → Job) : (c.onJob id f).requests = c.requests := rfl
@[simp] theorem Core.onJob_picker (c : Core) (id : JobId) (f : Job → Job) : (c.onJob id f).picker = c.picker := rfl
@[simp] theorem Core.onJob_moves (c : Core) (id : JobId) (f : Job → Job) : (c.onJob id f).moves = c.moves := rfl
@[simp] theorem Core.onJob_nextArrival (c : Core) (id : JobId) (f : Job → Job) : (c.onJob id f).nextArrival = c.nextArrival := rfl
@[simp] theorem Core.onJob_hold (c : Core) (id : JobId) (f : Job → Job) : (c.onJob id f).hold = c.hold := rfl
@[simp] theorem Core.onJob_startPhase (c : Core) (id : JobId) (f : Job → Job) : (c.onJob id f).startPhase = c.startPhase := rfl
@[simp] theorem Core.onJob_importOp (c : Core) (id : JobId) (f : Job → Job) : (c.onJob id f).importOp = c.importOp := rfl
@[simp] theorem Core.onJob_exportOp (c : Core) (id : JobId) (f : Job → Job) : (c.onJob id f).exportOp = c.exportOp := rfl
@[simp] theorem Core.onJob_inventory (c : Core) (id : JobId) (f : Job → Job) : (c.onJob id f).inventory = c.inventory := rfl
@[simp] theorem Core.onJob_engine (c : Core) (id : JobId) (f : Job → Job) : (c.onJob id f).engine = c.engine := rfl
@[simp] theorem Core.onJob_pendingList (c : Core) (id : JobId) (f : Job → Job) : (c.onJob id f).pendingList = c.pendingList := rfl
@[simp] theorem Core.onJob_blockMap (c : Core) (id : JobId) (f : Job → Job) : (c.onJob id f).blockMap = c.blockMap := rfl
@[simp] theorem Core.onJob_dirbuf (c : Core) (id : JobId) (f : Job → Job) : (c.onJob id f).dirbuf = c.dirbuf := rfl
@[simp] theorem Core.onJob_nextAccept (c : Core) (id : JobId) (f : Job → Job) : (c.onJob id f).nextAccept = c.nextAccept := rfl
@[simp] theorem Core.onJob_tallies (c : Core) (id : JobId) (f : Job → Job) : (c.onJob id f).tallies = c.tallies := rfl
@[simp] theorem Core.onJob_courtesy (c : Core) (id : JobId) (f : Job → Job) : (c.onJob id f).courtesy = c.courtesy := rfl

/-! ### A frame produced changes the link units only -/

@[simp] theorem Core.emit_eq (c : Core) (l : LinkId) (f : OutFrame) : c.emit l f = c.onLink l (·.emit f) := rfl
@[simp] theorem Core.refuse_eq (c : Core) (r : Request) (k : RefusalCode) :
    c.refuse r k = c.onLink r.link (·.emit (.refused r.tag k)) := rfl
@[simp] theorem Core.answer_eq (c : Core) (r : Request) (b : DoneBody) :
    c.answer r b = c.onLink r.link (·.emit (.done r.tag b)) := rfl
@[simp] theorem Core.accept_eq (c : Core) (r : Request) (b : AcceptedBody) :
    c.accept r b = c.onLink r.link (·.emit (.accepted r.tag b)) := rfl
@[simp] theorem Core.result_eq (c : Core) (r : Request) (b : ResultBody) :
    c.result r b = c.onLink r.link (·.emit (.result r.tag b)) := rfl
@[simp] theorem Core.mediaDone_eq (c : Core) (o : Orderer) (x : MediaOutcome) (v : Option SlotId) :
    c.mediaDone o x v = c.onLink o.link (·.emit (.done o.tag (.media x v))) := rfl
@[simp] theorem Core.notify_eq (c : Core) (l : LinkId) (n : Notice) : c.notify l n = c.onLink l (·.deliver n) := rfl

end Sys2Proof.Machine
end

