-- ==== Sys2Proof/Laws/Event.lean ====
section
/-! SUPPORT. What taking a command as an event can do: the one next state, and the record of the updates beside it. -/

namespace Sys2Proof.Machine

/-! ### The record of the updates (R191) -/

@[simp] theorem State.recordUpdates_toCore (s t : State) (o : List Section) : (s.recordUpdates t o).toCore = t.toCore := rfl
@[simp] theorem State.recordUpdates_toFixed (s t : State) (o : List Section) : (s.recordUpdates t o).toFixed = t.toFixed := rfl
@[simp] theorem State.recordUpdates_pending (s t : State) (o : List Section) : (s.recordUpdates t o).pending = t.pending := rfl

/-- The check words and the record are all that `recordUpdates` can change. -/
theorem State.recordUpdates_eq (s t : State) (o : List Section) : s.recordUpdates t o =
    { t with words := (s.recordUpdates t o).words, journal := (s.recordUpdates t o).journal } := rfl

@[simp] theorem StoreValues.agreesOn_self (a : StoreValues) (sec : Section) : a.agreesOn a sec = true := by
  simp [StoreValues.agreesOn]

@[simp] theorem updates_self (a : Retained) (o : List Section) : updates a a.toStoreValues o = [] := by
  induction o with
  | nil => rfl
  | cons sec rest ih => simp [updates, ih]

/-- An event that changes no section and has no work behind it leaves the record. -/
theorem State.recordUpdates_same (s t : State) (o : List Section) (h : t.retained = s.retained)
    (hj : t.journal = s.journal) : s.recordUpdates t o = t := by
  have hv : valuesOf t.toFixed t.toCore = s.retained.toStoreValues := by rw [← h]; rfl
  have hw : t.words = s.words := by simpa using congrArg Retained.words h
  unfold State.recordUpdates storeBetween
  simp only [hj, List.drop_length, hv, updates_self, List.append_nil, List.isEmpty_nil, if_true]
  rw [← hj]
  simp only [wordsAfter, List.foldl_nil, ← hw]

/-- The sections of an update list are among those of the order. -/
theorem updates_sections (a : Retained) (b : StoreValues) (o : List Section) : ∀ p ∈ updates a b o, p.1 ∈ o := by
  induction o generalizing a with
  | nil => simp [updates]
  | cons sec rest ih =>
    intro p hp
    unfold updates at hp
    split at hp
    · exact List.mem_cons_of_mem _ (ih _ p hp)
    · rcases List.mem_cons.mp hp with h | h
      · simp [h]
      · exact List.mem_cons_of_mem _ (ih _ p h)

/-- A property of the values that each update keeps holds of every store the updates pass through. -/
theorem updates_stores (P : StoreValues → Prop) (hput : ∀ x y sec, P x → P y → P (x.put y sec)) (a : Retained)
    (b : StoreValues) (o : List Section) (ha : P a.toStoreValues) (hb : P b) : ∀ p ∈ updates a b o, P p.2.toStoreValues := by
  induction o generalizing a with
  | nil => simp [updates]
  | cons sec rest ih =>
    intro p hp
    unfold updates at hp
    split at hp
    · exact ih a ha p hp
    · rcases List.mem_cons.mp hp with rfl | h
      · exact ha
      · exact ih (a.put b sec) (hput a.toStoreValues b sec ha hb) p h

/-- The same of the work that follows an event, where each step of it keeps the property. -/
theorem settleUpdates_stores (P : StoreValues → Prop) (hput : ∀ x y sec, P x → P y → P (x.put y sec)) (e : Fixed)
    (hstep : ∀ c c', settleStep e c = some c' → P (valuesOf e c) → P (valuesOf e c')) (n : Nat) (c : Core)
    (hc : P (valuesOf e c)) : ∀ p ∈ settleUpdates n e c, P p.2.toStoreValues := by
  induction n generalizing c with
  | zero => simp [settleUpdates]
  | succ n ih =>
    intro p hp
    unfold settleUpdates at hp
    split at hp
    · rename_i c' h
      rcases List.mem_append.mp hp with hp | hp
      · exact updates_stores P hput _ _ _ hc (hstep c c' h hc) p hp
      · exact ih c' (hstep c c' h hc) p hp
    · simp at hp

/-! ### Events and requests -/

/-- All that an event can do. -/
theorem event_eq (o : List Section) (s : State) (f : State → State) :
    event o s f = .next (if s.resetDue then s else s.recordUpdates (f s) o) := by
  unfold event
  split <;> rfl

/-- While a reset is due, an event changes nothing (R187). -/
theorem event_due (o : List Section) (s : State) (f : State → State) (h : s.resetDue = true) : event o s f = .next s := by
  simp [event, h]

/-- The state an event leads to, when no reset is due. -/
theorem event_next (o : List Section) (s : State) (f : State → State) (h : s.resetDue = false) :
    event o s f = .next (s.recordUpdates (f s) o) := by simp [event, h]

/-- All that the examination of a request can do (R177). -/
theorem examine_cases (k : RequestKind) (r : Request) (own : State → State) (s : State) :
    (k.permitted (((s.validFrame r.link).links).get r.link).role = false ∧
        examine k r own s = (s.validFrame r.link).refuse r .role) ∨
    (k.permitted (((s.validFrame r.link).links).get r.link).role = true ∧ k.lengthOk r.body = false ∧
        examine k r own s = (s.validFrame r.link).refuse r .format) ∨
    (k.permitted (((s.validFrame r.link).links).get r.link).role = true ∧ k.lengthOk r.body = true ∧
        examine k r own s = own (s.validFrame r.link)) := by
  unfold examine
  cases h1 : k.permitted (((s.validFrame r.link).links).get r.link).role <;> cases h2 : k.lengthOk r.body <;>
    simp_all

/-- A valid frame leaves a link's role and mask. -/
@[simp] theorem LinkUnit.validFrame_role (u : LinkUnit) (n : Nat) : (u.validFrame n).role = u.role := by
  unfold LinkUnit.validFrame
  split <;> rfl

@[simp] theorem LinkUnit.validFrame_active (u : LinkUnit) (n : Nat) : (u.validFrame n).active = true := by
  unfold LinkUnit.validFrame
  split <;> rfl

@[simp] theorem LinkUnit.validFrame_mask (u : LinkUnit) (n : Nat) : (u.validFrame n).mask = u.mask := by
  unfold LinkUnit.validFrame
  split <;> rfl

@[simp] theorem LinkUnit.validFrame_timer (u : LinkUnit) (n : Nat) : (u.validFrame n).timer = timerOf n := by
  unfold LinkUnit.validFrame
  split <;> rfl

/-- A frame produced for an ACTIVE link joins the tail of its output list (R178). -/
theorem LinkUnit.emit_active (u : LinkUnit) (f : OutFrame) (h : u.active = true) :
    u.emit f = { u with out := u.out ++ [f] } := by simp [LinkUnit.emit, h]

/-- A frame produced for a SILENT link is discarded (R184). -/
theorem LinkUnit.emit_silent (u : LinkUnit) (f : OutFrame) (h : u.active = false) : u.emit f = u := by
  simp [LinkUnit.emit, h]

end Sys2Proof.Machine
end

