-- ==== Sys2Proof/Laws/Request.lean ====
section
/-! SUPPORT. From a command to its next state: what an event, a request, a refusal and a completion lead to, each said once. -/

namespace Sys2Proof.Machine

/-! ### Events -/

/-- A state is reached from itself. -/
theorem Reached.refl (u : State) : Reached u u := rfl

/-- The record of the updates is all that `recordUpdates` adds. -/
theorem reached_record (s t : State) (o : List Section) : Reached (s.recordUpdates t o) t := rfl

/-- An event leads to the state its effect gives. -/
theorem event_reached {o : List Section} {s u : State} {f : State → State} (hd : s.resetDue = false) (hu : f s = u) :
    ∃ t, event o s f = .next t ∧ Reached t u :=
  ⟨_, event_next o s f hd, hu ▸ reached_record s (f s) o⟩

/-- A request of a permitted kind and length leads to the state its owner gives (R177). -/
theorem request_reached {k : RequestKind} {r : Request} {own : State → State} {s u : State} (hd : s.resetDue = false)
    (hp : k.permitted (s.links.get r.link).role = true) (hl : k.lengthOk r.body = true)
    (hu : own (s.validFrame r.link) = u) : ∃ t, request k r own s = .next t ∧ Reached t u := by
  refine event_reached hd ?_
  rw [← hu]
  rcases examine_cases k r own s with ⟨h, -⟩ | ⟨-, h, -⟩ | ⟨-, -, h⟩
  · simp [hp] at h
  · rw [hl] at h
    cases h
  · exact h

/-! ### Answers to a valid frame -/

/-- A frame produced for the link of a valid frame joins its output list (R176, R178). -/
theorem validFrame_emit (s : State) (l : LinkId) (f : OutFrame) :
    (s.validFrame l).onCore (·.onLink l (·.emit f)) = { s with links := linksAfter s l [f] } := by
  simp [State.validFrame, State.onCore, Core.onLink, linksAfter, LinkUnit.emit]

theorem validFrame_answer (s : State) (r : Request) (b : DoneBody) :
    (s.validFrame r.link).answer r b = { s with links := linksAfter s r.link [.done r.tag b] } :=
  validFrame_emit s r.link (.done r.tag b)

theorem validFrame_refuse (s : State) (r : Request) (k : RefusalCode) :
    (s.validFrame r.link).refuse r k = { s with links := linksAfter s r.link [.refused r.tag k] } :=
  validFrame_emit s r.link (.refused r.tag k)

theorem validFrame_accept (s : State) (r : Request) (b : AcceptedBody) :
    (s.validFrame r.link).accept r b = { s with links := linksAfter s r.link [.accepted r.tag b] } :=
  validFrame_emit s r.link (.accepted r.tag b)

theorem validFrame_result (s : State) (r : Request) (b : ResultBody) :
    (s.validFrame r.link).result r b = { s with links := linksAfter s r.link [.result r.tag b] } :=
  validFrame_emit s r.link (.result r.tag b)

/-- A refused request leads to its refusal and to nothing else (R177, R179). -/
theorem request_refused {k : RequestKind} {r : Request} {own : State → State} {s : State} {code : RefusalCode}
    (hd : s.resetDue = false) (hp : k.permitted (s.links.get r.link).role = true) (hl : k.lengthOk r.body = true)
    (hu : own (s.validFrame r.link) = (s.validFrame r.link).refuse r code) :
    ∃ t, request k r own s = .next t ∧ Reached t { s with links := linksAfter s r.link [.refused r.tag code] } :=
  request_reached hd hp hl (hu.trans (validFrame_refuse s r code))

/-- A valid frame, and no frame in answer (R176). -/
theorem validFrame_eq (s : State) (l : LinkId) : s.validFrame l = { s with links := linksAfter s l [] } := by
  simp only [State.validFrame, State.onCore, Core.onLink, linksAfter, List.append_nil]

/-! ### The work that follows -/

/-- A property that each thing the blocks do of themselves keeps is kept by all of it (notes/assumptions/8.md). -/
theorem settle_keeps {e : Fixed} (P : Core → Prop) (h : ∀ c c', P c → settleStep e c = some c' → P c') (n : Nat) (c : Core)
    (hc : P c) : P (settle n e c) := by
  induction n generalizing c with
  | zero => exact hc
  | succ n ih =>
    unfold settle
    split
    · next c' hs => exact ih c' (h c c' hc hs)
    · exact hc

/-- Where the blocks have nothing to do, nothing follows. -/
theorem settle_quiet {e : Fixed} {c : Core} (h : settleStep e c = none) (n : Nat) : settle n e c = c := by
  cases n with
  | zero => rfl
  | succ n => simp [settle, h]

end Sys2Proof.Machine
end

