-- ==== Sys2Proof/Laws/Told.lean ====
section
/-! SUPPORT. What each shared operation that tells the outside of something does to the core, said once in the terms of
Sys2Proof/Safety.lean: alarms, notices, the DONE of earlier work, the grant of a hold. -/

namespace Sys2Proof.Machine

/-- Clearing an alarm changes the alarms and the link units only (R189). -/
theorem Core.clearAlarm_eq (c : Core) (a : Alarm) : c.clearAlarm a =
    { c with alarms := (alarmCleared (c.alarms, c.links) a).1, links := (alarmCleared (c.alarms, c.links) a).2 } := by
  unfold Core.clearAlarm alarmCleared
  split <;> rfl

/-- Setting an alarm changes the alarms and the link units only (R189). -/
theorem Core.setAlarm_eq (c : Core) (a : Alarm) : c.setAlarm a =
    { c with alarms := (alarmSet (c.alarms, c.links) a).1, links := (alarmSet (c.alarms, c.links) a).2 } := by
  unfold Core.setAlarm alarmSet
  split <;> rfl

/-- A notice for the links of a role changes the link units only (R170). -/
theorem Core.notifyRole_eq (c : Core) (role : Role) (n : Notice) :
    c.notifyRole role n = { c with links := toldTo c.links role n } := rfl

/-- The DONE of earlier work changes the link units only (R178, R184). -/
theorem Core.emit_done (c : Core) (o : Orderer) (b : DoneBody) :
    c.emit o.link (.done o.tag b) = { c with links := answered c.links o b } := by
  simp only [Core.emit, Core.onLink, LinkUnit.emit, answered, sendOn]
  split
  · rfl
  · simp

/-- The DONE of media work. -/
theorem Core.mediaDone_told (c : Core) (o : Orderer) (x : MediaOutcome) (v : Option SlotId) :
    c.mediaDone o x v = { c with links := answered c.links o (.media x v) } := c.emit_done o _

/-- The DONE of a job. -/
theorem Core.jobDone_told (c : Core) (id : JobId) (b : JobDone) :
    c.jobDone id b = { c with links := answered c.links { link := id.link, tag := id.tag } (.job b) } :=
  c.emit_done { link := id.link, tag := id.tag } _

/-- All that granting a waiting hold can do (R40). -/
theorem Core.grantHold_eq (c : Core) : c.grantHold =
    { c with hold := (holdGranted c.hold c.links).1, links := (holdGranted c.hold c.links).2 } := by
  unfold Core.grantHold holdGranted
  cases h : c.hold with
  | waiting o => simp only [Core.emit_done]
  | none => cases c; simp_all
  | granted l => cases c; simp_all

/-- All that the DONE of a recovery can do (R43). -/
theorem Core.recoveryDone_eq (c : Core) (x : MediaOutcome) : c.recoveryDone x =
    { c with picker := { c.picker with by_ := none }, links := recoveryTold c.picker.by_ c.links x } := by
  unfold Core.recoveryDone recoveryTold
  split
  · next o h => simp only [Core.mediaDone_told, h]
  · next h =>
    rcases c with ⟨_, _, _, _, _, _, _, _, _, p, _, _, _, _, _, _, _, _, _, _, _, _, _, _, _⟩
    cases p
    simp_all

/-- A volume that is not OUT and does not become OUT moves without an evaluation of SIDE_SUSPECT (R3, R13). -/
theorem Core.setLoc_inside (c : Core) (v : SlotId) (l0 l : Location) (h : c.location v = some l0) (h0 : l0 ≠ .out)
    (h1 : l ≠ .out) : c.setLoc v l = { c with volumes := relocated c.volumes v l } := by
  unfold Core.location Core.vol at h
  cases hv : c.volumes[v] with
  | none => simp [hv] at h
  | some x =>
    simp only [hv, Option.map_some, Option.some.injEq] at h
    have hv' : c.volumes[(v : Nat)] = some x := hv
    unfold Core.setLoc Core.vol
    simp only [hv, h]
    have a : (l0 == Location.out) = false := by simpa using h0
    have b : (l == Location.out) = false := by simpa using h1
    rw [a, b]
    simp [Core.setVol, relocated, hv']

/-! ### Events that act on the core -/

/-- A command whose effect acts on the core leads to that effect and what follows it (notes/assumptions/8.md). -/
theorem event_acted {o : List Section} {s u : State} {g : State → State} {f : Fixed → Core → Core} (hd : s.resetDue = false)
    (hg : g s = s.act f) (hu : s.onCore (f s.toFixed) = u) : ∃ t, event o s g = .next t ∧ ReachedThen t u := by
  refine event_reached hd ?_
  rw [hg, ← hu]
  rfl

/-- A request whose owner acts on the core leads to that effect and what follows it. -/
theorem request_acted {k : RequestKind} {r : Request} {own : State → State} {s u : State} {f : Fixed → Core → Core}
    (hd : s.resetDue = false) (hp : k.permitted (s.links.get r.link).role = true) (hl : k.lengthOk r.body = true)
    (ho : own (s.validFrame r.link) = (s.validFrame r.link).act f) (hu : (s.validFrame r.link).onCore (f s.toFixed) = u) :
    ∃ t, request k r own s = .next t ∧ ReachedThen t u := by
  refine request_reached hd hp hl ?_
  rw [ho, ← hu]
  rfl

/-- An event whose effect is none leaves the state. -/
theorem event_same {o : List Section} {s : State} {g : State → State} (hg : g s = s) : event o s g = .next s := by
  rw [event_eq, hg]
  split
  · rfl
  · rw [State.recordUpdates_same _ _ _ rfl rfl]

end Sys2Proof.Machine
end

