-- ==== Sys2Proof/Laws/Completion.lean ====
section
/-! SUPPORT. Completions of drive operations: what the end of an operation leaves, what a completion that its user takes leads
to, the end of a job that held a claim, the moves under a binding, and the turns of the filing drive. -/

namespace Sys2Proof.Machine

/-! ### Completions -/

/-- A completion that the user of the operation in flight takes leads to what the user does and what follows (R24). -/
theorem completion_reached {o : List Section} {d : DriveId} {f : Fixed → Core → DriveOp → Option Core} {s u : State}
    {op : DriveOp} {c : Core} (hd : s.resetDue = false) (ho : (s.drives.get d).op = some op)
    (hf : f s.toFixed (s.toCore.endOp s.toFixed d) op = some c) (hu : { s with toCore := c } = u) :
    ∃ t, event o s (completion d f) = .next t ∧ ReachedThen t u := by
  refine event_reached hd ?_
  unfold completion
  rw [show s.toCore.opOf d = some op from ho]
  simp only [hf]
  rw [← hu]
  rfl

/-- The end of a READ, WRITE or FIND BLANK (R24). -/
theorem endOp_use (s : State) (d : DriveId) (o : DriveOp) (h : (s.drives.get d).op = some o) (hk : o.kind.uses = true) :
    s.toCore.endOp s.toFixed d = { s.toCore with drives := s.drives.set d (afterUse s d) } := by
  simp [Core.endOp, Core.onDrive, h, hk, afterUse]

/-- The end of any other operation (R24). -/
theorem endOp_other (s : State) (d : DriveId) (o : DriveOp) (h : (s.drives.get d).op = some o) (hk : o.kind.uses = false) :
    s.toCore.endOp s.toFixed d =
      { s.toCore with drives := s.drives.set d { s.drives.get d with op := none } } := by
  simp [Core.endOp, Core.onDrive, h, hk]

/-! ### Jobs -/

/-- The job of an id after the jobs of that id have changed, but for their id. -/
theorem find_onJob (q : List Job) (id : JobId) (f : Job → Job) (hf : ∀ j, (f j).id = j.id) :
    (q.map (fun j => if j.id = id then f j else j)).find? (fun j => j.id == id) = (q.find? (fun j => j.id == id)).map f := by
  induction q with
  | nil => rfl
  | cons a q ih =>
    simp only [List.map_cons, List.find?_cons]
    by_cases h : a.id = id
    · simp [h, hf]
    · have hb : (a.id == id) = false := by simpa using h
      simp [h, ih, hb]

/-- The jobs of other ids do not see a change of the jobs of one id. -/
theorem filter_onJob (q : List Job) (id : JobId) (f : Job → Job) (hf : ∀ j, (f j).id = j.id) :
    (q.map (fun j => if j.id = id then f j else j)).filter (fun j => j.id ≠ id) = q.filter (fun j => j.id ≠ id) := by
  induction q with
  | nil => rfl
  | cons a q ih =>
    simp only [List.map_cons, List.filter_cons]
    by_cases h : a.id = id
    · simp [h, hf] at *
      exact ih
    · simp [h] at *
      exact ih

/-- All that the release of a claim on drive `d` does, at whatever event it falls (R23, R27). -/
theorem Core.releaseClaim_eq (s : State) (c : Core) (d : DriveId) :
    c.releaseClaim s.toFixed d = { c with drives := c.drives.set d (unclaimed s (c.drives.get d)) } := rfl

/-- The engine's release of its claim is that of its drive and of its record (R27, R60). -/
theorem Core.engineRelease_eq (s : State) (c : Core) (d : DriveId) (h : c.engine.claim = some d) :
    c.engineRelease s.toFixed =
      { c with drives := c.drives.set d (unclaimed s (c.drives.get d)), engine := { c.engine with claim := none } } := by
  unfold Core.engineRelease
  rw [h]
  rfl

/-- A motion under way, or halted under way, is the one whose parts' DONEs are taken (R38, R43). -/
theorem Core.motionNow_eq (c : Core) (h : c.picker.state = .moving ∨ c.picker.state = .halted ∧ c.picker.stall ≠ none) :
    c.motionNow = c.picker.motion := by
  have hb : c.picker.begun = true := by
    unfold Picker.begun
    rcases h with h | ⟨h, hs⟩
    · simp [h]
    · simp [h, Option.isSome_iff_ne_none.mpr hs]
  simp [Core.motionNow, hb]

/-- All that the end of a job that holds a claim on drive `d` does (R27, R28, R36, R80). -/
theorem job_ended (s : State) (c : Core) (d : DriveId) (id : JobId) (j : Job) (b : JobDone) (h : c.job id = some j)
    (hd : j.drive = some d) (hs : j.state ≠ .waitOperator) :
    ((c.unclaimJob s.toFixed id).removeJob id).jobDone id b =
      { c with
        drives := c.drives.set d
          (unclaimed s { c.drives.get d with service := (c.drives.get d).service.filter (· ≠ id) })
        queue := c.queue.filter (fun j => j.id ≠ id)
        requests := c.requests.filter (fun q => q.who ≠ .job id)
        mounts := c.mounts.map (fun m => { m with requesters := m.requesters.filter (· ≠ .job id) })
        links := answered c.links { link := id.link, tag := id.tag } (.job b) } := by
  have h' : c.queue.find? (fun j => j.id == id) = some j := h
  unfold Core.unclaimJob
  rw [h]
  simp only [Option.bind_some, hd]
  unfold Core.removeJob
  have hj : ∀ c2 : Core, c2.queue = c.queue.map (fun j => if j.id = id then { j with drive := none } else j) →
      c2.job id = some { j with drive := none } := by
    intro c2 h2
    unfold Core.job
    rw [h2, find_onJob _ _ _ (by intro j; rfl), h']
    rfl
  rw [hj _ (by simp [Core.releaseClaim, Core.onDrive, Core.onJob])]
  simp only
  split
  · next h _ => exact absurd h hs
  rw [Core.jobDone_told]
  simp only [Core.releaseClaim, Core.onDrive, Core.onJob, Core.dropRequester, Four.get_set_same, Four.set_set]
  congr 1
  exact filter_onJob _ _ _ (by intro j; rfl)

/-- The same where the job's record changes first, but for its id, as the record of a walk takes its stop reason (R103, R111). -/
theorem job_ended_onJob (s : State) (c : Core) (d : DriveId) (id : JobId) (j : Job) (b : JobDone) (f : Job → Job)
    (hf : ∀ k, (f k).id = k.id) (h : c.job id = some j) (hd : (f j).drive = some d) (hs : (f j).state ≠ .waitOperator) :
    (((c.onJob id f).unclaimJob s.toFixed id).removeJob id).jobDone id b =
      { c with
        drives := c.drives.set d
          (unclaimed s { c.drives.get d with service := (c.drives.get d).service.filter (· ≠ id) })
        queue := c.queue.filter (fun j => j.id ≠ id)
        requests := c.requests.filter (fun q => q.who ≠ .job id)
        mounts := c.mounts.map (fun m => { m with requesters := m.requesters.filter (· ≠ .job id) })
        links := answered c.links { link := id.link, tag := id.tag } (.job b) } := by
  have h' : (c.onJob id f).job id = some (f j) := by
    unfold Core.job at h ⊢
    simp only [Core.onJob]
    rw [find_onJob _ _ _ hf, h]
    rfl
  rw [job_ended s (c.onJob id f) d id (f j) b h' hd hs]
  simp only [Core.onJob]
  rw [filter_onJob _ _ _ hf]

/-! ### Moves under a binding -/

/-- A move under the binding of an import or an inventory joins the set with the arrival number of the mount operation that the
binding holds, or with the next one where it holds none (R37, R150). -/
theorem Core.joinBoundMove_cases (c : Core) (b : Binding) (src : Position) (dst : Dest) (by_ : Option LinkId) (serves : Serves)
    (carries : Option SlotId) :
    let move (n : Nat) : Move := { src, dst, cls := 4, prio := 0, arrival := n, orderedBy := by_, serves, carries }
    (∃ op ∈ c.mounts, op.target.heldBy b = true ∧
        c.joinBoundMove b src dst by_ serves carries = { c with moves := c.moves ++ [move op.arrival] }) ∨
      ((∀ op ∈ c.mounts, op.target.heldBy b = false) ∧
        c.joinBoundMove b src dst by_ serves carries =
          { c with moves := c.moves ++ [move c.nextArrival], nextArrival := c.nextArrival + 1 }) := by
  unfold Core.joinBoundMove
  split
  · next op h => exact .inl ⟨op, List.mem_of_find?_eq_some h, List.find?_some (p := fun m : MountOp => m.target.heldBy b) h, rfl⟩
  · next h => exact .inr ⟨fun op ho => by simpa using List.find?_eq_none.mp h op ho, rfl⟩

/-- With the end of a binding no mount operation lasts that it held (R150). -/
theorem Core.mem_endBoundMount (c : Core) (b : Binding) (m : MountOp) :
    m ∈ (c.endBoundMount b).mounts ↔ m ∈ c.mounts ∧ m.target.heldBy b = false := by
  simp [Core.endBoundMount]

/-! ### Turns of the filing drive -/

/-- All that the end of a commit can do about the turn (R70): the first job of the drive that takes turns has one unit while the
engine stays COMMITTING, or with no job there the engine chooses again. -/
theorem giveTurn_cases (e : Fixed) (c : Core) :
    (∃ d id ids, c.turnDrive = some d ∧ (c.drv d).service = id :: ids ∧
        giveTurn e c =
          (c.onJob id (fun j => { j with state := j.state.given })).onEngine (fun g => { g with state := .committing })) ∨
      ((∀ d, c.turnDrive = some d → (c.drv d).service = []) ∧ giveTurn e c = chooseAgain e c) := by
  unfold giveTurn
  cases h : c.turnDrive with
  | none => exact .inr ⟨by simp, rfl⟩
  | some d =>
    cases hs : (c.drv d).service with
    | nil => exact .inr ⟨by simp_all, by simp [hs]⟩
    | cons id ids => exact .inl ⟨d, id, ids, rfl, hs, by simp [hs]⟩

end Sys2Proof.Machine
end

