-- ==== Sys2Proof/Laws/Dispatch.lean ====
section
/-! SUPPORT. Every command but RESET is taken as one event. -/

namespace Sys2Proof.Machine

/-- Whether a command is a RESET. -/
def isReset (c : Instr) : Bool :=
  match c with
  | .reset _ _ _ _ => true
  | _ => false

/-- Every command but RESET is one event, whatever the state. -/
theorem exec_event (c : Instr) (h : isReset c = false) :
    ∃ (o : List Section) (f : State → State), ∀ s, exec c s = event o s f := by
  cases c <;> first | exact ⟨_, _, fun _ => rfl⟩ | cases h

end Sys2Proof.Machine
end

