-- ==== Sys2Proof/Laws/Store.lean ====
section
/-! SUPPORT. The check words of the retained store (R190): what an update makes of them, that every store an event passes through
is sound, and which sections a reset finds lost. -/

namespace Sys2Proof.Machine

/-! ### Check words -/

@[simp] theorem CheckWords.get_set_same (w : CheckWords) (sec : Section) (x : Half) : (w.set sec x).get sec = x := by
  cases sec <;> rfl

theorem CheckWords.get_set_other (w : CheckWords) (a b : Section) (x : Half) (h : b ≠ a) : (w.set a x).get b = w.get b := by
  cases a <;> cases b <;> first | rfl | exact absurd rfl h

/-- A section takes the contents put into it. -/
@[simp] theorem StoreValues.put_contents (a b : StoreValues) (sec : Section) :
    (a.put b sec).contents sec = b.contents sec := by cases sec <;> rfl

/-- The other sections keep their contents. -/
theorem StoreValues.put_contents_other (a b : StoreValues) (x y : Section) (h : y ≠ x) :
    (a.put b x).contents y = a.contents y := by cases x <;> cases y <;> first | rfl | exact absurd rfl h

@[simp] theorem StoreValues.put_holds (a b : StoreValues) (sec : Section) : (a.put b sec).holds sec = b.holds sec := by
  cases sec <;> rfl

/-- From the end of its update a section that holds values is valid (R190). -/
theorem Retained.put_valid (a : Retained) (b : StoreValues) (sec : Section) : (a.put b sec).valid sec = b.holds sec := by
  simp [Retained.valid, Retained.put, StoreValues.checkWord]

/-- A section whose word no longer matches is lost (R190). -/
theorem Retained.spoil_lost (r : Retained) (sec : Section) : (r.spoil sec).valid sec = false := by
  have h (x : Half) : (~~~x == x) = false := by
    rw [beq_eq_false_iff_ne]
    intro h
    have := congrArg (fun y : Half => y.getLsbD 0) h
    simp at this
  simp [Retained.valid, Retained.spoil, StoreValues.wrongWord, h]

/-- The store that a state holds between events is valid in every section but those that stay lost (R190, R193). -/
theorem storeOf_valid (e : Fixed) (c : Core) (sec : Section) : (storeOf e c).valid sec = (valuesOf e c).holds sec := by
  unfold Retained.valid
  cases h : (valuesOf e c).holds sec
  · simp [h]
  · have hw : (valuesOf e c).words.get sec = (valuesOf e c).checkWord sec := by
      cases sec <;> simp [CheckWords.get, StoreValues.words, StoreValues.wordOf, h]
    simp [h, hw]

/-! ### Sound stores: every section that holds values is valid -/

/-- The other sections keep their holding. -/
theorem StoreValues.put_holds_other (a b : StoreValues) (x y : Section) (h : y ≠ x) :
    (a.put b x).holds y = a.holds y := by cases x <;> cases y <;> first | rfl | exact absurd rfl h

/-- An update leaves the validity of the other sections (R190). -/
theorem Retained.put_valid_other (a : Retained) (b : StoreValues) (x y : Section) (h : y ≠ x) :
    (a.put b x).valid y = a.valid y := by
  simp [Retained.valid, Retained.put, StoreValues.checkWord, StoreValues.put_contents_other _ _ _ _ h,
    StoreValues.put_holds_other _ _ _ _ h, CheckWords.get_set_other _ _ _ _ h]

/-- A spoiled word leaves the validity of the other sections. -/
theorem Retained.spoil_valid_other (r : Retained) (x y : Section) (h : y ≠ x) : (r.spoil x).valid y = r.valid y := by
  simp [Retained.valid, Retained.spoil, StoreValues.checkWord, CheckWords.get_set_other _ _ _ _ h]

/-- An update keeps a store sound. -/
theorem Retained.put_sound (a : Retained) (b : StoreValues) (sec : Section) (h : a.sound) : (a.put b sec).sound := by
  intro y
  by_cases hy : y = sec
  · subst hy
    rw [Retained.put_valid]
    exact (StoreValues.put_holds a.toStoreValues b y).symm
  · rw [Retained.put_valid_other _ _ _ _ hy, h y]
    exact (StoreValues.put_holds_other a.toStoreValues b sec y hy).symm

/-- The store that a state holds between the updates of an event is sound. -/
theorem storeOf_sound (e : Fixed) (c : Core) : (storeOf e c).sound := storeOf_valid e c

/-- The updates of a group pass through sound stores only. -/
theorem updates_sound (a : Retained) (b : StoreValues) (o : List Section) (h : a.sound) :
    ∀ p ∈ updates a b o, p.2.sound := by
  induction o generalizing a with
  | nil => simp [updates]
  | cons sec rest ih =>
    intro p hp
    unfold updates at hp
    split at hp
    · exact ih a h p hp
    · rcases List.mem_cons.mp hp with rfl | hp
      · exact h
      · exact ih _ (a.put_sound b sec h) p hp

/-- So does the work that follows an event. -/
theorem settleUpdates_sound (n : Nat) (e : Fixed) (c : Core) : ∀ p ∈ settleUpdates n e c, p.2.sound := by
  induction n generalizing c with
  | zero => simp [settleUpdates]
  | succ n ih =>
    intro p hp
    unfold settleUpdates at hp
    split at hp
    · rcases List.mem_append.mp hp with hp | hp
      · exact updates_sound _ _ _ (storeOf_sound e c) p hp
      · exact ih _ p hp
    · simp at hp

/-! ### What a reset finds lost (R190) -/

/-- A store with some words spoiled is lost in those sections, and elsewhere as it was. -/
theorem Retained.spoils_valid (r : Retained) (l : List Section) (sec : Section) :
    (l.foldl Retained.spoil r).valid sec = (r.valid sec && !l.contains sec) := by
  induction l generalizing r with
  | nil => simp
  | cons x l ih =>
    rw [List.foldl_cons, ih]
    by_cases h : sec = x
    · subst h
      simp [Retained.spoil_lost]
    · simp [Retained.spoil_valid_other _ _ _ h, h]

/-- A sound store with some words spoiled is lost in those sections and in those that hold no values. -/
theorem lostSections_spoiled (r : Retained) (l : List Section) (h : r.sound) :
    lostSections (l.foldl Retained.spoil r) = Section.all.filter (fun sec => l.contains sec || !r.holds sec) := by
  unfold lostSections
  congr 1
  funext sec
  rw [Retained.spoils_valid, h sec]
  simp [Bool.not_and, Bool.or_comm]

/-- The store right after the first start is sound. -/
theorem reset_sound : State.reset.retained.sound := storeOf_sound State.reset.toFixed State.reset.toCore

end Sys2Proof.Machine
end

