-- ==== Sys2Proof/Tests/Slice0.lean ====
section
/-! SUPPORT. The model's own tests: an ill-formed command that each check of WellFormed refuses, the manual's worked figures, frames
spelled byte by byte, and for every statement with hypotheses a state and operands that meet them together. -/

namespace Sys2Proof.Tests

open Sys2Proof.Machine

-- Checked one after another: waiting for the kernel in many threads at once takes more memory than a check has.
set_option Elab.async false

/-! ### Helpers -/

/-- The state that a command leads to. -/
def after (c : Instr) (s : State) : State :=
  match exec c s with
  | .next t => t
  | _ => s

/-- A request of a link, its tag and its body bytes given as numbers. -/
def req (l : LinkId) (tag : Nat) (body : List Nat) : Request :=
  { link := l, tag := BitVec.ofNat 16 tag, body := body.map (BitVec.ofNat 8) }

/-- Bytes given as numbers. -/
def bytes (l : List Nat) : List Byte := l.map (BitVec.ofNat 8)

/-- A label of eight equal characters. -/
def label (n : Nat) : Label := List.replicate 8 (BitVec.ofNat 8 n)

/-- An EMPTY drive whose start probe has ended. -/
def bare : Drive := { Drive.atStart with state := .empty, probe := .ended }

/-- The part after a start with nothing in it: the mechanism settled, the four drives EMPTY, links 0 to 3 in the four roles. -/
def up : State := { State.reset with startPhase := .settled, picker := pickerFree, drives := Four.all bare }

/-- A FULL side of `n` numbers from `first`, one sector each. -/
def fullSide (seq first n : Nat) : SideRecord :=
  { state := .full, openSeq := some seq, firstRn := some first, lastRn := some (first + n - 1), entryCount := n,
    writePtr := 2 + n, voidCount := 0, flushed := (n + 31) / 32, sealReason := some .space, committedSectors := n }

/-- The OPEN side of `n` numbers from `first`, one sector each, `flushed` directory sectors on the platter. -/
def openedSide (seq first n flushed : Nat) : SideRecord :=
  { fullSide seq first n with
    state := .opened, lastRn := if n = 0 then none else some (first + n - 1), flushed, sealReason := none }

/-- A volume of a label at a location. -/
def volume (n : Nat) (loc : Location) (a b : SideRecord) : Volume := { label := some (label n), loc, sideA := a, sideB := b }

/-- Volume 1 HOME with the numbers 1 to 10 on its face A, volume 2 HOME with 21 to 30 on its OPEN face A (no directory sector
flushed), volume 3 OUT with 11 to 20, next_rn 100, the schedule set, the window OPEN. -/
def cabinet : State :=
  { up with
    volumes := ((up.volumes.set 0 (some (volume 65 .home (fullSide 1 1 10) .blank))).set 1
      (some (volume 66 .home (openedSide 3 21 10 0) .blank))).set 2 (some (volume 67 .out (fullSide 2 11 10) .blank))
    counter := some { nextRn := 100, day := 812 }
    tallyDay := 812
    schedule := { Schedule.unset with isSet := true }
    window := some 600 }

/-- A state with a drive's record given. -/
def withDrive (s : State) (d : DriveId) (x : Drive) : State := { s with drives := s.drives.set d x }

/-- Volume 1, face A, in a READY drive with no claim. -/
def loaded : Drive :=
  { bare with state := .ready, loaded := some ⟨0, .a⟩, presented := some .a, idle := some 120 }

/-- The cabinet with volume 1 in drive 0. -/
def mounted : State :=
  { withDrive cabinet 0 loaded with volumes := relocated cabinet.volumes 0 (.inDrive 0 .a) }

/-- A request of the SERVICE link with no body. -/
def service : Request := req 3 9 []

/-! ### WellFormed: each check refuses an ill-formed command -/

theorem test_rowMatches_refuses_a_move_of_the_other_direction :
    wellFormed (.moveSlotToDrive (req 3 1 [1, 2, 0, 0])) = false ∧
      wellFormed (.moveSlotToDrive (req 3 1 [1, 1, 0, 1])) = true := by decide

theorem test_bodyFits_refuses_a_long_body :
    wellFormed (.status (req 0 1 (List.replicate 1041 0))) = false ∧
      wellFormed (.status (req 0 1 (List.replicate 1040 0))) = true := by decide +kernel

theorem test_kindUnknown_refuses_a_known_kind :
    wellFormed (.unknownKindFrame 0x1F (req 0 1 [])) = false ∧
      wellFormed (.unknownKindFrame 0x20 (req 0 1 [])) = true := by decide

theorem test_wholeSectors_refuses_part_of_a_sector :
    wellFormed (.chunkReadComplete 0 (.good (bytes (List.replicate 1023 0)))) = false ∧
      wellFormed (.chunkReadComplete 0 (.good (bytes (List.replicate 1024 0)))) = true := by decide +kernel

theorem test_sectorOnSide_refuses_a_sector_past_copy_b :
    wellFormed (.restartFindBlankComplete 0 (.good 311296)) = false ∧
      wellFormed (.restartFindBlankComplete 0 (.good 311295)) = true := by decide

theorem test_fateOnce_refuses_a_section_lost_twice :
    wellFormed (.reset .powerOn ⟨0, 1, 2, 3⟩ levelsInactive { ended := none, inside := false, lost := [.counter, .counter] }) = false := by
  decide

/-! ### Frames spelled byte by byte (12-2, R198) -/

/-- Kind 1Dh STATUS, tag 0007h, no body, with its CRC-16 worked outside the model from R198's generator. -/
theorem test_a_status_frame_is_read : frameCommand 2 (bytes [0x1D, 0, 7, 0, 0, 0xB1, 0xBC]) = .status (req 2 7 []) := by
  decide +kernel

theorem test_a_wrong_check_is_discarded :
    frameCommand 2 (bytes [0x1D, 0, 7, 0, 0, 0, 0]) = .frameDiscarded 2 .badCheck ∧
      frameCommand 2 (bytes [0x1D, 0, 7, 0, 0, 0]) = .frameDiscarded 2 .truncated ∧
      frameCommand 2 (bytes [0x1D, 0, 7, 4, 17]) = .frameDiscarded 2 .oversize := by decide +kernel

/-- R198, R199: the two checks over the nine characters 1 to 9 are the published values of their generators. -/
theorem test_checks_of_the_nine_digits :
    crc16 (bytes [49, 50, 51, 52, 53, 54, 55, 56, 57]) = 0x29B1#16 ∧
      crc32 (bytes [49, 50, 51, 52, 53, 54, 55, 56, 57]) = 0xCBF43926#32 := by decide +kernel

/-! ### The manual's worked figures -/

/-- 6-5, cases 1 to 5: the cents of each. -/
theorem test_worked_fees :
    itemCents ⟨⟨0, 1000, 10, 500, 0, 5000, 0⟩, 2500⟩ .certified 14 0 true = 1950 ∧
      itemCents ⟨⟨0, 1125, 4095, 1, 0, 0, 0⟩, 0⟩ .plain 7 0 false = 788 ∧
      itemCents ⟨⟨2000, 0, 0, 0, 750, 0, 8000⟩, 0⟩ .search 0 12 false = 800 ∧
      itemCents ⟨⟨2000, 0, 0, 0, 750, 0, 8000⟩, 2500⟩ .search 0 12 true = 1050 ∧
      itemCents ⟨⟨9999999, 999999, 4095, 999999, 0, 9999999, 0⟩, 9999999⟩ .certified 4095 0 true = 412499590 ∧
      itemCents ⟨⟨9999999, 999999, 4095, 999999, 0, 9999999, 50000000⟩, 9999999⟩ .certified 4095 0 true = 6000000 := by
  decide +kernel

/-- R123's two amounts. -/
theorem test_worked_rounding : toCents 12344 = 1234 ∧ toCents 12345 = 1235 := by decide

/-- R132's example: 1,207 items and 999,999,500 cents, and an item of 788. -/
theorem test_worked_saturation :
    let t := ({ StationTally.zero with certified := ⟨1207, 999999500⟩ } : StationTally).add .certified 788
    t.certified = ⟨1208, 999999999⟩ ∧ t.saturated = true := by decide +kernel

/-- 7-6: the reports of stations 2, 3 and 7 against the tallies of stations 2, 3, 5 and 9. -/
theorem test_worked_close :
    let ts := (((zeroTallies.set 1 { StationTally.zero with plain := ⟨10, 7880⟩, certified := ⟨2, 3900⟩, search := ⟨1, 800⟩, courtesy := ⟨1, 0⟩ }).set 2
      { StationTally.zero with plain := ⟨4, 3152⟩ }).set 4 { StationTally.zero with courtesy := ⟨2, 0⟩ }).set 8
      { StationTally.zero with search := ⟨3, 2400⟩ }
    let res := closeResultOf ts 1204 false (some 60000) [⟨1, 12580⟩, ⟨2, 3000⟩, ⟨6, 500⟩]
    res.items = 23 ∧ res.cents = 18132 ∧ res.outstanding = 3 ∧
      res.discrepant = [⟨2, 3152, some 3000, .short⟩, ⟨6, 0, some 500, .exceeds⟩, ⟨8, 2400, none, .unreported⟩] := by
  decide +kernel

/-- 1-7, after event 7: five numbers resolved. -/
theorem test_worked_resolutions :
    let three : SideRecord := { openedSide 3 12041 261 9 with state := .full }
    let s : State :=
      { up with
        volumes := (up.volumes.set 0 (some (volume 65 .home (fullSide 1 1 12000) { fullSide 2 12001 40 with state := .suspect }))).set 1
          (some (volume 66 (.inDrive 0 .b) three (openedSide 4 12302 1 0)))
        counter := some { nextRn := 12304, day := 1 }
        pendingList := [{ rn := 12303, link := 1, desc := ⟨1, 1, 1, none, 1, 1, 0⟩, day := 1, time := none, state := .staged,
                          blocks := some [0], image := bytes [0] }] }
    let r := resolve s.toFixed s.toCore
    r 12040 = .onSide ⟨0, .b⟩ 39 ∧ r 12301 = .onSide ⟨1, .a⟩ 260 ∧ r 12302 = .onSide ⟨1, .b⟩ 0 ∧ r 12303 = .pending ∧
      r 12304 = .beyond := by
  decide +kernel

/-- 12-6, 4-8, 3-15: an image of 307,200 bytes takes 300 sectors, one of 70,000 takes 69, and a submission
of 100,000 bytes takes 98 frames and 4 blocks. -/
theorem test_worked_sizes :
    sectorsOf 307200 = 300 ∧ sectorsOf 70000 = 69 ∧ sectorsOf 100000 = 98 ∧ blocksOf 100000 = 4 := by decide

/-- R14: the range table lists the sides by ascending open sequence, so that of two faces whose ranges overlap the one opened first
gives the number. -/
theorem test_overlapping_ranges_are_taken_in_open_order :
    let s : State :=
      { cabinet with
        volumes := cabinet.volumes.set 0 (some (volume 65 .home { fullSide 5 1 10 with state := .suspect } (fullSide 4 5 10))) }
    resolve s.toFixed s.toCore 7 = .onSide ⟨0, .b⟩ 2 ∧ resolve s.toFixed s.toCore 4 = .onSide ⟨0, .a⟩ 3 := by decide +kernel

/-! ### Commands from reset -/

/-- The start that follows a reset which finds the sections `lost`. -/
def started (cause : StartCause) (straps : Four (BitVec 2)) (levels : Levels) (fate : StoreFate) (lost : List Section)
    (s : State) : State :=
  s.startFrom cause straps levels (s.storeFound cause fate) lost

/-- The start after a power rise, the links in the four roles and no input active, after a cut: `ended` updates of the last event
had ended, and the next was cut inside or not. -/
def cutAfter (ended : Nat) (inside : Bool) (lost : List Section) (s : State) : State :=
  started .powerOn ⟨0, 1, 2, 3⟩ levelsInactive { ended := some ended, inside, lost := [] } lost s

/-- R190: right after the first start every section is valid, and a reset whose command names two sections finds these two lost. -/
theorem test_reset_finds_the_sections_named :
    let found (lost : List Section) := State.reset.storeFound .powerOn { ended := none, inside := false, lost }
    lostSections (found []) = [] ∧ lostSections (found [.tallies, .volumes]) = [.volumes, .tallies] :=
  ⟨(lostSections_spoiled _ [] reset_sound).trans (by decide +kernel),
   (lostSections_spoiled _ [.tallies, .volumes] reset_sound).trans (by decide +kernel)⟩

/-- R193: a reset at power on, with nothing lost, from the state at reset. -/
theorem test_reset_from_reset :
    let t := started .powerOn ⟨0, 1, 2, 3⟩ levelsInactive { ended := none, inside := false, lost := [] } [] State.reset
    t.startRecord = ⟨.powerOn, [], [], 0⟩ ∧ t.counter = some ⟨1, 1⟩ ∧ t.alarms = [] ∧
      (t.links.get 3).role = .service := by decide +kernel

/-- R197 step 8: the start recovery with an empty gripper begins the four probes, and four drives without media end them. -/
theorem test_start_settles :
    let s := [Instr.startRecoveryRehomeDone false, .loadSpinUpComplete 0 .noMedia, .loadSpinUpComplete 1 .noMedia,
      .loadSpinUpComplete 2 .noMedia, .loadSpinUpComplete 3 .noMedia].foldl (fun s c => after c s) State.reset
    s.startPhase = .settled ∧ s.drives = Four.all bare ∧ s.picker = pickerFree := by decide +kernel

/-! ### Witnesses: the item computation, the tallies, the resolution

Each theorem from here on shows states and operands that meet the hypotheses of the statement it is named after, one for each
clause, at the ends of the ranges the clauses name. -/

/-- ItemAmountIsTheSumOfItsTerms: p at T, and one above it. -/
theorem witness_item_amount : (10 : Nat) ≤ 10 ∧ (10 : Nat) < 11 ∧ FeeClass.plain ≠ .search := by decide

/-- CapSurchargeAndRoundingAreTakenInOrder: the last digits 0, 4, 5 and 9, and a cap of 0 and of 1. -/
theorem witness_cap_and_rounding :
    toCents 10 = 1 ∧ toCents 14 = 1 ∧ toCents 15 = 2 ∧ toCents 19 = 2 ∧
      cappedAmount { ScheduleRecord.zero with k := 1 } 2 = 1 ∧ cappedAmount .zero 2 = 2 := by decide

/-- An item of one page at `p1` mills the page. -/
def item (p1 : Nat) (cls : FeeClass) (courtesy : Bool) (rn : Nat) : Item :=
  { station := 1, cls, courtesy, rn, pages := 1, steps := 0, offline := false, partialWalk := false,
    snap := ⟨⟨0, p1, 1, 0, 0, 0, 0⟩, 0⟩ }

/-- ItemFeeIsLimitedAndCourtesyDecided: 9,999,999 and 10,000,000 cents; a number in the courtesy list, one not in it, and an item
without the option. -/
theorem witness_item_fee :
    let c : Core := { cabinet.toCore with courtesy := ⟨[7, 8], some 812⟩ }
    (c.charge (item 99999994 .plain false 7)).2 = ⟨9999999, .plain, ⟨false, false, false⟩⟩ ∧
      (c.charge (item 99999995 .plain false 7)).2 = ⟨9999999, .plain, ⟨true, false, false⟩⟩ ∧
      (c.charge (item 10 .certified true 8)).2 = ⟨0, .courtesy, ⟨false, false, false⟩⟩ ∧
      (c.charge (item 10 .certified true 8)).1.courtesy.rns = [7] ∧
      (c.charge (item 10 .certified true 9)).2 = ⟨1, .certified, ⟨false, true, false⟩⟩ := by decide +kernel

/-- TallyIsTheLimitedSumOfItsItems: a record at both limits. -/
theorem witness_tally :
    let t : StationTally := { StationTally.zero with plain := ⟨65535, 999999999⟩ }
    (t.of .plain).count ≤ 65535 ∧ (t.of .plain).cents ≤ 999999999 ∧ (t.add .plain 0).saturated = true := by decide

/-- CloseResultHoldsSumsAndDiscrepancies: a station that matches, one below, one above, one without a report. -/
theorem witness_close_result :
    let ts := ((zeroTallies.set 0 { StationTally.zero with plain := ⟨1, 5⟩ }).set 1 { StationTally.zero with plain := ⟨1, 5⟩ }).set 2
      { StationTally.zero with plain := ⟨1, 5⟩ }
    (discrepancies ts [⟨0, 5⟩, ⟨1, 4⟩, ⟨3, 1⟩]).map (fun x => (x.station, x.flag)) = [(1, .short), (2, .unreported), (3, .exceeds)] := by
  decide +kernel

/-- ResolutionTakesTheFirstCheckThatApplies: 0 and next_rn; a number held; DEFERRED; the first and the last of a range; a number
between ranges and next_rn. -/
theorem witness_resolution :
    let s : State :=
      { cabinet with
        pendingList := [{ rn := 99, link := 1, desc := ⟨1, 1, 1, none, 1, 1, 0⟩, day := 812, time := none, state := .staged,
                          blocks := some [0], image := bytes [0] }] }
    let r := resolve s.toFixed s.toCore
    s.counter = some ⟨100, 812⟩ ∧ r 0 = .beyond ∧ r 100 = .beyond ∧ r 99 = .pending ∧
      resolve s.toFixed { s.toCore with rebuilding := true } 1 = .deferred ∧ r 1 = .onSide ⟨0, .a⟩ 0 ∧
      r 10 = .onSide ⟨0, .a⟩ 9 ∧ r 31 = .unrecorded ∧ r 98 = .unrecorded := by decide +kernel

/-! ### Witnesses: encodings -/

/-- RequestFramesReadBack: a body of the greatest length a frame carries. -/
theorem witness_request_frames : (List.replicate 1040 (255 : Byte)).length ≤ 1040 := by decide +kernel

/-- CustomerBodiesReadBack: every field at an end of its range. -/
theorem witness_customer_bodies :
    (let f : FetchFields := ⟨16, 4294967295, .certified, true, 3⟩
     (65535#16) ≠ 0 ∧ 1 ≤ f.station ∧ f.station ≤ 16 ∧ f.rn < 2 ^ 32 ∧ f.cls ≠ .search ∧
       (f.courtesy = true → f.cls = .certified) ∧ f.prio ≤ 3) ∧
    (let f : WalkRequest := ⟨1, 0, 255, 0xFFFE, true⟩
     1 ≤ f.station ∧ f.station ≤ 16 ∧ f.start < 2 ^ 32 ∧ 1 ≤ f.limit ∧ f.limit ≤ 255 ∧ f.stopKinds.getLsbD 0 = false) ∧
    (let d : Descriptor := ⟨16, 15, 4294967295, some 1, 4095, 2097152, 0xFFFFFFFF⟩
     1 ≤ d.station ∧ d.station ≤ 16 ∧ 1 ≤ d.kind ∧ d.kind ≤ 15 ∧ 1 ≤ d.parcel ∧ d.parcel < 2 ^ 32 ∧
       (∀ p ∈ d.prior, 1 ≤ p ∧ p < 2 ^ 32) ∧ d.pages ≤ 4095 ∧ 1 ≤ d.size ∧ d.size ≤ 2097152) ∧
    (let f : ResubmitFields := ⟨4294967295, 2097152, 1⟩
     f.rn < 2 ^ 32 ∧ 1 ≤ f.size ∧ f.size ≤ 2097152) := by decide

/-- OfficeBodiesReadBack: a schedule, sixteen reports, a counter and settings at the ends of their ranges. -/
theorem witness_office_bodies :
    (let top : ScheduleRecord := ⟨9999999, 999999, 4095, 999999, 999999, 9999999, 99999999⟩
     let s : Schedule := ⟨true, top, .zero, top, 9999999⟩
     s.legal ∧ s.isSet = true) ∧
    (let rs : List TillReport := (List.finRange 16).map (fun st => ⟨st, 999999999⟩)
     rs.length ≤ 16 ∧ (rs.map (·.station)).Nodup ∧ ∀ r ∈ rs, r.cents ≤ 999999999) ∧
    ((1 : Nat) ≤ 4294967295 ∧ (4294967295 : Nat) < 2 ^ 32 ∧ legalDay 65535) ∧
    ({ Settings.default with silence := ⟨0, 60, 0, 60⟩, debounce := 160, idle := 600, tMove := 65535 } : Settings).legal := by
  refine ⟨?_, by decide, by unfold legalDay; decide, ?_⟩
  · unfold Schedule.legal; decide
  · unfold Settings.legal; decide

/-- PlatterRecordsReadBack: a header, a seal and a full directory sector. -/
theorem witness_platter_records :
    (let h : Header := ⟨label 0x7E, .b, 65535, 4294967295⟩
     h.label.length = 8 ∧ (∀ b ∈ h.label, printable b = true) ∧ h.openSeq < 2 ^ 16 ∧ h.firstRn < 2 ^ 32) ∧
    ((∀ b ∈ some 4294967294, 1 ≤ b ∧ b < 2 ^ 32) ∧ (16384 : Nat) ≤ 16384) ∧
    (let x : DirEntry := ⟨15, 16, 4095, 65535, 2048, some 1, some 4294967295, some 86399, 310271, 2097152, 7⟩
     let es := List.replicate 32 x
     es.length ≤ 32 ∧ (∀ e ∈ es, e.legal) ∧ (31 : Nat) < 32) := by
  refine ⟨by decide, by decide, by decide, fun e h => ?_, by decide⟩
  obtain rfl := List.eq_of_mem_replicate h
  unfold DirEntry.legal legalDay
  refine ⟨by decide, by decide, by decide, by decide, by decide, by decide, ?_, ?_, ?_, by decide, by decide⟩ <;>
    intro p hp <;> injection hp <;> omega

/-! ### Witnesses: steps, and what holds of every command -/

/-- StepTakesTheFrontCommand, OutputListsGrowAtTheTail, EachValueHasItsWriters: a queue with a command, and its effect. -/
theorem witness_step :
    let s : State := { cabinet with pending := [.readSchedule (req 2 5 []), .frameSent 2] }
    s.pending = Instr.readSchedule (req 2 5 []) :: [.frameSent 2] ∧
      exec (.readSchedule (req 2 5 [])) s = .next (after (.readSchedule (req 2 5 [])) s) ∧
      ((after (.readSchedule (req 2 5 [])) s).links.get 2).out = [.result 5 (.schedule s.schedule)] :=
  ⟨rfl, rfl, by decide +kernel⟩

/-- EveryCommandGoesOnAndNoneBeforeADueReset: a state whose reset is due. -/
theorem witness_reset_due :
    (after (.frameSent 3) (after (.restart service) cabinet)).resetDue = true := by decide +kernel

/-- RequestsAreExaminedInOrder: a request of another role, and one of a wrong length. -/
theorem witness_examination :
    cabinet.resetDue = false ∧ RequestKind.fetch.permitted (cabinet.links.get 1).role = false ∧
      RequestKind.fetch.permitted (cabinet.links.get 0).role = true ∧
      RequestKind.fetch.lengthOk (req 0 1 [1, 2, 3]).body = false ∧
      ((after (.fetch (req 1 8 [])) cabinet).links.get 1).out = [.refused 8 .role] ∧
      ((after (.fetch (req 0 8 [1, 2, 3])) cabinet).links.get 0).out = [.refused 8 .format] := by decide +kernel

/-- FramesThatAreNoRequestAndFramesSent: a link with a frame to send. -/
theorem witness_frame_sent :
    let s := after (.status (req 0 1 [])) (after (.unknownKindFrame 0x40 (req 0 1 [])) cabinet)
    s.resetDue = false ∧ (s.links.get 0).out.length = 2 ∧ (s.links.get 0).out.head? = some (.refused 1 .format) ∧
      ((after (.frameSent 0) s).links.get 0).out.length = 1 := by decide +kernel

/-- A state whose sections carry their check words. -/
def matching (s : State) : State := { s with words := (valuesOf s.toFixed s.toCore).words }

/-- The cabinet with values and countdowns at an end of their ranges, an entry of the pending list in a block of the staging store,
a station's tallies at their limits, a courtesy list, and a second tick to come. -/
def atTheEnds : State :=
  matching
    { cabinet with
      clock := some 86399, window := some 43200, counter := some ⟨4294967295, 65535⟩, tallyDay := 65535,
      tallies := zeroTallies.set 15 { StationTally.zero with plain := ⟨65535, 999999999⟩, courtesy := ⟨65535, 0⟩ },
      courtesy := ⟨[4294967294], some 65535⟩,
      pendingList :=
        [{ rn := 4294967294, link := 1, desc := ⟨1, 1, 1, none, 1, 1, 0⟩, day := 65535, time := none, state := .staged,
           blocks := some [255], image := bytes [0] }],
      blockMap := List.replicate 255 false ++ [true],
      panel := { cabinet.panel with timers := { InputTimers.stopped with kLeft := some 160 } },
      pending := [.clockSecondTick] }

/-- The volumes of the cabinet are these three. -/
theorem cabinet_volumes (v : SlotId) (x : Volume) (h : cabinet.volumes[v] = some x) :
    (v = 0 ∧ x = volume 65 .home (fullSide 1 1 10) .blank) ∨ (v = 1 ∧ x = volume 66 .home (openedSide 3 21 10 0) .blank) ∨
      (v = 2 ∧ x = volume 67 .out (fullSide 2 11 10) .blank) := by
  have all : ∀ v : SlotId, cabinet.volumes[v] = if v = 0 then some (volume 65 .home (fullSide 1 1 10) .blank)
      else if v = 1 then some (volume 66 .home (openedSide 3 21 10 0) .blank)
      else if v = 2 then some (volume 67 .out (fullSide 2 11 10) .blank) else none := by decide +kernel
  rw [all v] at h
  split at h
  · exact .inl ⟨‹_›, (Option.some.inj h).symm⟩
  split at h
  · exact .inr (.inl ⟨‹_›, (Option.some.inj h).symm⟩)
  split at h
  · exact .inr (.inr ⟨‹_›, (Option.some.inj h).symm⟩)
  · cases h

/-- Their side records are in keeping with their states, and one side is OPEN. -/
theorem cabinet_table : legalTable cabinet.volumes := by
  refine ⟨fun v x f h => ?_, fun v w x y f g hv hw hx hy => ?_⟩
  · unfold SideRecord.legal
    obtain ⟨-, rfl⟩ | ⟨-, rfl⟩ | ⟨-, rfl⟩ := cabinet_volumes v x h <;> cases f <;> decide
  · obtain ⟨rfl, rfl⟩ | ⟨rfl, rfl⟩ | ⟨rfl, rfl⟩ := cabinet_volumes v x hv <;>
    obtain ⟨rfl, rfl⟩ | ⟨rfl, rfl⟩ | ⟨rfl, rfl⟩ := cabinet_volumes w y hw <;>
    cases f <;> cases g <;> first | exact ⟨rfl, rfl⟩ | exact absurd hx (by decide) | exact absurd hy (by decide)

/-- EveryStepKeepsTheRanges: that state, and a step from it. -/
theorem witness_ranges :
    atTheEnds.legal ∧ step atTheEnds = .next (after .clockSecondTick { atTheEnds with pending := [] }) := by
  refine ⟨⟨⟨⟨?_, ?_, ?_, ?_⟩, ?_, ?_, cabinet_table, ?_, ?_⟩, storeOf_sound _ _, ?_, ?_, ?_, ?_, ?_⟩, rfl⟩
  · unfold Settings.legal; decide
  · unfold Schedule.legal; decide
  · intro k hk; injection hk with h; subst h; unfold Counter.legal legalDay; decide
  · unfold legalDay; decide
  · unfold StationTally.legal
    have all : ∀ (st : Fin 16) (cls : TallyClass),
        ((atTheEnds.tallies[st].of cls).count ≤ 65535 ∧ (atTheEnds.tallies[st].of cls).cents ≤ 999999999) ∧
          atTheEnds.tallies[st].courtesy.cents = 0 ∧ atTheEnds.snapshot.stations[st] = StationTally.zero := by
      intro st cls
      cases cls <;> revert st <;> decide +kernel
    intro st
    refine ⟨⟨fun cls => (all st cls).1, (all st .plain).2.1⟩, ?_⟩
    have z : atTheEnds.retained.snapshot.stations[st] = StationTally.zero := (all st .plain).2.2
    rw [z]
    exact ⟨fun cls => by cases cls <;> decide, rfl⟩
  · unfold CourtesyList.legal; decide
  · unfold legalPending legalRn; decide
  · intro h; cases h
  · intro p h; cases h
  · refine ⟨?_, ?_, ?_, ?_, ?_, ?_, ?_⟩
    · intro n h; injection h; omega
    · intro n h; injection h; omega
    · intro i n h
      cases i <;> cases h
      decide
    · intro l n h
      have all : ∀ l : LinkId, ((atTheEnds.links.get l).timer.all (· ≤ 60)) = true := by decide
      simpa [h] using all l
    · intro d n h
      have all : ∀ d : DriveId, ((atTheEnds.drives.get d).idle.all (· ≤ 600)) = true := by decide
      simpa [h] using all d
    · intro d o h
      have all : ∀ d : DriveId, ((atTheEnds.drives.get d).op.all (·.timer ≤ 60)) = true := by decide
      simpa [h] using all d
    · intro n h; cases h
  · refine ⟨by decide, fun k hk => ?_, fun h => ?_⟩
    · injection hk with h; subst h; decide
    · rfl
  · have len : atTheEnds.blockMap.length = 256 := by decide +kernel
    have all : ∀ i < 256, atTheEnds.blockMap[i]? = some true ↔ i = 255 := by decide +kernel
    have owned : atTheEnds.owned = [255] := by decide +kernel
    refine ⟨len, by decide +kernel, fun i => ?_, by decide +kernel⟩
    rw [owned, List.mem_singleton]
    by_cases h : i < 256
    · exact all i h
    · rw [List.getElem?_eq_none (by omega)]
      exact ⟨fun h => (by cases h), by omega⟩
  · exact ⟨fun h => absurd rfl h, fun i rd h => by cases h⟩

/-- EveryStepKeepsNoticesAndAlarmsInOrder: a FILED notice of 16 records held, two alarms standing, and a step. -/
theorem witness_order :
    let filed := Notice.filed (List.replicate 16 ⟨1, ⟨0, .a⟩, none⟩) true
    let s : State :=
      { cabinet with
        links := cabinet.links.set 1 { cabinet.links.get 1 with held := [filed] }
        alarms := [.noBlank, .storeLost .pending]
        pending := [.status (req 1 1 [])] }
    s.orderly ∧ step s = .next (after (.status (req 1 1 [])) { s with pending := [] }) := by
  refine ⟨⟨fun l => ?_, by decide⟩, rfl⟩
  match l with
  | 0 => exact ⟨by decide, fun n h => by cases h⟩
  | 1 => exact ⟨by decide, fun n h => by cases h with | head => exact Nat.le_refl 16 | tail _ h => cases h⟩
  | 2 => exact ⟨by decide, fun n h => by cases h⟩
  | 3 => exact ⟨by decide, fun n h => by cases h⟩

/-- A FETCH of the cabinet: station 1, PLAIN, priority 0. -/
def fetchBody (rn : Nat) : List Nat := [1, 0, 0, 0, rn, 1, 0, 0]

/-- The state after the first command taken of each of several. -/
def runs (cs : List Instr) (s : State) : State := cs.foldl (fun s c => after c s) s

/-- The cabinet with a job for number 11, whose volume is OUT, under tag 1. -/
def waiting : State := after (.fetch (req 0 1 (fetchBody 11))) cabinet

/-- A job of link 0 that waits for the operator, by its tag. -/
def job (tag : Nat) : Job :=
  { freshJob cabinet (req 0 tag []) 1 11 .plain false 0 (some (⟨2, .a⟩, 0)) none none with
    state := .waitOperator, offline := true, acceptNo := tag }

/-- The cabinet with eight jobs of link 0, and a second tick to come. -/
def eightJobs : State :=
  { cabinet with queue := (List.range 8).map (fun i => job (i + 1)), nextAccept := 9, pending := [.clockSecondTick] }

/-- Two jobs of link 0 at work on the OPEN side in drive 1, the one with a READ in flight, and the engine's claim beside theirs; a third
job waits for the side of a mount operation, a fourth in a request. -/
def claimed : State :=
  let at_ (tag : Nat) (state : JobState) (side : Side) (d : Option DriveId) : Job :=
    { job tag with state, offline := false, side := some side, drive := d }
  { withDrive cabinet 1
      { bare with
        state := .ready, loaded := some ⟨1, .a⟩, presented := some .a, filingFlag := true, claims := 3,
        service := [⟨0, 1⟩, ⟨0, 2⟩], op := issued (.read 310272 1) (.jobDirectory ⟨0, 1⟩) } with
    volumes := relocated cabinet.volumes 1 (.inDrive 1 .a)
    engine := { Engine.atStart .mounting with claim := some 1 }
    queue := [at_ 1 .readingDirectory ⟨1, .a⟩ (some 1), at_ 2 .waitDrive ⟨1, .a⟩ (some 1), at_ 3 .waitMount ⟨0, .a⟩ none,
      at_ 4 .waitMount ⟨0, .b⟩ none]
    requests := [⟨.job ⟨0, 4⟩, ⟨0, .b⟩⟩]
    mounts := [{ target := .side ⟨0, .a⟩, requesters := [.job ⟨0, 3⟩], cls := 3, prio := 0, arrival := 1, drive := none,
                 step := .waiting }]
    nextAccept := 5, nextArrival := 2, pending := [.clockSecondTick] }

/-- Its claims are in order. -/
theorem claimed_claimsKept : claimed.claimsKept := by
  have serve : ∀ d : DriveId, (claimed.drives.get d).service.Nodup ∧
      (claimed.drives.get d).service = (claimed.queue.filter (fun j => decide (j.drive = some d))).map (·.id) ∧
      (claimed.drives.get d).claims = (claimed.drives.get d).service.length + (if claimed.engine.claim = some d then 1 else 0) ∧
      (claimed.drives.get d).op = if d = 1 then issued (.read 310272 1) (.jobDirectory ⟨0, 1⟩) else none := by decide +kernel
  refine ⟨fun d => ?_, by decide +kernel, by decide +kernel, ?_, by decide +kernel, by decide +kernel, by decide +kernel⟩
  · obtain ⟨nodup, jobs, count, op⟩ := serve d
    refine ⟨nodup, fun id => ?_, count, fun o id ho hu => ?_⟩
    · rw [jobs]
      simp only [State.holdsClaim, List.mem_map, List.mem_filter, decide_eq_true_eq]
      exact ⟨fun ⟨j, ⟨hj, hd⟩, hi⟩ => ⟨j, hj, hi, hd⟩, fun ⟨j, hj, hi, hd⟩ => ⟨j, ⟨hj, hd⟩, hi⟩⟩
    · rw [op] at ho
      split at ho
      · subst d
        cases ho
        obtain rfl : id = ⟨0, 1⟩ := by rcases hu with h | h <;> cases h; rfl
        exact ⟨_, .head _, rfl, rfl⟩
      · cases ho
  · intro id h
    have who : claimed.toCore.requesters = [.job ⟨0, 4⟩, .job ⟨0, 3⟩] := by decide
    rw [who] at h
    have : id = ⟨0, 4⟩ ∨ id = ⟨0, 3⟩ := by simpa using h
    obtain rfl | rfl := this <;> decide +kernel

/-- EveryStepKeepsTheWorkQueueInBounds: eight jobs of one link, and jobs and the engine at work on a drive; a step from each. -/
theorem witness_work_queue :
    eightJobs.queueBounded ∧ eightJobs.toCore.jobsOf 0 = 8 ∧
      step eightJobs = .next (after .clockSecondTick { eightJobs with pending := [] }) ∧
      claimed.queueBounded ∧ claimed.claimsKept ∧
      step claimed = .next (after .clockSecondTick { claimed with pending := [] }) :=
  ⟨⟨by decide +kernel, by decide +kernel, by decide +kernel, by decide +kernel, by decide +kernel⟩, by decide +kernel, rfl,
   ⟨by decide +kernel, by decide +kernel, by decide +kernel, by decide +kernel, by decide +kernel⟩, claimed_claimsKept, rfl⟩

/-! ### Witnesses: ACCOUNTS links and every role -/

/-- A request of the FILING link, the ACCOUNTS link. -/
def filing (body : List Nat) : Request := req 1 9 body
def accounts (body : List Nat) : Request := req 2 9 body

/-- SetScheduleReplacesTheSchedule: O at the end of its range, and one above it. -/
theorem witness_set_schedule :
    let zeros := List.replicate 84 0
    let good := accounts (zeros ++ [0, 152, 150, 127])
    let bad := accounts (zeros ++ [0, 152, 150, 128])
    From cabinet good.link .accounts ∧ good.body.length = 88 ∧ fieldNat good.body 84 4 = 9999999 ∧
      From cabinet bad.link .accounts ∧ bad.body.length = 88 ∧ fieldNat bad.body 84 4 = 10000000 ∧
      (ScheduleRecord.at_ good.body 0).inRange = true ∧ (after (.setSchedule good) cabinet).schedule.o = 9999999 ∧
      (after (.setSchedule bad) cabinet).schedule = cabinet.schedule :=
  ⟨⟨rfl, rfl⟩, rfl, by decide +kernel, ⟨rfl, rfl⟩, rfl, by decide +kernel, by decide +kernel, by decide +kernel, by decide +kernel⟩

/-- AccountsReadsAnswerTheValuesHeld: the bodies of the reads, and READ TALLY of 1, 2, 0 and 3. -/
theorem witness_accounts_reads :
    From cabinet 2 .accounts ∧ (accounts []).body = [] ∧ (accounts [1]).body = [1] ∧ (accounts [2]).body = [2] ∧
      ((0 : Byte) ≠ 1 ∧ (0 : Byte) ≠ 2) ∧ ((3 : Byte) ≠ 1 ∧ (3 : Byte) ≠ 2) ∧
      ((after (.readTally (accounts [2])) cabinet).links.get 2).out = [.result 9 (.tally true none false zeroTallies)] :=
  ⟨⟨rfl, rfl⟩, rfl, by decide, by decide, by decide, by decide, by decide +kernel⟩

/-- ReceptionAndClockAreSet: 0, 1, 720 and 721 minutes; 86,399 and 86,400 seconds. -/
theorem witness_reception_and_clock :
    From cabinet 2 .accounts ∧ fieldNat (accounts [0, 0]).body 0 2 = 0 ∧ fieldNat (accounts [0, 1]).body 0 2 = 1 ∧
      fieldNat (accounts [2, 208]).body 0 2 = 720 ∧ fieldNat (accounts [2, 209]).body 0 2 = 721 ∧
      fieldNat (accounts [0, 1, 81, 127]).body 0 4 = 86399 ∧ fieldNat (accounts [0, 1, 81, 128]).body 0 4 = 86400 ∧
      (after (.openReception (accounts [2, 208])) cabinet).window = some 43200 ∧
      (after (.closeReception (accounts [])) cabinet).window = none ∧
      (after (.setClock (accounts [0, 1, 81, 127])) cabinet).clock = some 86399 :=
  ⟨⟨rfl, rfl⟩, by decide +kernel⟩

/-- CloseDayClosesTheDay: reports of stations 1 and 16 while the window is CLOSED on the last day number, while it is OPEN, and
while COUNTER stands lost. -/
theorem witness_close_day :
    let r := accounts [2, 1, 0, 0, 0, 5, 16, 0, 0, 0, 0]
    let s : State := { cabinet with window := none, tallyDay := 65535, counter := some ⟨100, 65535⟩ }
    From s r.link .accounts ∧ RequestKind.closeDay.lengthOk r.body = true ∧ parseCloseDay r.body = some [⟨0, 5⟩, ⟨15, 0⟩] ∧
      s.counter = some ⟨100, 65535⟩ ∧ s.window = none ∧ cabinet.counter = some ⟨100, 812⟩ ∧ cabinet.window ≠ none ∧
      ({ cabinet with counter := none } : State).counter = none ∧
      (after (.closeDay r) s).counter = some ⟨100, 1⟩ ∧
      ((after (.closeDay r) cabinet).links.get 2).out = [.refused 9 .dayOpen] :=
  ⟨⟨rfl, rfl⟩, by decide +kernel⟩

/-- StatusShowsTheValuesHeld, StartRecordAndRestart: no hold, the link's own hold, and a hold of another link. -/
theorem witness_status_and_restart :
    cabinet.resetDue = false ∧ service.body = [] ∧ (cabinet.links.get service.link).role = .service ∧
      (∀ l ∈ [(3 : LinkId)], Hold.granted 3 = .granted l → l = service.link) ∧
      ({ cabinet with hold := .granted 2 } : State).hold = .granted 2 ∧ (2 : LinkId) ≠ service.link ∧
      ((after (.restart service) { cabinet with hold := .granted 2 }).links.get 3).out = [.refused 9 .held] ∧
      ((after (.restart service) { cabinet with hold := .granted 3 }).links.get 3).out = [.done 9 .restarting] := by
  decide +kernel

/-- SetNoticeMaskReleasesHeldNotices: the greatest mask byte, and one above it, on a link that holds a notice. -/
theorem witness_set_notice_mask :
    let n := Notice.alarm .noBlank true [.noBlank]
    let s : State := { cabinet with links := cabinet.links.set 2 { cabinet.links.get 2 with held := [n] } }
    s.resetDue = false ∧ (accounts [63]).body = [63] ∧ (s.links.get 2).active = true ∧ (63 : Byte).toNat < 64 ∧
      (accounts [64]).body = [64] ∧ 64 ≤ (64 : Byte).toNat ∧
      ((after (.setNoticeMask (accounts [8])) s).links.get 2).out =
        [.done 9 (.mask ⟨false, false, false, true, false, false⟩), .notice n] := by decide +kernel

/-! ### Witnesses: FILING links -/

/-- A SUBMIT of station 1, kind 3, parcel 7, prior number `prior`, no pages, `size` bytes, the CRC-32 of the byte A5h. -/
def submitBody (prior size : Nat) : List Nat :=
  [1, 3, 0, 0, 0, 7, 0, 0, 0, prior, 0, 0, 0, 0, size / 256, size % 256, 0x74, 0xBE, 0xB8, 0xEA]

/-- The descriptor it carries. -/
def submitted (prior : Option Nat) (size : Nat) : Descriptor := ⟨1, 3, 7, prior, 0, size, 0x74BEB8EA⟩

/-- SubmitBeginsATransferOrIsRefused: a SUBMIT whose prior number is next_rn − 1, and each refusal where no earlier one is due: a
section lost, the window CLOSED, a transfer under way, no free block, a prior number of next_rn. -/
theorem witness_submit :
    let r := filing (submitBody 99 1)
    From cabinet r.link .filing ∧ r.body.length = 20 ∧ Descriptor.parse r.body = some (submitted (some 99) 1) ∧
      cabinet.counter = some ⟨100, 812⟩ ∧ cabinet.pendingValid = true ∧ cabinet.window ≠ none ∧
      cabinet.transfers.get r.link = none ∧ cabinet.pendingList.length + cabinet.submissions < 16 ∧
      blocksOf (submitted (some 99) 1).size ≤ freeCount cabinet.blockMap ∧ 100 + cabinet.submissions ≤ 4294967294 ∧
      (∀ p ∈ (submitted (some 99) 1).prior, p < 100) ∧
      ({ cabinet with counter := none } : State).counter = none ∧ ({ cabinet with window := none } : State).window = none ∧
      (after (.submit r) cabinet).transfers.get r.link ≠ none ∧
      freeCount ({ cabinet with blockMap := List.replicate 256 true } : State).blockMap < 1 ∧
      Descriptor.parse (filing (submitBody 100 1)).body = some (submitted (some 100) 1) ∧
      ((after (.submit r) cabinet).links.get 1).out = [.accepted 9 (.frames 1)] ∧
      ((after (.submit (filing (submitBody 100 1))) cabinet).links.get 1).out = [.refused 9 .badLink] :=
  ⟨⟨rfl, rfl⟩, by decide +kernel⟩

/-- The cabinet with a submission of 1,025 bytes in transfer, and with one of the byte A5h. -/
def sendingTwo : State := { after (.submit (filing (submitBody 0 1025))) cabinet with resetDue := false }
def sendingOne : State := after (.submit (filing (submitBody 0 1))) cabinet

/-- DataFramesAreStoredInOrderUntilAbandoned: the first of two frames; the frame that should come second, a first frame too short; no
transfer, and another tag. -/
theorem witness_data :
    let first := filing ([0, 0] ++ List.replicate 1024 7)
    From sendingTwo 1 .filing ∧ (sendingTwo.transfers.get 1).map (·.tag) = some first.tag ∧ first.body.length = 1026 ∧
      (sendingTwo.transfers.get 1).map (fun t => (t.expected, t.nextSeq)) = some (2, 0) ∧
      fieldNat first.body 0 2 = 0 ∧ fieldNat (filing [0, 1, 7]).body 0 2 = 1 ∧ (filing [0, 0, 7]).body.length = 3 ∧
      cabinet.transfers.get 1 = none ∧ (req 1 8 [0, 0, 7]).tag ≠ first.tag ∧
      ((after (.data first) sendingTwo).transfers.get 1).map (fun t => (t.nextSeq, t.image.length)) = some (1, 1024) ∧
      (after (.data (filing [0, 0, 7])) sendingTwo).transfers.get 1 = none ∧
      (after (.abandon (filing [])) sendingTwo).blockMap = cabinet.blockMap :=
  ⟨⟨by decide +kernel, by decide +kernel⟩, by decide +kernel⟩

/-- The state after the receipt of number 100 on link 1. -/
def received : State := after (.data (filing [0, 0, 0xA5])) sendingOne

/-- LastDataFrameGivesTheReceipt: the only frame of a submission of one byte, good and bad, and the window CLOSED. -/
theorem witness_receipt :
    let r := filing [0, 0, 0xA5]
    From sendingOne r.link .filing ∧
      (sendingOne.transfers.get r.link).map (fun t => (t.tag, t.kind, t.nextSeq, t.expected, t.size)) =
        some (r.tag, .submission (submitted none 1), 0, 1, 1) ∧
      fieldNat r.body 0 2 = 0 ∧ r.body.length = 1 - 1024 * 0 + 2 ∧ sendingOne.counter = some ⟨100, 812⟩ ∧
      crc32 (r.body.drop 2) = 0x74BEB8EA ∧ sendingOne.window ≠ none ∧ crc32 (bytes [0xA4]) ≠ 0x74BEB8EA ∧
      ({ sendingOne with window := none } : State).window = none ∧
      received.counter = some ⟨101, 812⟩ ∧ received.pendingList.map (fun p => (p.rn, p.image)) = [(100, bytes [0xA5])] ∧
      ((after (.data r) { sendingOne with window := none }).links.get 1).out =
        [.accepted 9 (.frames 1), .refused 9 .closed] :=
  ⟨⟨by decide +kernel, by decide +kernel⟩, by decide +kernel⟩

/-- A pending entry of one byte in a state. -/
def entry (rn : Nat) (state : PendingState) : PendingEntry :=
  { rn, link := 1, desc := submitted none 1, day := 812, time := none, state,
    blocks := if state = .awaitingResubmit ∨ state = .withdrawn then none else some [0],
    image := if state = .awaitingResubmit ∨ state = .withdrawn then [] else bytes [0xA5] }

/-- The cabinet with entries 97 to 99, the head WRITING, the next AWAITING_RESUBMIT, the last STAGED. -/
def three : State :=
  { cabinet with
    pendingList := [entry 97 .writing, entry 98 .awaitingResubmit, entry 99 .staged]
    blockMap := true :: List.replicate 255 false }

/-- ResubmitAndWithdrawSettleAnEntry: the number that awaits, one in no entry, the last frame, with the entry there and gone;
WITHDRAW of a STAGED entry, of one that awaits, of the head, of a number in no entry. The refusals of a RESUBMIT: with a
transfer on the link, of a STAGED entry, of one with a resubmission on another link, with another CRC-32, without a free block.
-/
theorem witness_resubmit_and_withdraw :
    let crc := [0x74, 0xBE, 0xB8, 0xEA]
    let busy (l : LinkId) : State :=
      { three with
        transfers := three.transfers.set l (some ⟨5, .resubmission 98, 1, 0x74BEB8EA, 1, 0, [1], []⟩) }
    let out (s : State) (body : List Nat) := ((after (.resubmit (filing body)) s).links.get 1).out
    let r := filing ([0, 0, 0, 98, 0, 0, 0, 1] ++ crc)
    let none_ := filing ([0, 0, 0, 96, 0, 0, 0, 1] ++ crc)
    From three r.link .filing ∧ ResubmitFields.parse r.body = some ⟨98, 1, 0x74BEB8EA⟩ ∧ r.body.length = 12 ∧
      three.transfers.get 1 = none ∧
      three.pendingList.find? (fun p => p.rn == 98) = some (entry 98 .awaitingResubmit) ∧ three.resubmitting 98 = false ∧
      blocksOf 1 ≤ freeCount three.blockMap ∧ ResubmitFields.parse none_.body = some ⟨96, 1, 0x74BEB8EA⟩ ∧
      (∀ p ∈ three.pendingList, p.rn ≠ 96) ∧
      (let u := after (.resubmit r) three
       (u.transfers.get 1).map (fun t => (t.tag, t.kind, t.nextSeq, t.expected, t.size)) = some (9, .resubmission 98, 0, 1, 1) ∧
         (after (.data (filing [0, 0, 0xA5])) u).pendingList.map (·.state) = [.writing, .staged, .staged] ∧
         (let gone : State := { u with pendingList := [entry 97 .writing, entry 99 .staged] }
          let t := after (.data (filing [0, 0, 0xA5])) gone
          (∀ p ∈ gone.pendingList, p.rn ≠ 98) ∧ t.pendingList = gone.pendingList ∧ t.blockMap = three.blockMap ∧
            (t.links.get 1).out = [.accepted 9 (.frames 1), .refused 9 .badImage])) ∧
      (busy 1).transfers.get 1 ≠ none ∧ (busy 0).transfers.get 1 = none ∧ (busy 0).resubmitting 98 = true ∧
      out (busy 1) ([0, 0, 0, 98, 0, 0, 0, 1] ++ crc) = [.refused 9 .busy] ∧
      out three ([0, 0, 0, 96, 0, 0, 0, 1] ++ crc) = [.refused 9 .unknownRn] ∧
      out three ([0, 0, 0, 99, 0, 0, 0, 1] ++ crc) = [.refused 9 .mediaBusy] ∧
      out (busy 0) ([0, 0, 0, 98, 0, 0, 0, 1] ++ crc) = [.refused 9 .mediaBusy] ∧
      out three [0, 0, 0, 98, 0, 0, 0, 1, 0, 0, 0, 0] = [.refused 9 .badImage] ∧
      out three ([0, 0, 0, 98, 0, 0, 0, 2] ++ crc) = [.refused 9 .badImage] ∧
      out { three with blockMap := List.replicate 256 true } ([0, 0, 0, 98, 0, 0, 0, 1] ++ crc) = [.refused 9 .full] ∧
      (cabinet.links.get 3).role = .service ∧ (req 3 9 [0, 0, 0, 99]).body.length = 4 ∧
      (∀ p ∈ three.pendingList, p.rn ≠ fieldNat (req 3 9 [0, 0, 0, 96]).body 0 4) ∧
      (after (.withdraw (req 3 9 [0, 0, 0, 99])) three).pendingList.map (·.state) = [.writing, .awaitingResubmit, .withdrawn] ∧
      ((after (.withdraw (req 3 9 [0, 0, 0, 97])) three).links.get 3).out = [.refused 9 .mediaBusy] :=
  ⟨⟨rfl, rfl⟩, by decide +kernel⟩

/-! ### Witnesses: COUNTER links -/

/-- EstimateIsTheSumOfItsTerms: a volume OUT and one not off-line, no EMPTY drive and one; a side READY, with its idle SPIN DOWN in
flight, SPUN_DOWN. -/
theorem witness_estimate :
    cabinet.toCore.location 2 = some .out ∧ Location.out.offline = true ∧ cabinet.toCore.location 0 = some .home ∧
      Location.home.offline = false ∧ (∀ d, (cabinet.drives.get d).loaded ≠ some ⟨0, .a⟩) ∧
      (cabinet.drives.get 0).state = .empty ∧ mounted.toCore.driveOfSide ⟨0, .a⟩ = some 0 ∧
      estimate cabinet.toFixed cabinet.toCore (some ⟨0, .a⟩) = some 135 ∧
      estimate cabinet.toFixed cabinet.toCore (some ⟨2, .a⟩) = none ∧
      estimate mounted.toFixed mounted.toCore (some ⟨0, .a⟩) = some 5 ∧
      (let s := withDrive mounted 0 { loaded with op := issued .spinDown .idle, idle := none }
       estimate s.toFixed s.toCore (some ⟨0, .a⟩) = some 55) ∧
      (let s := withDrive mounted 0 { loaded with state := .spunDown }
       estimate s.toFixed s.toCore (some ⟨0, .a⟩) = some 55) := by decide +kernel

/-- A WALK of station 16 from a number, limit 255, no stop kind but 15, parcel-match set. -/
def walkBody (rn : Nat) : List Nat := [16, 0, 0, 0, rn, 255, 0x80, 0, 1]

/-- JobsAreAcceptedAndPlaced: a number whose volume is HOME, one whose volume is OUT, and one DEFERRED, by FETCH and by WALK. -/
theorem witness_jobs_accepted :
    let deferred : State := { cabinet with rebuilding := true }
    let r := resolve cabinet.toFixed cabinet.toCore
    From cabinet 0 .counter ∧ FetchFields.parse 1 (req 0 1 (fetchBody 10)).body = some ⟨1, 10, .plain, false, 0⟩ ∧
      WalkRequest.parse 1 (req 0 1 (walkBody 10)).body = some ⟨16, 10, 255, 0x8000, true⟩ ∧
      (req 0 1 (fetchBody 10)).body.length = 8 ∧ (req 0 1 (walkBody 10)).body.length = 9 ∧
      cabinet.schedule.isSet = true ∧ cabinet.queue = [] ∧ cabinet.toCore.jobsOf 0 < 8 ∧ r 10 = .onSide ⟨0, .a⟩ 9 ∧
      cabinet.toCore.offline 0 = false ∧ r 11 = .onSide ⟨2, .a⟩ 0 ∧ cabinet.toCore.offline 2 = true ∧
      resolve deferred.toFixed deferred.toCore 10 = .deferred ∧ waiting.queue = [job 1] ∧
      ((after (.fetch (req 0 1 (fetchBody 10))) cabinet).links.get 0).out = [.accepted 1 (.estimate (some 135))] ∧
      ((after (.walk (req 0 1 (walkBody 11))) cabinet).queue.map (fun j => (j.cls, j.state, j.station))) =
        [(.search, .waitOperator, 16)] :=
  ⟨⟨rfl, rfl⟩, by decide +kernel⟩

/-- The job of link 0, tag 1, for number 10, in a state; `d` is the drive it holds a claim on. -/
def fetchJob (state : JobState) (d : Option DriveId) : Job :=
  { freshJob cabinet (req 0 1 []) 1 10 .plain false 0 (some (⟨0, .a⟩, 9)) none none with state, drive := d }

/-- Volume 1 in drive 0 with the directory READ of that job in flight. -/
def readingDirectory : State :=
  { withDrive mounted 0
      { loaded with
        claims := 1, idle := none, service := [⟨0, 1⟩], op := issued (.read 310272 1) (.jobDirectory ⟨0, 1⟩) } with
    queue := [fetchJob .readingDirectory (some 0)], nextAccept := 2 }

/-- JobsAreRefusedInOrderAndCancelled: each refusal where no earlier one is due; CANCEL of a job that waits, of one with a READ in
flight, of a tag of no job. -/
theorem witness_jobs_refused_and_cancelled :
    let unset : State := { cabinet with schedule := .unset }
    let full := eightJobs
    let queued : State := { cabinet with queue := [fetchJob .waitMount none], requests := [⟨.job ⟨0, 1⟩, ⟨0, .a⟩⟩] }
    let out (c : Instr) (s : State) := ((after c s).links.get 0).out
    From cabinet 0 .counter ∧
      out (.fetch (req 0 1 (fetchBody 10))) unset = [.refused 1 .schedule] ∧
      out (.walk (req 0 1 (walkBody 10))) eightJobs = [.refused 1 .tagInUse] ∧
      out (.fetch (req 0 9 (fetchBody 10))) full = [.refused 9 .busy] ∧
      out (.fetch (req 0 1 (fetchBody 100))) cabinet = [.refused 1 .unknownRn] ∧
      out (.walk (req 0 1 (walkBody 98))) three = [.refused 1 .notYetFiled] ∧
      queued.toCore.job ⟨0, 1⟩ = some (fetchJob .waitMount none) ∧
      (after (.cancel (req 0 1 [])) queued).queue = [] ∧
      readingDirectory.toCore.job ⟨0, 1⟩ = some (fetchJob .readingDirectory (some 0)) ∧
      (readingDirectory.drives.get 0).op = issued (.read 310272 1) (.jobDirectory ⟨0, 1⟩) ∧
      out (.cancel (req 0 1 [])) readingDirectory = [.accepted 1 .empty] ∧ cabinet.toCore.job ⟨0, 1⟩ = none :=
  ⟨⟨rfl, rfl⟩, by decide +kernel⟩

/-! ### Witnesses: SERVICE links -/

/-- The orderer of a request of the SERVICE link, and of another link that the straps made a SERVICE link too. -/
def by3 : Orderer := ⟨3, 9⟩
def by2 : Orderer := ⟨2, 4⟩

/-- A state with the picker given. -/
def withPicker (s : State) (p : Picker) : State := { s with picker := p }

/-- The service MOVE of volume 1 to drive 2, face B, and its move. -/
def toDrive : ServiceMove := { by_ := by3, slot := 0, toDrive := true }
def toDriveMove : Move := serviceMoveOf cabinet (.slot 0) (.fixed (.drive 2 .b)) (some 3) (.service toDrive) (some 0)

/-- The cabinet with that move under way. -/
def moving : State :=
  { withDrive (withPicker cabinet (pickerIn (.move toDriveMove) none false)) 2 { bare with state := .loading, bound := some (.service toDrive) } with
    volumes := relocated cabinet.volumes 0 (.inPicker (.slot 0) (.drive 2 .b)) }

/-- HoldIsGrantedWaitsAndEnds: no hold and the picker IDLE, no hold and the picker MOVING, each hold of the link and of another. -/
theorem witness_hold :
    let of (h : Hold) : State := { cabinet with hold := h }
    let out (c : Instr) (s : State) := ((after c s).links.get 3).out
    From cabinet 3 .service ∧ cabinet.hold = .none ∧ cabinet.picker.state ≠ .moving ∧ moving.picker.state = .moving ∧
      moving.hold = .none ∧ (after (.hold service) cabinet).hold = .granted 3 ∧
      (after (.hold service) moving).hold = .waiting by3 ∧ out (.hold service) (of (.granted 3)) = [.done 9 .empty] ∧
      out (.hold service) (of (.granted 2)) = [.refused 9 .held] ∧ out (.hold service) (of (.waiting by3)) = [.accepted 9 .empty] ∧
      out (.hold service) (of (.waiting by2)) = [.refused 9 .held] ∧ (after (.release service) (of (.granted 3))).hold = .none ∧
      (after (.release service) (of (.waiting by3))).hold = .none ∧ out (.release service) cabinet = [.refused 9 .held] :=
  ⟨⟨rfl, rfl⟩, by decide +kernel⟩

/-- ServiceMoveIsTakenOrRefused: volume 1 HOME and drive 2 EMPTY; volume 1 in a READY drive, in a SPUN_DOWN one, in one whose idle
SPIN DOWN is in flight; a hold of another link, a vacant volume, a volume elsewhere. -/
theorem witness_service_move :
    let go := req 3 9 [1, 1, 2, 2]
    let back := req 3 9 [1, 2, 0, 0]
    let spinning := withDrive mounted 0 { loaded with op := issued .spinDown .idle, idle := none }
    let out (c : Instr) (s : State) := ((after c s).links.get 3).out
    From cabinet 3 .service ∧ MoveFields.parse go.body = some ⟨0, 2, some .b⟩ ∧ cabinet.hold = .none ∧
      cabinet.toCore.location 0 = some .home ∧ cabinet.selection = none ∧ cabinet.exportOp = none ∧
      ((cabinet.drives.get 2).state = .empty ∧ (cabinet.drives.get 2).unnamed = false ∧ (cabinet.drives.get 2).bound = none ∧
        (cabinet.drives.get 2).op = none) ∧
      (after (.moveSlotToDrive go) cabinet).picker.motion = some (.move { toDriveMove with arrival := 1 }) ∧
      MoveFields.parse back.body = some ⟨0, 0, none⟩ ∧ mounted.toCore.location 0 = some (.inDrive 0 .a) ∧
      ((mounted.drives.get 0).claims = 0 ∧ (mounted.drives.get 0).bound = none ∧ (mounted.drives.get 0).filingFlag = false) ∧
      ((after (.moveDriveToSlot back) mounted).drives.get 0).op = issued .spinDown .mechanism ∧
      ((after (.moveDriveToSlot back) (withDrive mounted 0 { loaded with state := .spunDown })).drives.get 0).op =
        issued .eject .mechanism ∧
      (spinning.drives.get 0).idleSpinDown = true ∧
      ((after (.moveDriveToSlot back) spinning).drives.get 0).op = issued .spinDown .idle ∧
      out (.moveSlotToDrive go) { cabinet with hold := .granted 2 } = [.refused 9 .held] ∧
      out (.moveSlotToDrive (req 3 9 [64, 1, 2, 2])) cabinet = [.refused 9 .noSuchVolume] ∧
      out (.moveSlotToDrive go) mounted = [.refused 9 .mediaBusy] ∧ out (.moveDriveToSlot back) cabinet = [.refused 9 .mediaBusy] :=
  ⟨⟨rfl, rfl⟩, by decide +kernel⟩

/-- The cabinet with that move HALTED by an opened front door that has closed. -/
def halted : State := withPicker moving { pickerIn (.move toDriveMove) none false with state := .halted }

/-- ResumeMechanismBeginsTheRecovery: a HALTED picker with a stop standing, an open front door, a picker that is not HALTED. -/
theorem witness_resume :
    let stopped : State := { halted with panel := { halted.panel with stop := true } }
    let door : State := { halted with panel := { halted.panel with level := { levelsInactive with frontDoor := true } } }
    From stopped 3 .service ∧ stopped.picker.state = .halted ∧ stopped.picker.motion = some (.move toDriveMove) ∧
      stopped.panel.level = levelsInactive ∧ stopped.hold = .none ∧ door.panel.level.frontDoor = true ∧
      cabinet.picker.state ≠ .halted ∧ (after (.resumeMechanism service) stopped).panel.stop = false ∧
      (after (.resumeMechanism service) stopped).picker = pickerIn (.recovery toDriveMove false) (some by3) false ∧
      ((after (.resumeMechanism service) door).links.get 3).out = [.refused 9 .held] ∧
      ((after (.resumeMechanism service) cabinet).links.get 3).out = [.done 9 (.media .done none)] :=
  ⟨⟨rfl, rfl⟩, by decide +kernel⟩

/-- The cabinet with the move of a FAULTED picker in it, and drive 0 FAULTED with volume 1, with nothing. -/
def pickerFaulted : State :=
  { withPicker moving { pickerIn (.move toDriveMove) none false with state := .faulted, stall := none, stalled := true } with
    alarms := [.pickerFault] }
def driveFaulted : State :=
  { withDrive mounted 0 { loaded with state := .faulted, idle := none } with alarms := [.driveFault 0] }
def emptyFaulted : State := { withDrive cabinet 0 { bare with state := .faulted } with alarms := [.driveFault 0] }

/-- ClearFaultProceeds: a drive FAULTED with a volume, with none, not FAULTED, being cleared, under a hold; a picker FAULTED, not
FAULTED, under an active key. -/
theorem witness_clear_fault :
    let r := req 3 9 [0]
    let p := req 3 9 [4]
    let out (c : Instr) (s : State) := ((after c s).links.get 3).out
    let clearing := after (.clearFaultDrive r) driveFaulted
    From cabinet 3 .service ∧ FaultTarget.parse r.body = some (.drive 0) ∧ p.body = [4] ∧
      ((emptyFaulted.drives.get 0).loaded = none ∧ (emptyFaulted.drives.get 0).unnamed = false) ∧
      (driveFaulted.drives.get 0).loaded ≠ none ∧ (clearing.drives.get 0).clearing ≠ none ∧
      (after (.clearFaultDrive r) emptyFaulted).drives.get 0 = bare ∧
      ((after (.clearFaultDrive r) driveFaulted).drives.get 0).op = issued .eject .mechanism ∧
      out (.clearFaultDrive r) cabinet = [.done 9 (.media .done none)] ∧
      out (.clearFaultDrive r) { emptyFaulted with hold := .granted 2 } = [.refused 9 .held] ∧
      out (.clearFaultDrive r) clearing = [.accepted 9 .empty, .refused 9 .mediaBusy] ∧
      pickerFaulted.picker.lateDone = false ∧ pickerFaulted.picker.motion = some (.move toDriveMove) ∧
      (after (.clearFaultPicker p) pickerFaulted).alarms = [] ∧
      (after (.clearFaultPicker p) pickerFaulted).picker = pickerIn (.recovery toDriveMove false) (some by3) true ∧
      out (.clearFaultPicker p) cabinet = [.done 9 (.media .done none)] ∧
      out (.clearFaultPicker p) { cabinet with panel := { cabinet.panel with level := { levelsInactive with kLeft := true } } } =
        [.refused 9 .held] :=
  ⟨⟨rfl, rfl⟩, by decide +kernel⟩

/-- The cabinet with an unidentified cartridge in the mailslot, and with volume 3 in it. -/
def inserted : State :=
  { cabinet with mailslot := .inserted, panel := { cabinet.panel with level := { levelsInactive with cartridgePresent := true } } }
def returned : State := { inserted with mailslot := .volume 2, volumes := relocated cabinet.volumes 2 .inMailslot }

/-- ImportAndExportBegin: an unidentified cartridge in the mailslot, a volume in it, the first under an emergency stop; the EXPORT of a volume
HOME, of one in a READY drive, in a SPUN_DOWN drive, in a drive UNLOADING. -/
theorem witness_import_and_export :
    let r := req 3 9 (List.replicate 8 0x7E)
    let x := req 3 9 [1]
    let stopped : State := { inserted with panel := { inserted.panel with stop := true } }
    let unloading := withDrive mounted 0 { loaded with state := .unloading, idle := none }
    From inserted 3 .service ∧ r.body.length = 8 ∧ (∀ b ∈ r.body, printable b = true) ∧ inserted.hold = .none ∧
      inserted.inventory = none ∧ inserted.importOp = none ∧ inserted.exportOp = none ∧
      inserted.panel.level.mailslotDoor = false ∧ inserted.panel.level.cartridgePresent = true ∧
      inserted.mailslot = .inserted ∧ returned.mailslot = .volume 2 ∧
      (after (.importCartridge r) inserted).importOp.map (·.phase) = some .mounting ∧
      (after (.importCartridge r) returned).importOp.map (·.phase) = some (.returning 2) ∧
      stopped.panel.level.cartridgePresent = true ∧ (after (.importCartridge r) stopped).mounts = [] ∧
      (after (.importCartridge r) stopped).importOp.map (·.phase) = some .requested ∧
      slotOf (fieldNat x.body 0 1) = some 0 ∧ cabinet.panel.level = levelsInactive ∧ cabinet.mailslot = .empty ∧
      cabinet.toCore.isOpen ⟨0, .a⟩ = false ∧ cabinet.toCore.isOpen ⟨0, .b⟩ = false ∧ cabinet.selection = none ∧
      cabinet.toCore.wanted 0 = false ∧ mounted.toCore.wanted 0 = false ∧ cabinet.toCore.location 0 = some .home ∧
      mounted.toCore.location 0 = some (.inDrive 0 .a) ∧
      (after (.exportVolume x) cabinet).exportOp = some ⟨by3, 0, none, true⟩ ∧
      ((after (.exportVolume x) mounted).drives.get 0).op = issued .spinDown .mechanism ∧
      ((after (.exportVolume x) (withDrive mounted 0 { loaded with state := .spunDown })).drives.get 0).op =
        issued .eject .mechanism ∧
      (unloading.drives.get 0).op = none ∧ unloading.toCore.wanted 0 = false ∧
      (after (.exportVolume x) unloading).exportOp = some ⟨by3, 0, none, false⟩ ∧
      ((after (.exportVolume x) unloading).links.get 3).out = [.accepted 9 .empty] :=
  ⟨⟨rfl, rfl⟩, by decide +kernel⟩

/-- InventoryStarts: nothing of its kind in progress, a hold of another link, an inventory that runs. -/
theorem witness_inventory :
    let runs := after (.inventory service) cabinet
    let out (s : State) := ((after (.inventory service) s).links.get 3).out
    From cabinet 3 .service ∧ cabinet.inventory = none ∧ cabinet.importOp = none ∧ cabinet.exportOp = none ∧
      runs.inventory ≠ none ∧ runs.inventory.map (·.probes[0]) = some .unprobed ∧
      out { cabinet with hold := .granted 2 } = [.refused 9 .held] ∧
      out runs = [.accepted 9 .empty, .refused 9 .mediaBusy] :=
  ⟨⟨rfl, rfl⟩, by decide +kernel⟩

/-- RestoreCounterRestores: next_rn above every number held and at the last one held, COUNTER lost; both sections valid; an inventory. -/
theorem witness_restore_counter :
    let lost : State := { cabinet with counter := none, alarms := [.storeLost .counter] }
    let r := req 3 9 [0, 0, 0, 31, 3, 45]
    let low := req 3 9 [0, 0, 0, 30, 3, 45]
    let out (s : State) (r : Request) := ((after (.restoreCounter r) s).links.get 3).out
    From lost 3 .service ∧ parseRestore r.body = some (31, 813) ∧ parseRestore low.body = some (30, 813) ∧
      lost.counter = none ∧ lost.inventory = none ∧ lost.pendingList = [] ∧
      (∀ p ∈ lost.toCore.sides, ∀ b ∈ p.2.lastRn, b < 31) ∧ (cabinet.counter ≠ none ∧ cabinet.pendingValid = true) ∧
      (after (.restoreCounter r) lost).counter = some ⟨31, 813⟩ ∧ (after (.restoreCounter r) lost).alarms = [] ∧
      out lost low = [.refused 9 .unknownRn] ∧ out cabinet r = [.refused 9 .format] ∧
      out { lost with inventory := (after (.inventory service) cabinet).inventory } r = [.refused 9 .mediaBusy] :=
  ⟨⟨rfl, rfl⟩, by decide +kernel⟩

/-- PanelAckAndSetConfigTakeEffect: latches set; settings at the ends of their ranges, and an idle time below its range. -/
theorem witness_panel_ack_and_set_config :
    let s : State := { cabinet with panel := { cabinet.panel with latches := ⟨true, false, false, false, true⟩ } }
    let good := req 3 9 ([60, 0, 10, 1, 160, 2, 88] ++ List.replicate 12 255)
    let bad := req 3 9 ([60, 0, 10, 1, 160, 0, 29] ++ List.replicate 12 255)
    From s 3 .service ∧ good.body.length = 19 ∧
      Settings.parse good.body = some ⟨⟨60, 0, 10, 1⟩, 160, 600, 65535, 65535, 65535, 65535, 65535, 65535⟩ ∧
      Settings.parse bad.body = none ∧
      ((after (.panelAck service) s).links.get 3).out = [.done 9 (.latches ⟨true, false, false, false, true⟩)] ∧
      ((after (.setConfig good) s).links.get 0).timer = some 60 ∧ ((after (.setConfig good) s).links.get 1).timer = none :=
  ⟨⟨rfl, rfl⟩, by decide +kernel⟩

/-! ### Witnesses: time, silence, panel -/

/-- SecondsAreCounted: the window at 0 and not, the clock at its last second, an idle timer at 0. -/
theorem witness_seconds :
    let s : State := { withDrive mounted 0 { loaded with idle := some 0 } with clock := some 86399, window := some 0 }
    s.resetDue = false ∧ s.secondCount < 4294967295 ∧ s.window = some 0 ∧ cabinet.window ≠ some 0 ∧
      ((s.drives.get 0).idle = some 0 ∧ (s.drives.get 0).state = .ready ∧ (s.drives.get 0).claims = 0 ∧
        (s.drives.get 0).op = none) ∧
      (mounted.drives.get 0).idle ≠ some 0 ∧ (after .clockSecondTick s).clock = some 0 ∧
      (after .receptionWindowExpiry s).window = none ∧
      ((after (.idleTimerExpiry 0) s).drives.get 0).op = issued .spinDown .idle := by decide +kernel

/-- LinksFallSilentAndWake: a link whose timer is at 0 with a notice behind the frame being sent and a job that has a READ in flight,
or ones that wait without a claim, a walk of two steps among them; a SILENT link. -/
theorem witness_silence :
    let n := Notice.alarm .noBlank true [.noBlank]
    let quiet (s : State) : State :=
      { s with links := s.links.set 0 { s.links.get 0 with timer := some 0, out := [.done 1 .empty, .notice n, .done 2 .empty] } }
    let reading := quiet readingDirectory
    let walk : WalkFields :=
      { start := 10, limit := 9, stopKinds := 0, parcelMatch := false, startParcel := none, steps := 2, next := some 9,
        stop := none }
    let walker : Job := { fetchJob .waitMount none with id := ⟨0, 2⟩, cls := .search, walk := some walk }
    let queued := quiet
      { cabinet with
        queue := [fetchJob .waitMount none, walker], requests := [⟨.job ⟨0, 1⟩, ⟨0, .a⟩⟩, ⟨.job ⟨0, 2⟩, ⟨0, .a⟩⟩] }
    reading.resetDue = false ∧ (reading.links.get 0).active = true ∧ (reading.links.get 0).timer = some 0 ∧
      (∀ j ∈ reading.queue, reading.toCore.job j.id = some j ∧ reading.toCore.readInFlight j = true) ∧
      (∀ j ∈ queued.queue, queued.toCore.job j.id = some j ∧ queued.toCore.readInFlight j = false ∧ j.drive = none ∧
        j.state ≠ .waitOperator) ∧
      (after (.silentEvent 0) queued).requests = [] ∧ (after (.silentEvent 0) queued).tallies[(0 : Fin 16)].search.count = 1 ∧
      (cabinet.links.get 0).timer ≠ some 0 ∧
      ((after (.silentEvent 0) reading).links.get 0).out = [.done 1 .empty] ∧
      ((after (.silentEvent 0) reading).links.get 0).held = [n] ∧
      (after (.silentEvent 0) reading).queue.map (·.cancelled) = [true] ∧ (after (.silentEvent 0) queued).queue = [] ∧
      ((after (.silentEvent 0) reading).links.get 0).active = false ∧
      ((after (.status (req 0 3 [])) (after (.silentEvent 0) reading)).links.get 0).active = true := by decide +kernel

/-- The cabinet with one input's raw level active and its debounce timer run out, and with a raw level inactive again. -/
def debounced (s : State) (i : Input) (active : Bool) : State :=
  { s with panel := { s.panel with raw := setLevel s.panel.raw i active, timers := s.panel.timers.put i (some 0) } }

/-- InputsAreDebounced, and 9-6's events: a level that agrees, one that differs with the timer stopped and running; the front door
and the second key while the picker is MOVING, one key, a cartridge put in, one taken out with no volume and with volume 3. -/
theorem witness_panel :
    let start := after (.rawInputChange .frontDoor true) cabinet
    let keys : State := { moving with panel := { moving.panel with level := { levelsInactive with kRight := true } } }
    let taken (s : State) := debounced s .cartridgePresent false
    cabinet.resetDue = false ∧ levelOf cabinet.panel.level .frontDoor = false ∧
      cabinet.panel.timers.of .frontDoor = none ∧ start.panel.timers.of .frontDoor = some 40 ∧
      (after (.rawInputChange .frontDoor true) start).panel.timers.of .frontDoor = some 40 ∧
      (after (.rawInputChange .frontDoor false) start).panel.timers.of .frontDoor = none ∧
      (after (.debouncedEdge .frontDoor) (debounced moving .frontDoor true)).picker.state = .halted ∧
      (after (.debouncedEdge .kLeft) (debounced keys .kLeft true)).panel.stop = true ∧
      (after (.debouncedEdge .kLeft) (debounced keys .kLeft true)).picker.state = .halted ∧
      (after (.debouncedEdge .kLeft) (debounced moving .kLeft true)).picker.state = .moving ∧
      (after (.debouncedEdge .cartridgePresent) (debounced cabinet .cartridgePresent true)).mailslot = .inserted ∧
      (∀ v, inserted.toCore.location v ≠ some .inMailslot) ∧
      (after (.debouncedEdge .cartridgePresent) (taken inserted)).mailslot = .empty ∧
      (∀ w, returned.toCore.location w = some .inMailslot ↔ w = 2) ∧
      (after (.debouncedEdge .cartridgePresent) (taken returned)).toCore.location 2 = some .out := by decide +kernel

/-! ### Witnesses: completions of drive operations -/

/-- An operation just issued is in flight. -/
theorem inFlight_of_issued (s : State) (d : DriveId) (k : OpKind) (u : OpUser) (h : (s.drives.get d).op = issued k u) :
    InFlight s d k u := ⟨60, h⟩

/-- A mount operation of arrival 1 with drive 0 chosen, and its load move from slot 2. -/
def mount (target : MountTarget) (requesters : List Requester) (step : MountStep) : MountOp :=
  { target, requesters, cls := 3, prio := 0, arrival := 1, drive := some 0, step }
def loadMove (src : Position) (dst : Dest) (v : SlotId) : Move :=
  { src, dst, cls := 3, prio := 0, arrival := 1, orderedBy := some 0, serves := .mount 1, carries := some v }

/-- Volume 1 in drive 0, EJECT in flight, with a binding. -/
def ejecting (b : Binding) : State :=
  withDrive mounted 0 { loaded with state := .unloading, idle := none, bound := some b, op := issued .eject .mechanism }

/-- The eviction of volume 1 for the load of volume 2's face A, and the swap of volume 1 to its face B. -/
def evicting : State :=
  { ejecting (.mount 1) with
    mounts := [mount (.side ⟨1, .a⟩) [.engine] .evicting]
    moves := [loadMove (.slot 1) (.fixed (.drive 0 .a)) 1], nextArrival := 2 }
def swapping : State :=
  { ejecting (.mount 1) with
    mounts := [mount (.side ⟨0, .b⟩) [.engine] .swapping]
    moves := [loadMove (.drive 0 .a) (.fixed (.drive 0 .b)) 0], nextArrival := 2 }

/-- Whether the picker carries out a move of this source, destination, class and arrival number. -/
def carriesOut (s : State) (src : Position) (dst : Dest) (cls arrival : Nat) : Bool :=
  match s.picker.motion with
  | some (.move m) => m.src == src && m.dst == dst && m.cls == cls && m.arrival == arrival
  | _ => false

/-- The service MOVE of volume 1 home. -/
def homeward : ServiceMove := { by_ := by3, slot := 0, toDrive := false }

/-- Drive 0 with SPIN DOWN in flight in a state, and with the EJECT of CLEAR FAULT. -/
def spinning (x : DriveState) : State :=
  withDrive mounted 0 { loaded with state := x, idle := none, op := issued .spinDown .mechanism }
def exporting : State := { ejecting .exporting with exportOp := some ⟨by3, 0, some 0, true⟩ }
def clearing (x : Drive) (s : State) : State :=
  { withDrive s 0 { x with state := .faulted, idle := none, clearing := some by3, op := issued .eject .mechanism } with
    alarms := [.driveFault 0] }

/-- UnloadingGoesOn: SPIN DOWN on a drive UNLOADING and on a READY one. -/
theorem witness_spin_down :
    ((spinning .unloading).drives.get 0).op = issued .spinDown .mechanism ∧ OpUser.mechanism ≠ .probe ∧
      (((after (.spinDownComplete 0) (spinning .unloading)).drives.get 0).op = issued .eject .mechanism) ∧
      ((after (.spinDownComplete 0) (spinning .ready)).drives.get 0).state = .spunDown := by decide +kernel

/-- UnloadingGoesOn: EJECT for an eviction, a swap, a service MOVE, an export, and for CLEAR FAULT of a drive with a volume and with
none. -/
theorem witness_eject :
    (evicting.drives.get 0).op = issued .eject .mechanism ∧ (evicting.drives.get 0).bound = some (.mount 1) ∧
      evicting.toCore.mount 1 = some (mount (.side ⟨1, .a⟩) [.engine] .evicting) ∧
      (evicting.drives.get 0).loaded = some ⟨0, .a⟩ ∧
      swapping.toCore.mount 1 = some (mount (.side ⟨0, .b⟩) [.engine] .swapping) ∧
      ((ejecting (.service homeward)).drives.get 0).presented = some .a ∧ exporting.exportOp = some ⟨by3, 0, some 0, true⟩ ∧
      carriesOut (after (.ejectComplete 0) evicting) (.drive 0 .a) (.fixed (.slot 0)) 1 1 = true ∧
      carriesOut (after (.ejectComplete 0) swapping) (.drive 0 .a) (.fixed (.drive 0 .b)) 3 1 = true ∧
      carriesOut (after (.ejectComplete 0) (ejecting (.service homeward))) (.drive 0 .a) (.fixed (.slot 0)) 4 1 = true ∧
      carriesOut (after (.ejectComplete 0) exporting) (.drive 0 .a) (.fixed .mailslot) 4 1 = true ∧
      carriesOut (after (.ejectComplete 0) (clearing loaded mounted)) (.drive 0 .a) (.fixed (.slot 0)) 4 1 = true ∧
      (after (.ejectComplete 0) (clearing bare cabinet)).drives.get 0 = bare ∧
      (after (.ejectComplete 0) (clearing bare cabinet)).alarms = [] := by decide +kernel

/-- UnloadingGoesOn: EJECT under the binding of an IMPORT and of an inventory, the mount operation of each under arrival number 7: the
turn, the way home and the way out carry that number. -/
theorem witness_eject_of_import_and_inventory :
    let by7 (t : MountTarget) : MountOp := { mount t [] .loading with arrival := 7 }
    let unnamed : Drive :=
      { bare with state := .unloading, unnamed := true, presented := some .a, op := issued .eject .mechanism }
    let import_ (p : ImportPhase) (s : State) : State :=
      { s with
        mounts := [by7 .importing], nextArrival := 9
        importOp := some { by_ := by3, label := label 0x7E, phase := p, drive := some 0, faceA := .blank } }
    let inventory (p : ReadingPhase) (s : State) : State :=
      { s with
        mounts := [by7 (.slotCartridge 0)], nextArrival := 9
        inventory := some
          { by_ := none, phase := .slots, probes := Vector.replicate 64 .occupied, assigned := [], reading := some
              { slot := some 0, drive := some 0, phase := p, scan := Scan.fresh, faceA := none, faceB := none },
            cursor := 4, rebuiltOpen := none, unsealedSeq := none, afterLoss := false, counts := ⟨0, 0, 0, 0, 0⟩ } }
    let ofImport := withDrive mounted 0 { unnamed with bound := some .importing }
    let ofInventory := withDrive mounted 0 { unnamed with bound := some .inventory }
    let ejected (s : State) := after (.ejectComplete 0) s
    (import_ .turning ofImport).mounts.find? (fun m => m.target == .importing) = some (by7 .importing) ∧
      (inventory .turning ofInventory).mounts.find? (fun m => match m.target with | .slotCartridge _ => true | _ => false) =
        some (by7 (.slotCartridge 0)) ∧
      carriesOut (ejected (import_ .turning ofImport)) (.drive 0 .a) (.fixed (.drive 0 .b)) 4 7 = true ∧
      carriesOut (ejected (import_ (.settingBack .foreign) ofImport)) (.drive 0 .a) (.fixed .mailslot) 4 7 = true ∧
      carriesOut (ejected (import_ (.goingHome 0 .returned) (ejecting .importing))) (.drive 0 .a) (.fixed (.slot 0)) 4 7 = true ∧
      carriesOut (ejected (inventory .turning ofInventory)) (.drive 0 .a) (.fixed (.drive 0 .b)) 4 7 = true ∧
      carriesOut (ejected (inventory .settingOut ofInventory)) (.drive 0 .a) (.fixed .mailslot) 4 7 = true ∧
      carriesOut (ejected (inventory (.goingHome 0) (ejecting .inventory))) (.drive 0 .a) (.fixed (.slot 0)) 4 7 = true ∧
      (ejected (import_ .turning ofImport)).nextArrival = 9 := by decide +kernel

/-- Volume 1 in drive 0, LOAD+SPIN UP in flight, with a binding. -/
def spinningUp (b : Option Binding) (second : Bool) : State :=
  withDrive mounted 0
    { loaded with state := .spinningUp, idle := none, bound := b, op := issued (.loadSpinUp second) .mechanism }

/-- The mount of side 1 for nobody, for the engine, for the job of number 10. -/
def mounting (requesters : List Requester) : State :=
  { spinningUp (some (.mount 1)) false with
    mounts := [mount (.side ⟨0, .a⟩) requesters .loading], queue := [fetchJob .waitMount none], nextArrival := 2 }

/-- LoadSpinUpMakesTheDriveReady: no binding, a service MOVE, a mount operation without a requester, of the engine, of a job; a first
LOAD+SPIN UP that is not GOOD. -/
theorem witness_load_spin_up :
    let load (s : State) := (after (.loadSpinUpComplete 0 .good) s)
    let m (r : List Requester) := mount (.side ⟨0, .a⟩) r .loading
    ((spinningUp none false).drives.get 0).op = issued (.loadSpinUp false) .mechanism ∧
      ((spinningUp none false).drives.get 0).bound = none ∧
      ((load (spinningUp none false)).drives.get 0).idle = some 120 ∧
      ((load (spinningUp (some (.service toDrive)) false)).links.get 3).out = [.done 9 (.media .done (some 0))] ∧
      (mounting []).toCore.mount 1 = some (m []) ∧ (mounting [.engine]).toCore.mount 1 = some (m [.engine]) ∧
      (mounting [.job ⟨0, 1⟩]).toCore.mount 1 = some (m [.job ⟨0, 1⟩]) ∧
      ((mounting []).drives.get 0).service = [] ∧ ((mounting []).drives.get 0).filingFlag = false ∧
      ((load (mounting [])).drives.get 0).state = .ready ∧
      ((load (mounting [.job ⟨0, 1⟩])).drives.get 0).op = issued (.read 310272 1) (.jobDirectory ⟨0, 1⟩) ∧
      (load (mounting [.job ⟨0, 1⟩])).queue.map (fun j => (j.state, j.drive)) = [(.readingDirectory, some 0)] ∧
      (FindResult.none ≠ .good 0) ∧ LoadResult.notReady ≠ .good ∧
      ((after (.loadSpinUpComplete 0 .notReady) (spinningUp none false)).drives.get 0).op =
        issued (.loadSpinUp true) .mechanism := by decide +kernel

/-- A state with the operation of drive 0 at its 60 s. -/
def overdue (s : State) (k : OpKind) (u : OpUser) : State :=
  withDrive s 0 { s.drives.get 0 with op := some { kind := k, user := u, timer := 0 } }

/-- FailedOperationFaultsTheDrive: a second LOAD+SPIN UP NOT_READY; a SPIN DOWN at 0 s and not, in a drive nothing claims and in one
that a service MOVE has bound; the EJECT of CLEAR FAULT at 0 s. -/
theorem witness_failed_operation :
    let late (n : Nat) := withDrive mounted 0 { loaded with op := some { kind := .spinDown, user := .mechanism, timer := n } }
    let service := overdue (spinning .unloading) .spinDown .mechanism
    let bound := withDrive service 0 { service.drives.get 0 with bound := some (.service homeward) }
    let clearing := overdue (clearing loaded mounted) .eject .mechanism
    let go (s : State) := after (.driveOperationTimeout 0) s
    (late 0).resetDue = false ∧ OpUser.mechanism ≠ .probe ∧
      ((late 0).drives.get 0).op = some { kind := .spinDown, user := .mechanism, timer := 0 } ∧
      ((late 0).drives.get 0).state ≠ .faulted ∧ (clearing.drives.get 0).clearing = some by3 ∧
      ((late 0).drives.get 0).bound = none ∧ (late 0).engine.claim ≠ some 0 ∧ (late 0).toCore.engineWaitsOn 0 = false ∧
      (late 0).queue = [] ∧ (go (late 0)).alarms = [.driveFault 0] ∧ (go (late 1)).alarms = [] ∧
      (after (.loadSpinUpComplete 0 .notReady) (spinningUp none true)).alarms = [.driveFault 0] ∧
      ((after (.loadSpinUpComplete 0 .notReady) (spinningUp none true)).drives.get 0).state = .faulted ∧
      ((go bound).links.get 3).out.head? = some (.done 9 (.media .faulted (some 0))) ∧
      ((go clearing).links.get 3).out = [.done 9 (.media .faulted none)] := by decide +kernel

/-- FailedOperationFaultsTheDrive: a READ at 0 s in a drive that a FETCH, a FETCH with the cancel mark, a walk of two steps claims. -/
theorem witness_failed_operation_of_a_job :
    let walk : WalkFields :=
      { start := 10, limit := 9, stopKinds := 0, parcelMatch := false, startParcel := none, steps := 2, next := some 9,
        stop := none }
    let j := fetchJob .readingDirectory (some 0)
    let s (j : Job) : State :=
      { overdue readingDirectory (.read 310272 1) (.jobDirectory ⟨0, 1⟩) with queue := [j], secondCount := 77 }
    let walker : Job := { j with cls := .search, walk := some walk }
    let go (j : Job) := after (.driveOperationTimeout 0) (s j)
    let told (j : Job) : Option (JobOutcome × Option StopReason × Nat) :=
      ((go j).links.get 0).out.head?.bind (fun f => match f with
        | .done _ (.job x) => some (x.outcome, x.stop, x.amount)
        | _ => none)
    j.drive = some 0 ∧ j.state ≠ .waitOperator ∧ (s j).toCore.job j.id = some j ∧
      (s walker).toCore.job walker.id = some walker ∧ (s j).engine.claim ≠ some 0 ∧ (s j).toCore.engineWaitsOn 0 = false ∧
      ((s j).drives.get 0).bound = none ∧ told j = some (.failed .driveFault, none, 0) ∧ (go j).queue = [] ∧
      told { j with cancelled := true } = some (.cancelled, none, 0) ∧
      ((go j).drives.get 0).lastUse = 77 ∧ told walker = some (.done, some .driveFault, 2) ∧ (go walker).tallies[(0 : Fin 16)].search.count = 1 := by
  decide +kernel

/-! ### Witnesses: the picker, and the start of the mechanism -/

/-- A state with a move under way that carries a volume to or from drive 0. -/
def carrying (s : State) (m : Move) (v : SlotId) (src dst : Position) : State :=
  { withPicker s (pickerIn (.move m) none false) with volumes := relocated s.volumes v (.inPicker src dst) }

/-- The load of volume 2 for the engine, the return of volume 1 for it, the service MOVE of volume 1 home, a probe of the first vacant slot. -/
def loadingTwo : State :=
  { carrying (withDrive cabinet 0 { bare with state := .loading, bound := some (.mount 1) })
      (loadMove (.slot 1) (.fixed (.drive 0 .a)) 1) 1 (.slot 1) (.drive 0 .a) with
    mounts := [mount (.side ⟨1, .a⟩) [.engine] .moving] }
def returnMove (serves : Serves) : Move :=
  { src := .drive 0 .a, dst := .fixed (.slot 0), cls := 1, prio := 0, arrival := 1, orderedBy := none, serves, carries := some 0 }
def returning : State :=
  { carrying evicting (returnMove (.evict 0)) 0 (.drive 0 .a) (.slot 0) with
    drives := evicting.drives.set 0 { bare with state := .unloading, bound := some (.mount 1) } }
def goingHome : State :=
  { carrying evicting (returnMove (.service homeward)) 0 (.drive 0 .a) (.slot 0) with
    drives := evicting.drives.set 0 { bare with state := .unloading, bound := some (.service homeward) }, mounts := [], moves := [] }
def probing : State := after (.inventory service) cabinet

/-- MoveDoneSetsTheCartridgeDown: a load, a service MOVE to a drive and one home, the return of an eviction, a probe of inventory. -/
theorem witness_move_done :
    let done (s : State) := after .pickerMoveDone s
    loadingTwo.picker.motion = some (.move (loadMove (.slot 1) (.fixed (.drive 0 .a)) 1)) ∧
      loadingTwo.toCore.location 1 = some (.inPicker (.slot 1) (.drive 0 .a)) ∧
      loadingTwo.toCore.mount 1 = some (mount (.side ⟨1, .a⟩) [.engine] .moving) ∧
      (done loadingTwo).toCore.location 1 = some (.inDrive 0 .a) ∧
      ((done loadingTwo).drives.get 0).filingFlag = true ∧
      moving.picker.motion = some (.move toDriveMove) ∧ moving.toCore.location 0 = some (.inPicker (.slot 0) (.drive 2 .b)) ∧
      ((done moving).drives.get 2).loaded = some ⟨0, .b⟩ ∧ (done halted).picker.state = .idle ∧
      (returning.drives.get 0).bound = some (.mount 1) ∧ returning.toCore.location 0 = some (.inPicker (.drive 0 .a) (.slot 0)) ∧
      (done returning).toCore.location 0 = some .home ∧
      (done returning).picker.motion = some (.move (loadMove (.slot 1) (.fixed (.drive 0 .a)) 1)) ∧
      goingHome.toCore.location 0 = some (.inPicker (.drive 0 .a) (.slot 0)) ∧ (done goingHome).drives.get 0 = bare ∧
      ((done goingHome).links.get 3).out = [.done 9 (.media .done (some 0))] ∧
      (probing.picker.motion.map (fun m => match m with | .move m => m.serves == .inventoryProbe 3 | _ => false)) = some true ∧
      ((after (.inventoryProbeDone true) probing).inventory.map (·.probes[3])) = some .occupied := by decide +kernel

/-- The load of volume 2's face A that waits for a drive, and the swap of volume 1 to its face B, in a state. -/
def toLoad : Move := loadMove (.slot 1) (.anyDrive .a) 1
def toSwap : Move := loadMove (.drive 0 .a) (.fixed (.drive 0 .b)) 0
def waitsFor (m : Move) (s : State) : State :=
  { s with
    mounts := [{ mount (.side ⟨1, .a⟩) [.engine] .waiting with drive := none }], moves := [m], nextArrival := 2 }

/-- Volume 1 READY in drive 0 and an unidentified cartridge in drives 2 and 3, with drive 1 as given. -/
def noneFree (x : Drive) : State :=
  let unnamed : Drive := { loaded with loaded := none, unnamed := true, idle := none }
  withDrive (withDrive (withDrive mounted 1 x) 2 unnamed) 3 unnamed

/-- Volume 3 SPUN_DOWN in drive 1, used last at a second. -/
def third (lastUse : Nat) : Drive := { loaded with loaded := some ⟨2, .a⟩, state := .spunDown, idle := none, lastUse }

/-- UnloadingGoesOn: the take of a load with drives 0 and 1 EMPTY, with drives 0 and 1 evictable and used at one second or drive 1
earlier, with no drive; of a swap. -/
theorem witness_take :
    let took (m : Move) (s : State) : Core := (waitsFor m s).toCore.take m
    let quiet (x : Drive) := x.claims = 0 ∧ x.bound = none ∧ x.op = none ∧ x.unnamed = false ∧ x.filingFlag = false
    let used (n k : Nat) : State := withDrive (noneFree (third n)) 0 { loaded with lastUse := k }
    let faulted := noneFree { bare with state := .faulted }
    let none_ := withDrive faulted 0 { loaded with claims := 1 }
    toLoad.serves = .mount 1 ∧ toLoad.dst = .anyDrive .a ∧ toLoad.carries = some 1 ∧
      cabinet.toCore.location 1 = some .home ∧
      ((took toLoad cabinet).drives.get 0).state = .loading ∧ ((took toLoad cabinet).drives.get 0).bound = some (.mount 1) ∧
      (took toLoad cabinet).picker.motion = some (.move { toLoad with dst := .fixed (.drive 0 .a) }) ∧
      (∀ d, ((used 4 4).drives.get d).state ≠ .empty) ∧ (used 4 4).selection = none ∧
      (∀ d : DriveId, d < 2 → quiet ((used 4 4).drives.get d)) ∧
      ((took toLoad (used 4 4)).drives.get 0).op = issued .spinDown .mechanism ∧
      ((took toLoad (used 4 5)).drives.get 1).op = issued .eject .mechanism ∧
      ((took toLoad (used 4 5)).drives.get 1).state = .unloading ∧
      (took toLoad (used 4 5)).moves = [{ toLoad with dst := .fixed (.drive 1 .a) }] ∧
      (∀ d, (none_.drives.get d).claims = 0 → (none_.drives.get d).state = .faulted ∨ (none_.drives.get d).unnamed = true) ∧
      startable none_.toFixed (waitsFor toLoad none_).toCore toLoad = false ∧
      (waitsFor toLoad none_).toCore.mount 1 ≠ none ∧
      toSwap.dst = .fixed (.drive 0 .b) ∧ toSwap.src = .drive 0 .a ∧
      ((took toSwap mounted).drives.get 0).op = issued .spinDown .mechanism ∧
      (took toSwap mounted).mounts.map (·.step) = [.swapping] := by decide +kernel

/-- MoveDoneSetsTheCartridgeDown: moves that differ in class, in priority, in arrival alone; none startable under a waiting hold; a
move that may start under the hold of its link; a picker that rests, one behind an open door; a start from a drive to the mailslot. -/
theorem witness_arbiter :
    let out (src : Position) (cls prio arrival : Nat) : Move :=
      { src, dst := .fixed .mailslot, cls, prio, arrival, orderedBy := some 3, serves := .exportOut, carries := some 0 }
    let with_ (ms : List Move) : State := { cabinet with moves := ms }
    let chosen (ms : List Move) := (chooseMove cabinet.toFixed (with_ ms).toCore).map (fun m => (m.cls, m.prio, m.arrival))
    let a := out (.slot 0)
    let one (h : Hold) : State := { with_ [a 4 0 1] with hold := h }
    let door : State := { one .none with panel := { cabinet.panel with level := { levelsInactive with frontDoor := true } } }
    let starts (s : State) (m : Move) := startable s.toFixed s.toCore m
    let fromDrive : State := withDrive { mounted with moves := [out (.drive 0 .a) 4 0 1] } 0 { loaded with state := .unloading }
    let t := fromDrive.toCore.take (out (.drive 0 .a) 4 0 1)
    chosen [a 3 9 1, a 4 0 2, a 4 1 4, a 4 1 3] = some (4, 1, 3) ∧
      chooseMove cabinet.toFixed (one (.waiting by3)).toCore = none ∧ starts (one (.waiting by3)) (a 4 0 1) = false ∧
      starts (one (.granted 3)) (a 4 0 1) = true ∧ starts (one (.granted 2)) (a 4 0 1) = false ∧
      cabinet.startPhase = .settled ∧ starts { one .none with startPhase := .probing } (a 4 0 1) = false ∧
      starts { one .none with mailslot := .inserted } (a 4 0 1) = false ∧
      (arbiterStep cabinet.toFixed (one .none).toCore).isSome = true ∧
      (arbiterStep door.toFixed door.toCore).isSome = false ∧
      fromDrive.toCore.location 0 = some (.inDrive 0 .a) ∧ t.mailslot = .reserved ∧ t.moves = [] ∧
      t.location 0 = some (.inPicker (.drive 0 .a) .mailslot) ∧ (t.drives.get 0).loaded = none ∧
      t.picker = pickerIn (.move (out (.drive 0 .a) 4 0 1)) none false := by decide +kernel

/-- An IMPORT of the SERVICE link in a phase, with drive 0; an unidentified cartridge on its way, and volume 1, for an operation. -/
def importOf (phase : ImportPhase) : ImportOp := { by_ := by3, label := label 0x7E, phase, drive := some 0, faceA := .blank }
def unnamedMove (src dst : Position) (serves : Serves) (s : State) : State :=
  withPicker (withDrive s 0 { bare with state := .unloading, presented := some .a, bound := some .importing })
    (pickerIn (.move { returnMove serves with src, dst := .fixed dst, cls := 4, carries := none }) none false)
def homeMove (serves : Serves) (x : Drive) (s : State) : State :=
  carrying (withDrive s 0 { x with state := .unloading, presented := some .a }) { returnMove serves with cls := 4 } 0 (.drive 0 .a)
    (.slot 0)

/-- MoveDoneSetsTheCartridgeDown: the volume of an IMPORT from the mailslot, with a job that waits and a waiting hold; the home moves
of an IMPORT, CLEAR FAULT and inventory; an EXPORT from the slot and from the drive; a turn; the fetch of an IMPORT's cartridge and of
an inventory's; a cartridge set back FOREIGN and LABEL_IN_USE, and one set out. -/
theorem witness_operations_done :
    let done (s : State) := after .pickerMoveDone s
    let told (s : State) := (s.links.get 3).out
    let reading : Reading :=
      { slot := some 3, drive := none, phase := .mounting, scan := Scan.fresh, faceA := none, faceB := none }
    let inv : Inventory :=
      { by_ := some by3, phase := .slots, probes := Vector.replicate 64 .occupied, assigned := [], reading := some reading,
        cursor := 4, rebuiltOpen := none, unsealedSeq := none, afterLoss := false, counts := ⟨0, 0, 0, 0, 0⟩ }
    let importing (p : ImportPhase) (s : State) : State := { s with importOp := some (importOf p) }
    let inventory (s : State) : State := { s with inventory := some inv }
    let returned : State :=
      importing (.returning 2)
        { carrying waiting { toDriveMove with src := .mailslot, dst := .fixed (.slot 2), serves := .importReturn, carries := some 2 }
            2 .mailslot (.slot 2) with hold := .waiting by2 }
    let wakes (s : State) := s.queue.map s.toCore.wakes
    let standing (t : MountTarget) (s : State) : State := { s with mounts := [mount t [] .loading] }
    let home := done (standing .importing <| importing (.goingHome 0 .enrolled) (homeMove .importHome { bare with bound := some .importing } cabinet))
    let cleared := done (homeMove (.clearReturn 0) { bare with clearing := some by3 } cabinet)
    let back :=
      done (standing (.slotCartridge 0) <| inventory (homeMove .inventoryHome { bare with bound := some .inventory } cabinet))
    let exported (src : Position) : State :=
      { carrying cabinet { returnMove .exportOut with src, dst := .fixed .mailslot, cls := 4 } 0 src .mailslot with
        exportOp := some ⟨by3, 0, some 0, true⟩, mailslot := .reserved }
    let turned := done (importing .turning (unnamedMove (.drive 0 .a) (.drive 0 .b) .importTurn cabinet))
    let fetched (src : Position) (target : MountTarget) (s : State) : State :=
      done { unnamedMove src (.drive 0 .a) (.mount 1) s with mounts := [mount target [] .moving] }
    let taken := fetched .mailslot .importing (importing .mounting cabinet)
    let probed := fetched (.slot 3) (.slotCartridge 3) (inventory cabinet)
    let set (o : MediaOutcome) := done (importing (.settingBack o) (unnamedMove (.drive 0 .a) .mailslot (.importBack o) cabinet))
    let out := done (inventory (unnamedMove (.drive 0 .a) .mailslot .inventoryOut cabinet))
    returned.exportOp = none ∧ returned.alarms = [] ∧ returned.queueBounded ∧ waitingOn returned 2 = [job 1] ∧ wakes returned = [true] ∧
      told (done returned) = [.done 9 (.media .returned (some 2))] ∧
      ((done returned).links.get 3).held = [.operatorNeeded 2 (some (label 67)) 0] ∧
      (done returned).queue.map (·.state) = [.waitMount] ∧ (done returned).hold = .granted 2 ∧ (done returned).importOp = none ∧
      home.importOp = none ∧ home.mounts = [] ∧ home.drives.get 0 = bare ∧ told home = [.done 9 (.media .enrolled (some 0))] ∧
      (cleared.drives.get 0).clearing = none ∧ told cleared = [.done 9 (.media .cleared none)] ∧
      back.toCore.location 0 = some .home ∧ back.mounts.all (fun m => m.step != .loading) = true ∧ (back.inventory.bind (·.reading)).map (·.slot) = some (some 4) ∧
      told (done (exported (.slot 0))) = [.done 9 (.media .exported (some 0))] ∧
      (done (exported (.slot 0))).mailslot = .volume 0 ∧ (done (exported (.drive 0 .a))).toCore.location 0 = some .inMailslot ∧
      (turned.drives.get 0).presented = some .b ∧ (turned.drives.get 0).op = issued (.loadSpinUp false) .mechanism ∧
      (taken.drives.get 0).bound = some .importing ∧ taken.mounts.map (·.step) = [.loading] ∧
      probed.mounts.map (·.step) = [.loading] ∧ (probed.drives.get 0).bound = some .inventory ∧
      told (set .foreign) = [.done 9 (.media .foreign none)] ∧ (set .foreign).alarms = [.foreignCartridge] ∧
      (set .labelInUse).mailslot = .rejected .labelInUse ∧ (set .labelInUse).alarms = [] ∧
      out.mailslot = .rejected .foreign ∧ out.inventory.map (·.counts.setAside) = some 1 := by
  unfold State.queueBounded
  decide +kernel

/-- FailedMotionFaultsAndRecoveryReturns: a MOVING and a HALTED picker, a stall timer at 0 and not, a stalled move, one that failed
without a stall; the recovery of a mount's move and of a service MOVE by RESUME MECHANISM and by CLEAR FAULT, before and after the
return. -/
theorem witness_failed_motion :
    let stalled : State := withPicker moving { pickerIn (.move toDriveMove) none false with stall := some 0 }
    let recovering (m : Move) (back clearing : Bool) (s : State) : State :=
      withPicker s (pickerIn (.recovery m back) (some by3) clearing)
    let mountMove := loadMove (.slot 1) (.fixed (.drive 0 .a)) 1
    moving.picker.state = .moving ∧ halted.picker.state = .halted ∧ stalled.picker.stall = some 0 ∧
      moving.picker.stall ≠ some 0 ∧ pickerFaulted.picker.stalled = true ∧ toDriveMove.isProbe = false ∧
      (after .pickerMoveFailed moving).alarms = [.pickerFault] ∧ (after .pickerMoveFailed halted).picker.state = .faulted ∧
      (after .pickerStall stalled).picker.stalled = true ∧ (after .pickerStall moving).alarms = [] ∧
      (after .lateMoveDone pickerFaulted).picker.lateDone = true ∧
      (after .lateMoveDone (after .pickerMoveFailed moving)).picker.lateDone = false ∧
      (after (.recoveryRehomeDone true) (recovering toDriveMove false false moving)).picker.motion =
        some (.recovery toDriveMove true) ∧
      toDriveMove.carries = some 0 ∧ toDriveMove.src = .slot 0 ∧ toDriveMove.dst = .fixed (.drive 2 .b) ∧
      mountMove.serves = .mount 1 ∧
      (after .recoveryReturnDone (recovering mountMove true false loadingTwo)).picker.motion = some (.move mountMove) ∧
      (after .recoveryReturnDone (recovering toDriveMove true false moving)).picker.motion = some (.move toDriveMove) ∧
      (after (.recoveryRehomeDone false) (recovering toDriveMove false true moving)).toCore.location 0 = some .home ∧
      ((after (.recoveryRehomeDone false) (recovering toDriveMove false true moving)).links.get 3).out =
        [.done 9 (.media .failed (some 0)), .done 9 (.media .done none)] := by decide +kernel

/-- FailedMotionFaultsAndRecoveryReturns, StartRecoverySettlesTheGripper: with the front door open, the DONEs of a recovery halted
under way, by parts, of the re-home after a late DONE, of a start recovery so halted, and of one that never began. -/
theorem witness_halted_recovery :
    let door (s : State) : State := { s with panel := { s.panel with level := { levelsInactive with frontDoor := true } } }
    let halt (s : State) (m : Motion) : State := withPicker (door s) { pickerIn m none false with state := .halted }
    let held := halt moving (.recovery toDriveMove false)
    let back := after .recoveryReturnDone (after (.recoveryRehomeDone true) held)
    let start := State.reset
    let unbegun := withPicker (door start) { (pickerIn (.start .rehome) none false) with state := .halted, stall := none }
    held.resetDue = false ∧ held.picker.state = .halted ∧ held.picker.stall = some 30 ∧
      (after (.recoveryRehomeDone true) held).picker.motion = some (.recovery toDriveMove true) ∧
      (after (.recoveryRehomeDone true) held).picker.state = .halted ∧
      back.picker = pickerFree ∧ back.moves = [toDriveMove] ∧ back.toCore.location 0 = some .home ∧
      (back.links.get 3).out = [] ∧ (after (.recoveryRehomeDone false) held).picker = pickerFree ∧
      (after (.recoveryRehomeDone false) (halt cabinet .emptyRehome)).picker = pickerFree ∧
      (after (.startRecoveryRehomeDone false) (halt start (.start .rehome))).startPhase = .probing ∧
      (after (.startRecoveryRehomeDone false) unbegun).startPhase = .recovering := by decide +kernel

/-- FailedMotionFaultsAndRecoveryReturns: the recovery of a service MOVE home, by RESUME MECHANISM and by CLEAR FAULT, of an export to
a mailslot reserved for it, of the return of an import's volume, of an unnamed cartridge from the mailslot and from a drive; the late
DONE of a probe of inventory. -/
theorem witness_recovery_of_other_moves :
    let back (m : Move) (clearing : Bool) (s : State) : State :=
      after .recoveryReturnDone (withPicker s (pickerIn (.recovery m true) (some by3) clearing))
    let home := returnMove (.service homeward)
    let out := { returnMove .exportOut with dst := .fixed .mailslot, cls := 4 }
    let leaving : State :=
      { goingHome with mailslot := .reserved, volumes := relocated goingHome.volumes 0 (.inPicker (.drive 0 .a) .mailslot) }
    let imported := serviceMoveOf cabinet .mailslot (.fixed (.slot 2)) (some 3) .importReturn (some 2)
    let importing : State := { cabinet with volumes := relocated cabinet.volumes 2 (.inPicker .mailslot (.slot 2)) }
    let nameless (src : Position) : Move :=
      { src, dst := .fixed (.drive 1 .a), cls := 4, prio := 0, arrival := 1, orderedBy := some 3, serves := .mount 1, carries := none }
    let drive (s : State) := ((s.drives.get 0).loaded, (s.drives.get 0).state, s.toCore.location 0)
    let stalledProbe : State :=
      withPicker probing { probing.picker with state := .faulted, stall := none, stalled := true }
    let p := req 3 9 [4]
    home.src = .drive 0 .a ∧ home.dst = .fixed (.slot 0) ∧ goingHome.toCore.location 0 = some (.inPicker (.drive 0 .a) (.slot 0)) ∧
      drive (back home false goingHome) = (none, .unloading, some (.inPicker (.drive 0 .a) (.slot 0))) ∧
      (back home false goingHome).picker.motion = some (.move home) ∧
      drive (back home true goingHome) = (some ⟨0, .a⟩, .spunDown, some (.inDrive 0 .a)) ∧
      leaving.mailslot = .reserved ∧ (back imported false importing).picker.motion = some (.move imported) ∧
      importing.toCore.location 2 = some (.inPicker .mailslot (.slot 2)) ∧
      (nameless .mailslot).carries = none ∧ (nameless (.drive 0 .b)).src = .drive 0 .b ∧
      (back (nameless .mailslot) false cabinet).moves = [nameless .mailslot] ∧
      (back (nameless .mailslot) false cabinet).mailslot = .inserted ∧
      ((back (nameless (.drive 0 .b)) false cabinet).drives.get 0).presented = some .b ∧
      (stalledProbe.picker.motion = some (.move (probing.picker.motion.elim toDriveMove (fun m => match m with
        | .move m => m
        | _ => toDriveMove)))) ∧
      (after (.inventoryProbeDone true) stalledProbe).picker.lateProbe = some true ∧
      (after (.clearFaultPicker p) (after (.inventoryProbeDone true) stalledProbe)).inventory.map (·.probes[3]) =
        some .occupied ∧
      (after (.clearFaultPicker p) (after .lateMoveDone stalledProbe)).inventory.map (·.probes[3]) = some .unprobed ∧
      (back out false leaving).mailslot = .reserved := by decide +kernel

/-- ClearFaultProceeds: the late DONE of a service MOVE home. -/
theorem witness_clear_fault_late_done :
    let s : State :=
      withPicker goingHome
        { pickerIn (.move (returnMove (.service homeward))) none false with
          state := .faulted, stall := none, stalled := true, lateDone := true }
    let t := after (.clearFaultPicker (req 3 8 [4])) s
    homeward.toDrive = false ∧ s.picker.lateDone = true ∧ s.toCore.location 0 = some (.inPicker (.drive 0 .a) (.slot 0)) ∧
      t.toCore.location 0 = some .home ∧ t.drives.get 0 = bare ∧
      t.picker = pickerIn .emptyRehome (some ⟨3, 8⟩) true ∧
      (t.links.get 3).out = [.accepted 8 .empty, .done 9 (.media .done (some 0))] := by decide +kernel

/-- The machine right after reset, its start recovery at a point, with volume 1 HOME or on its way to a position. -/
def starting (m : StartMotion) (loc : Location) : State :=
  { State.reset with
    volumes := State.reset.volumes.set 0 (some (volume 65 loc (fullSide 1 1 10) .blank))
    picker := pickerIn (.start m) none false }

/-- StartRecoverySettlesTheGripper: no volume IN_PICKER, one on its way to a drive, one on its way to the mailslot; the re-home, the
return and the probe. -/
theorem witness_start_recovery :
    let way := Location.inPicker (.slot 0) (.drive 2 .b)
    let leaving := Location.inPicker (.slot 0) .mailslot
    let at_ (c : Instr) (m : StartMotion) (l : Location) := (after c (starting m l)).toCore.location 0
    (starting .rehome way).resetDue = false ∧ (starting .rehome way).picker.state = .moving ∧
      (∀ w, (starting .rehome .home).toCore.location w = if w = 0 then some .home else none) ∧
      (∀ w, (starting .rehome way).toCore.location w = if w = 0 then some way else none) ∧
      (∀ w, (starting .rehome leaving).toCore.location w = if w = 0 then some leaving else none) ∧
      (starting .rehome .home).panel.level.cartridgePresent = false ∧
      (after (.startRecoveryRehomeDone false) (starting .rehome .home)).startPhase = .probing ∧
      (after (.startRecoveryRehomeDone true) (starting .rehome .home)).picker.motion = some (.start .returning) ∧
      (after (.startRecoveryRehomeDone true) (starting .rehome way)).picker.motion = some (.start .returning) ∧
      (after (.startRecoveryRehomeDone false) (starting .rehome way)).picker.motion = some (.start .probing) ∧
      at_ (.startRecoveryRehomeDone false) .rehome leaving = some .home ∧
      (after .recoveryReturnDone (starting .returning .home)).mailslot = .inserted ∧
      at_ .recoveryReturnDone .returning way = some .home ∧
      at_ (.startRecoveryDestinationProbeDone true) .probing way = some (.inDrive 2 .b) ∧
      at_ (.startRecoveryDestinationProbeDone false) .probing way = some .home := by decide +kernel

/-- A drive 0 in its start probe, with an operation in flight. -/
def inProbe (p : ProbeState) (k : OpKind) (loc : Location) : State :=
  withDrive { starting .rehome loc with startPhase := .probing, picker := pickerFree } 0
    { Drive.atStart with probe := p, op := issued k .probe }

/-- The header sector of volume 1's face A. -/
def headerOne : List Byte := Header.sector ⟨label 65, .a, 1, 1⟩

/-- StartProbeJudgesTheDrive: a drive that a volume is said to be in and one that none is; each completion of the three operations; a
side ended by a header fault, confirmed by a read that failed and not by a GOOD one that is no header. -/
theorem witness_start_probe :
    let load (second : Bool) := inProbe .loading (.loadSpinUp second)
    let read := inProbe .reading (.read 0 1)
    let here := Location.inDrive 0 .a
    let drive (c : Instr) (s : State) := (after c s).drives.get 0
    let void : SideRecord := { fullSide 1 1 0 with state := .suspect, firstRn := none, lastRn := none, sealReason := some .writeFailures }
    let headerless : State := { read here with volumes := (read here).volumes.set 0 (some (volume 65 here void .blank)) }
    ((load false .home).drives.get 0).op = issued (.loadSpinUp false) .probe ∧ ((load true .home).drives.get 0).loaded = none ∧
      (∀ w, (load false .home).toCore.location w = if w = 0 then some .home else none) ∧
      (∀ w, (read here).toCore.location w = if w = 0 then some here else none) ∧
      (drive (.loadSpinUpComplete 0 .good) (load false here)).op = issued (.read 0 1) .probe ∧
      (drive (.loadSpinUpComplete 0 .good) (load false here)).state = .ready ∧
      (drive (.loadSpinUpComplete 0 .noMedia) (load false .home)) = bare ∧
      (after (.loadSpinUpComplete 0 .noMedia) (load false here)).toCore.location 0 = some .unknown ∧
      (drive (.loadSpinUpComplete 0 .notReady) (load false .home)).op = issued (.loadSpinUp true) .probe ∧
      (after (.loadSpinUpComplete 0 .notReady) (load true .home)).alarms = [.driveFault 0] ∧
      (drive (.loadSpinUpComplete 0 .notReady) (load true .home)).unnamed = true ∧
      (drive (.loadSpinUpComplete 0 .notReady) (load true here)).loaded = some ⟨0, .a⟩ ∧
      (after (.loadSpinUpComplete 0 .notReady) (load true here)).toCore.location 0 = some here ∧
      (drive (.probeReadComplete 0 .mediaError) headerless).loaded = some ⟨0, .a⟩ ∧
      (drive (.probeReadComplete 0 (.good (List.replicate 1024 7))) headerless).unnamed = true ∧
      (drive (.probeReadComplete 0 (.good headerOne)) (read here)).loaded = some ⟨0, .a⟩ ∧
      (drive (.probeReadComplete 0 .blank) (read here)).unnamed = true ∧
      (after (.probeReadComplete 0 .blank) (read here)).toCore.location 0 = some .unknown ∧
      (drive (.probeReadComplete 0 (.good headerOne)) (read .home)).presented = some .a ∧
      (drive (.spinDownComplete 0) (inProbe .stopping .spinDown here)).state = .spunDown := by decide +kernel

/-! ### The retained store (R190 to R193) -/

/-- The record of the OPEN side of a state. -/
def openRecord (s : State) : Option SideRecord := s.toCore.openSide.map (·.2)

/-- Numbers 31 and 32 held, the head awaiting its resubmission and the next WITHDRAWN. -/
def twoWithdrawn : State :=
  { cabinet with
    counter := some ⟨33, 812⟩, pendingList := [entry 31 .awaitingResubmit, entry 32 .withdrawn]
    dirbuf := List.replicate 10 ((entry 21 .staged).directoryEntry 2)
    engine := { Engine.atStart .idle with state := .stalled .headAwaiting } }

/-- R191: a WITHDRAW of the head is followed by two placeholder commits, each a group of its own; a reset that cuts the second one
after its DIRBUF finds the commit to complete (R192). -/
theorem test_each_commit_is_a_group_of_updates :
    let t := after (.withdraw (req 3 9 [0, 0, 0, 31])) twoWithdrawn
    let cut := cutAfter 5 false [] t
    t.pendingList = [] ∧
      t.journal.map (·.1) = [.pending, .dirbuf, .volumes, .pending, .dirbuf, .volumes, .pending] ∧
      cut.startRecord.completions = [.commitDirbuf, .commitPending] ∧ cut.pendingList = [] ∧
      (openRecord cut).map (·.entryCount) = some 12 := by decide +kernel

/-- R190, R193: a section whose update a reset cuts short does not match its check word, and COUNTER stays lost over the next
reset. -/
theorem test_a_cut_update_loses_its_section :
    let t := after (.restoreCounter (req 3 9 [0, 0, 0, 40, 3, 45])) { cabinet with counter := none }
    let cut := cutAfter ((t.journal.map (·.1)).findIdx (· == .counter)) true [.counter] t
    cut.startRecord.lost = [.counter] ∧ cut.counter = none ∧ (cutAfter 0 false [.counter] cut).counter = none ∧
      t.counter = some ⟨40, 813⟩ := by decide +kernel

/-! ### Witnesses: the Filing Engine -/

/-- Volume 2 in drive 1 with the OPEN side, the engine's claim on it and number 31 at the head, an engine operation in flight; a job
for number 30 heads the service order. -/
def engineAt (k : OpKind) (u : OpUser) (g : Engine) (head : PendingState) : State :=
  { withDrive cabinet 1
      { bare with
        state := .ready, loaded := some ⟨1, .a⟩, presented := some .a, filingFlag := true, claims := 2, service := [⟨0, 1⟩],
        op := issued k u } with
    volumes := relocated cabinet.volumes 1 (.inDrive 1 .a)
    counter := some ⟨32, 812⟩
    engine := { g with claim := some 1 }
    pendingList := [entry 31 head]
    blockMap := true :: List.replicate 255 false
    queue := [{ fetchJob .waitDrive (some 1) with rn := 30, side := some ⟨1, .a⟩ }] }

/-- The engine writing, verifying, sealing, flushing. -/
def writing (attempts : Nat) : State :=
  engineAt (.write 12 1 (padTo 1024 (bytes [0xA5]))) .engineWrite { Engine.atStart .writing with attempts } .writing
def verifying (attempts : Nat) : State := engineAt (.read 12 1) .engineVerify { Engine.atStart .verifying with attempts } .verifying
def sealing (why : SealReason) : State :=
  engineAt (.write 1 1 (sealSector (some 30) 10 why)) .engineSeal { Engine.atStart .sealing with sealing := some why } .staged
def flushing (step : FlushStep) (aOk : Bool) (k : OpKind) : State :=
  { engineAt k .engineFlush { Engine.atStart .flushing with flush := some ⟨step, aOk⟩ } .staged with
    dirbuf := List.replicate 32 ((entry 31 .staged).directoryEntry 12) }

/-- FailedOperationFaultsTheDrive: a flush of the OPEN side whose WRITE stands at its 60 s. -/
theorem witness_failed_flush :
    let s : State := { flushing .writeA false (.write 310272 1 []) with queue := [], secondCount := 77 }
    let late := withDrive s 1
      { s.drives.get 1 with op := some { kind := .write 310272 1 [], user := .engineFlush, timer := 0 }, claims := 1, service := [] }
    let t := after (.driveOperationTimeout 1) late
    (late.drives.get 1).bound = none ∧ late.engine.claim = some 1 ∧ late.toCore.openSide ≠ none ∧ late.inventory = none ∧
      late.pendingList = [entry 31 .staged] ∧ (late.drives.get 1).state ≠ .faulted ∧
      t.engine.state = .stalled .driveFault ∧ t.engine.claim = none ∧ t.engine.flush = none ∧
      t.dirbuf.length = 32 ∧ (t.drives.get 1).lastUse = 77 ∧ t.alarms = [.driveFault 1] := by decide +kernel

/-- HeadIsWrittenVerifiedAndCommitted: a WRITE that is GOOD, and one that fails as the second attempt; an extent rejected as the second
attempt, and one that verifies. -/
theorem witness_head :
    let good := ReadResult.good (padTo 1024 (bytes [0xA5]))
    let rec_ := openedSide 3 21 10 0
    let done := after (.verifyReadComplete 1 good) (verifying 0)
    (writing 1).resetDue = false ∧ (writing 1).toCore.openSide = some (⟨1, .a⟩, rec_) ∧
      (writing 1).pendingList = [entry 31 .writing] ∧ (writing 1).engine.attempts + 1 < 3 ∧
      fitFails { rec_ with writePtr := 13 } (entry 31 .writing) = false ∧
      (after (.instrumentWriteComplete 1 .good) (writing 1)).engine.state = .verifying ∧
      (openRecord (after (.instrumentWriteComplete 1 .mediaError) (writing 1))).map (fun r => (r.writePtr, r.voidCount)) =
        some (13, 1) ∧
      verifyAccepts (entry 31 .verifying) .blank = false ∧ fitFails rec_ (entry 31 .verifying) = false ∧
      (openRecord (after (.verifyReadComplete 1 .blank) (verifying 1))).map (·.voidCount) = some 1 ∧
      verifyAccepts (entry 31 .verifying) good = true ∧ (verifying 0).counter = some ⟨32, 812⟩ ∧
      (verifying 0).engine.claim = some 1 ∧ (verifying 0).dirbuf.length + 1 < 32 ∧
      ((verifying 0).drives.get 1).service = [⟨0, 1⟩] ∧
      done.pendingList = [] ∧ (openRecord done).map (fun r => (r.lastRn, r.entryCount)) = some (some 31, 11) ∧
      done.courtesy.rns = [31] ∧ done.dirbuf.length = 1 ∧ done.blockMap = cabinet.blockMap := by decide +kernel

/-- A selection of volume 1's face B for opening, with its header WRITE in flight in drive 1. -/
def headerInFlight : State :=
  { engineAt (.write 0 1 []) .engineHeader (Engine.atStart .mounting) .staged with
    volumes := (cabinet.volumes.set 0 (some (volume 65 (.inDrive 1 .b) (fullSide 1 1 10) .blank))).set 1
      (some (volume 66 .home (fullSide 3 21 10) .blank))
    selection := some ⟨⟨0, .b⟩, 4⟩ }

/-- SideIsOpenedFoundAgainAndSealed: a header WRITE; a FIND BLANK of a side whose counts reach its write pointer, with a sector found
and with none; a seal WRITE for space and after write failures. -/
theorem witness_side :
    let find := engineAt (.findBlank 12 310271) .engineFind { Engine.atStart .mounting with restartMark := true } .staged
    let pointer (f : FindResult) := (openRecord (after (.restartFindBlankComplete 1 f) find)).map (·.writePtr)
    let state (w : WriteResult) (why : SealReason) :=
      ((after (.sealWriteComplete 1 w) (sealing why)).toCore.vol 1).map (fun v => (v.sideA.state, v.sideA.sealReason))
    headerInFlight.selection = some ⟨⟨0, .b⟩, 4⟩ ∧ headerInFlight.toCore.vol 0 ≠ none ∧
      headerInFlight.pendingList = [entry 31 .staged] ∧ headerInFlight.engine.claim = some 1 ∧
      (headerInFlight.drives.get 1).op = issued (.write 0 1 []) .engineHeader ∧
      ((after (.headerWriteComplete 1 .good) headerInFlight).toCore.vol 0).map (fun v => (v.sideB.state, v.sideB.firstRn)) =
        some (.opened, some 31) ∧
      ((after (.headerWriteComplete 1 .mediaError) headerInFlight).toCore.vol 0).map (fun v => (v.sideB.state, v.sideB.firstRn)) =
        some (.suspect, none) ∧
      find.toCore.openSide = some (⟨1, .a⟩, openedSide 3 21 10 0) ∧ (0 : Nat) + 10 + 2 ≤ 12 ∧
      pointer (.good 20) = some 20 ∧ pointer .none = some 310272 ∧
      (sealing .space).engine.sealing = some .space ∧ (sealing .space).engine.claim = some 1 ∧
      (sealing .space).toCore.openSide = some (⟨1, .a⟩, openedSide 3 21 10 0) ∧
      state .good .space = some (.full, some .space) ∧ state .mediaError .space = some (.suspect, some .space) ∧
      state .good .writeFailures = some (.suspect, some .writeFailures) ∧
      (after (.sealWriteComplete 1 .good) (sealing .space)).engine.state = .mounting := by decide +kernel

/-- FlushWritesBothCopies: each of the four operations, and the end of copy B with one copy verified and with neither. -/
theorem witness_flush :
    let sector := directorySector (flushing .readB false (.read 310784 1)).dirbuf
    let write (a : Nat) := OpKind.write a 1 sector
    let op (r : FlushResult) (s : State) := ((after (.flushOperationComplete 1 r) s).drives.get 1).op
    let one := after (.flushOperationComplete 1 (.read (.good sector))) (flushing .readB false (.read 310784 1))
    let neither := after (.flushOperationComplete 1 (.wrote .mediaError)) (flushing .writeB false (write 310784))
    (flushing .writeA false (write 310272)).toCore.openSide = some (⟨1, .a⟩, openedSide 3 21 10 0) ∧
      (write 310272).uses = true ∧ (flushing .writeA false (write 310272)).engine.flush = some ⟨.writeA, false⟩ ∧
      op (.wrote .good) (flushing .writeA false (write 310272)) = issued (.read 310272 1) .engineFlush ∧
      op (.wrote .mediaError) (flushing .writeA false (write 310272)) = issued (write 310784) .engineFlush ∧
      op (.read .blank) (flushing .readA false (.read 310272 1)) = issued (write 310784) .engineFlush ∧
      op (.wrote .good) (flushing .writeB true (write 310784)) = issued (.read 310784 1) .engineFlush ∧
      (flushing .readB false (.read 310784 1)).engine.sealing = none ∧ one.dirbuf = [] ∧
      (openRecord one).map (·.flushed) = some 1 ∧ neither.engine.state = .halted ∧ neither.alarms = [.directoryFault] ∧
      neither.dirbuf.length = 32 := by decide +kernel

/-- A state whose engine alone holds its claim: no job at drive 1. -/
def alone (s : State) : State := { withDrive s 1 { s.drives.get 1 with claims := 1, service := [] } with queue := [] }

/-- A state whose OPEN side has its write pointer or its entry count given, and one whose head and buffer are given. -/
def pointed (w n : Nat) (s : State) : State :=
  { s with volumes := putSide s.volumes ⟨1, .a⟩ { openedSide 3 21 10 0 with writePtr := w, entryCount := n } }
def headed (st : PendingState) (n : Nat) (s : State) : State :=
  { s with pendingList := [entry 31 st], dirbuf := List.replicate n ((entry 21 .staged).directoryEntry 2) }

/-- HeadIsWrittenVerifiedAndCommitted: a third failed attempt, one with no room left; the commit that fills the buffer, and those of a
head with no job waiting, before a head that awaits its resubmission and before none. -/
theorem witness_head_followed :
    let good := ReadResult.good (padTo 1024 (bytes [0xA5]))
    let fails (s : State) := after (.instrumentWriteComplete 1 .mediaError) s
    let commits (s : State) := after (.verifyReadComplete 1 good) s
    let full := pointed 310271 10 (writing 0)
    let more : State := { alone (verifying 0) with pendingList := [entry 31 .verifying, entry 32 .awaitingResubmit] }
    let op (s : State) := (s.drives.get 1).op
    3 ≤ (writing 2).engine.attempts + 1 ∧ (fails (writing 2)).engine.sealing = some .writeFailures ∧
      (fails (writing 2)).pendingList.map (·.state) = [.staged] ∧
      op (fails (writing 2)) = issued (.write 1 1 (sealSector (some 30) 10 .writeFailures)) .engineSeal ∧
      full.toCore.openSide.map (·.1) = some ⟨1, .a⟩ ∧ full.engine.attempts + 1 < 3 ∧
      ¬(310271 + 1) + sectorsOf (entry 31 .writing).desc.size ≤ 310272 ∧
      (fails full).engine.sealing = some .space ∧
      (headed .verifying 31 (verifying 0)).dirbuf.length + 1 = 32 ∧
      (commits (headed .verifying 31 (verifying 0))).engine.flush = some ⟨.writeA, false⟩ ∧
      op (commits (headed .verifying 31 (verifying 0))) =
        issued (.write 310272 1 (directorySector (commits (headed .verifying 31 (verifying 0))).dirbuf)) .engineFlush ∧
      ((alone (verifying 0)).drives.get 1).service = [] ∧ (commits (alone (verifying 0))).engine.state = .idle ∧
      (commits (alone (verifying 0))).engine.claim = none ∧ ((commits (alone (verifying 0))).drives.get 1).idle = some 120 ∧
      (commits more).engine.state = .stalled .headAwaiting ∧ (commits more).engine.claim = none := by decide +kernel

/-- HeadIsWrittenVerifiedAndCommitted: the choices of an IDLE engine; of a MOUNTING one without a claim and with one, before a STAGED
head and a WITHDRAWN one, at the last sector and past it, at the last entry of a side and past it, at the last entry of the buffer. -/
theorem witness_engine_chooses :
    let next (s : State) := engineStep s.toFixed s.toCore
    let idle (st : PendingState) : State := { headed st 0 cabinet with engine := Engine.atStart .idle }
    let off : State := { idle .staged with volumes := relocated cabinet.volumes 1 .out }
    let mounting (st : PendingState) (n : Nat) : State := { headed st n cabinet with engine := Engine.atStart .mounting }
    let claims (st : PendingState) (w k : Nat) : State :=
      let s := alone (pointed w k (headed st 0 (engineAt (.read 0 1) .engineVerify (Engine.atStart .mounting) st)))
      withDrive s 1 { s.drives.get 1 with op := none }
    let turned (st : PendingState) : State :=
      let s := mounting st 0
      withDrive s 1 { bare with loaded := some ⟨1, .a⟩, filingFlag := true, service := [⟨0, 1⟩] }
    let state (s : State) := (next s).map (·.engine.state)
    let op (s : State) := (next s).bind (fun c => (c.drives.get 1).op)
    cabinet.startPhase = .settled ∧ cabinet.inventory = none ∧ (cabinet.counter ≠ none ∧ cabinet.pendingValid = true) ∧
      cabinet.toCore.openSide = some (⟨1, .a⟩, openedSide 3 21 10 0) ∧ cabinet.toCore.offline 1 = false ∧
      state { idle .staged with pendingValid := false } = some (.stalled .storeLost) ∧
      (next { idle .staged with pendingList := [] }).isNone ∧
      state (idle .awaitingResubmit) = some (.stalled .headAwaiting) ∧ off.toCore.offline 1 = true ∧
      state off = some (.stalled .sideOffline) ∧ state (idle .staged) = some .mounting ∧
      (mounting .staged 0).requests = [] ∧ (mounting .staged 0).mounts = [] ∧ (mounting .staged 0).engine.claim = none ∧
      (next (mounting .staged 0)).map (·.requests) = some [⟨.engine, ⟨1, .a⟩⟩] ∧
      state (mounting .withdrawn 30) = some .idle ∧ state (mounting .withdrawn 31) = some .mounting ∧
      (next (mounting .withdrawn 30)).map (·.dirbuf.length) = some 31 ∧
      (∀ d, ((mounting .withdrawn 30).drives.get d).filingFlag = false) ∧
      (∀ d, ((turned .withdrawn).drives.get d).filingFlag = (d == 1)) ∧ state (turned .withdrawn) = some .committing ∧
      (claims .staged 12 10).engine.claim = some 1 ∧ ((claims .staged 12 10).drives.get 1).loaded = some ⟨1, .a⟩ ∧
      op (claims .staged 310271 10) = issued (.write 310271 1 (padTo 1024 (bytes [0xA5]))) .engineWrite ∧
      state (claims .staged 12 16383) = some .writing ∧
      (next (claims .staged 310272 10)).map (·.engine.sealing) = some (some .space) ∧
      (next (claims .staged 12 16384)).map (·.engine.sealing) = some (some .space) ∧
      (next (claims .withdrawn 12 16383)).map (·.pendingList) = some [] ∧
      (next (claims .withdrawn 12 16384)).map (·.engine.state) = some .sealing := by decide +kernel

/-- SideIsOpenedFoundAgainAndSealed: the selection of the lowest BLANK side, of none where the volumes are OUT, of none at the last
open sequence; a MOUNTING engine with a BLANK side to take and with none; NO_BLANK standing. -/
theorem witness_selection :
    let sealed (a b : SideRecord) (loc : Location) : State :=
      { headed .staged 0 cabinet with
        volumes := (up.volumes.set 0 (some (volume 65 loc a b))).set 1 (some (volume 66 loc (fullSide 3 21 10) .blank))
        engine := Engine.atStart .mounting }
    let selects (s : State) := s.toCore.select.map (fun x => (x.side, x.openSeq))
    let next (s : State) := engineStep s.toFixed s.toCore
    let free := sealed (fullSide 1 1 10) .blank .home
    let none_ := sealed (fullSide 1 1 10) .blank .out
    let stands : State := { free with alarms := [.noBlank] }
    selects free = some (⟨0, .b⟩, 4) ∧ selects (sealed .blank .blank .home) = some (⟨0, .a⟩, 4) ∧
      selects { free with exportOp := some ⟨by3, 0, none, false⟩ } = some (⟨1, .b⟩, 4) ∧ selects none_ = none ∧
      selects (sealed (fullSide 65534 1 10) .blank .home) = some (⟨0, .b⟩, 65535) ∧
      selects (sealed (fullSide 65535 1 10) .blank .home) = none ∧
      free.rebuilding = false ∧ free.toCore.openSide = none ∧ free.engine.claim = none ∧ free.startPhase = .settled ∧
      free.selection = none ∧ free.alarms = [] ∧
      (next free).map (fun c => c.selection.map (·.side)) = some (some ⟨0, .b⟩) ∧
      (next none_).map (fun c => (c.engine.state, c.alarms)) = some (.stalled .noBlank, [.noBlank]) ∧
      (reselectStep stands.toCore).map (fun c => (c.selection.map (·.side), c.alarms)) = some (some ⟨0, .b⟩, []) := by
  decide +kernel

/-- FlushWritesBothCopies: a flush that verifies with no job waiting, and the partial flush of a seal. -/
theorem witness_flush_followed :
    let last (s : State) := after (.flushOperationComplete 1 (.read (.good (directorySector s.dirbuf)))) s
    let end_ := flushing .readB false (.read 310784 1)
    let sealing : State := { end_ with engine := { end_.engine with sealing := some .space } }
    (alone end_).engine.sealing = none ∧ ((alone end_).drives.get 1).service = [] ∧ (end_.drives.get 1).service = [⟨0, 1⟩] ∧
      (last (alone end_)).dirbuf = [] ∧ (last (alone end_)).engine.state = .writing ∧ (last end_).dirbuf = [] ∧
      (last sealing).dirbuf = [] ∧ (last sealing).engine.state = .sealing ∧
      ((last sealing).drives.get 1).op = issued (.write 1 1 (sealSector (some 30) 10 .space)) .engineSeal := by decide +kernel

/-! ### Witnesses: jobs, import and inventory at a drive -/

/-- The directory entry of number 10, kind `kind`, of one byte A5h at sector 11. -/
def entryTen (kind : Nat) : DirEntry :=
  { kind, station := 1, pages := 4, day := 812, sectors := 1, parcel := some 7, prior := some 9, time := none, start := 11,
    size := 1, crc := 0x74BEB8EA }

/-- A directory sector with that entry at position 9. -/
def sectorTen (kind : Nat) : List Byte := directorySector (List.replicate 10 (entryTen kind))

/-- DirectoryReadGivesTheEntry: an instrument, a placeholder, copy A and copy B without the entry, the cancel mark. -/
theorem witness_directory_read :
    let j := fetchJob .readingDirectory (some 0)
    let copyB := withDrive readingDirectory 0
      { readingDirectory.drives.get 0 with op := issued (.read 310784 1) (.jobDirectory ⟨0, 1⟩) }
    let cancelled : State := { readingDirectory with queue := [{ j with cancelled := true }] }
    let read (r : ReadResult) (s : State) := after (.directoryReadComplete 0 r) s
    let outcome (s : State) := (s.links.get 0).out.map (fun f => match f with | .done _ (.job x) => some x.outcome | _ => none)
    (readingDirectory.drives.get 0).op = issued (.read 310272 1) (.jobDirectory j.id) ∧
      readingDirectory.toCore.job j.id = some j ∧ j.walk = none ∧ j.drive = some 0 ∧ j.state ≠ .waitOperator ∧
      j.cancelled = false ∧ entryGiven (sectorTen 3) (j.index % 32) = some (entryTen 3) ∧
      entryGiven (sectorTen 0) (j.index % 32) = some (entryTen 0) ∧ (310272 : Nat) < 310784 ∧
      ((read (.good (sectorTen 3)) readingDirectory).drives.get 0).op = issued (.read 11 1) (.jobChunk ⟨0, 1⟩) ∧
      outcome (read (.good (sectorTen 0)) readingDirectory) = [some (.failed .withdrawn)] ∧
      ((read .mediaError readingDirectory).drives.get 0).op = issued (.read 310784 1) (.jobDirectory ⟨0, 1⟩) ∧
      outcome (read .mediaError copyB) = [some (.failed .mediaError)] ∧
      outcome (read .blank cancelled) = [some .cancelled] := by decide +kernel

/-- A walk of limit `limit` at number 10, before its step `steps` + 1, with its directory READ in flight. -/
def walking (limit steps : Nat) (stopKinds : Half) (parcel : Option Nat) : State :=
  { readingDirectory with
    queue :=
      [{ fetchJob .readingDirectory (some 0) with
         cls := .search
         walk := some
           { start := 10, limit, stopKinds, parcelMatch := true, startParcel := parcel, steps, next := none, stop := none } }] }

/-- WalkTakesAStep: a step that goes on to number 9, and the stops: LIMIT, a stop kind, another parcel, a placeholder. -/
theorem witness_walk :
    let good (kind : Nat) := ReadResult.good (sectorTen kind)
    let stop (kind : Nat) (s : State) : List (Option StopReason) :=
      ((after (.directoryReadComplete 0 (good kind)) s).links.get 0).out.map
        (fun f => match f with | .done _ (.job x) => x.stop | _ => none)
    let next := after (.directoryReadComplete 0 (good 3)) (walking 2 0 0 none)
    (walking 2 0 0 none).resetDue = false ∧
      ((walking 2 0 0 none).drives.get 0).op = issued (.read 310272 1) (.jobDirectory ⟨0, 1⟩) ∧
      ((walking 2 0 0 none).links.get 0).active = true ∧ entryGiven (sectorTen 3) (9 % 32) = some (entryTen 3) ∧
      resolve (walking 2 0 0 none).toFixed (walking 2 0 0 none).toCore 9 = .onSide ⟨0, .a⟩ 8 ∧
      ((walking 2 0 0 none).drives.get 0).filingFlag = false ∧
      next.queue.map (fun j => (j.rn, j.index, j.walk.map (fun w => (w.steps, w.startParcel)))) = [(9, 8, some (1, some 7))] ∧
      (next.drives.get 0).op = issued (.read 310272 1) (.jobDirectory ⟨0, 1⟩) ∧
      stop 3 (walking 1 0 0 none) = [none, some .limit] ∧ stop 3 (walking 2 0 8 none) = [none, some .kindMatch] ∧
      stop 3 (walking 2 1 0 (some 8)) = [none, some .mismatch] ∧ stop 0 (walking 1 0 8 none) = [none, some .withdrawn] := by
  decide +kernel

/-- A FETCH that is sending the `size` bytes of number 10, `sent` sectors sent, with a chunk READ in flight. -/
def sending (size sent : Nat) (retry : Bool) : State :=
  { withDrive readingDirectory 0
      { readingDirectory.drives.get 0 with
        op := issued (.read (11 + sent) (min 32 (sectorsOf size - sent))) (.jobChunk ⟨0, 1⟩) } with
    queue :=
      [{ fetchJob .sending (some 0) with
         entry := some { entryTen 3 with size }, knownPages := some 4, sent, retry }] }

/-- ChunksAreSentInOrder: a chunk with another behind it, a last chunk whose CRC-32 is the entry's and one whose is not, a first and a
second failure. -/
theorem witness_chunks :
    let chunk (r : ReadResult) (s : State) := after (.chunkReadComplete 0 r) s
    let outcome (s : State) := ((s.links.get 0).out.getLast?).map (fun f => match f with | .done _ (.job x) => some x.outcome | _ => none)
    let more := chunk (.good (List.replicate 32768 7)) (sending 32769 0 false)
    let last := chunk (.good (padTo 1024 (bytes [0xA5]))) (sending 1 0 false)
    ((sending 32769 0 false).drives.get 0).op = issued (.read 11 32) (.jobChunk ⟨0, 1⟩) ∧ sectorsOf 32769 = 33 ∧
      ((sending 32769 0 false).links.get 0).active = true ∧
      more.queue.map (·.sent) = [32] ∧ (more.drives.get 0).op = issued (.read 43 1) (.jobChunk ⟨0, 1⟩) ∧
      (more.links.get 0).out.length = 32 ∧
      (last.links.get 0).out.head? = some (.data 1 0 (bytes [0xA5])) ∧ outcome last = some (some .done) ∧
      last.tallies[(0 : Fin 16)].plain.count = 1 ∧
      outcome (chunk (.good (padTo 1024 (bytes [0xA4]))) (sending 1 0 false)) = some (some (.failed .mediaError)) ∧
      (chunk .mediaError (sending 1 0 false)).queue.map (·.retry) = [true] ∧
      outcome (chunk .blank (sending 1 0 true)) = some (some (.failed .mediaError)) := by decide +kernel

/-- An IMPORT whose cartridge stands READY in drive 0, with the READ of a face's sector 0 in flight. -/
def importing (phase : ImportPhase) (f : Face) : State :=
  { withDrive inserted 0
      { bare with
        state := .ready, unnamed := true, presented := some f, bound := some .importing, op := issued (.read 0 1) .importRead } with
    mailslot := .empty
    importOp := some { by_ := by3, label := label 0x7E, phase, drive := some 0, faceA := .blank } }

/-- The header sector of a label, a face, an open sequence and a first number. -/
def headerOf (n : Nat) (f : Face) (seq first : Nat) : ReadResult := .good (Header.sector ⟨label n, f, seq, first⟩)

/-- An inventory that reads a face at a step. -/
def scanning (step : ScanStep) (k : OpKind) (u : OpUser) : State :=
  { withDrive cabinet 0
      { bare with
        state := .ready, unnamed := true, presented := some .a, bound := some .inventory, op := issued k u } with
    inventory := some
      { by_ := some by3, phase := .slots, probes := Vector.replicate 64 .occupied, assigned := [],
        reading := some
          { slot := some 3, drive := some 0, phase := .scanning, scan := { Scan.fresh with step, flushed := 2 }, faceA := none,
            faceB := none },
        cursor := 4, rebuiltOpen := none, unsealedSeq := none, afterLoss := false,
        counts := ⟨0, 0, 0, 0, 0⟩ } }

/-- ImportJudgesAndInventoryReads: a face A without a header, a foreign header, the header of the volume OUT; each step of a face. -/
theorem witness_import_and_inventory :
    let read (s : State) (r : ReadResult) := (after (.importHeaderReadComplete 0 r) s).importOp.map (·.phase)
    let next (step : ScanStep) (k : OpKind) (r : ReadResult) :=
      ((after (.inventoryReadComplete 0 r) (scanning step k .inventoryRead)).drives.get 0).op
    let found (step : ScanStep) (x : FindResult) :=
      ((after (.inventoryFindBlankComplete 0 x) (scanning step (.findBlank 2 310271) .inventoryFind)).drives.get 0).op
    ((importing .readingA .a).drives.get 0).op = issued (.read 0 1) .importRead ∧
      ((importing .readingA .a).drives.get 0).state = .ready ∧
      read (importing .readingA .a) .blank = some .turning ∧
      (importing .readingA .a).toCore.judge (label 0x7E) (headerRead (some .a) (headerOf 67 .a 2 11)) none = some (.returned 2) ∧
      (importing .readingA .a).toCore.location 2 = some .out ∧ (importing .readingA .a).toCore.waitingFor 2 = 0 ∧
      (importing .readingA .a).alarms = [] ∧
      read (importing .readingA .a) (headerOf 67 .a 2 11) = some (.goingHome 2 .returned) ∧
      read (importing .readingA .a) (headerOf 67 .a 9 11) = some (.settingBack .foreign) ∧
      read (importing .readingB .b) (headerOf 0x7E .b 9 11) = some (.settingBack .foreign) ∧
      ((scanning .header (.read 0 1) .inventoryRead).drives.get 0).presented = some .a ∧ (OpKind.read 0 1).uses = true ∧
      next .header (.read 0 1) (headerOf 70 .a 9 41) = issued (.read 1 1) .inventoryRead ∧
      next .header (.read 0 1) .mediaError = issued (.findBlank 2 310271) .inventoryFind ∧
      next .sealSector (.read 1 1) .blank = issued (.findBlank 2 310271) .inventoryFind ∧
      next .directory (.read 310272 1) (.good (sectorTen 3)) = issued (.read 310273 1) .inventoryRead ∧
      next .directory (.read 310272 1) .mediaError = issued (.read 310784 1) .inventoryRead ∧
      found .findA (.good 310274) = issued (.findBlank 310784 311295) .inventoryFind ∧
      found .findB (.good 310785) = issued (.read 310272 1) .inventoryRead := by decide +kernel

/-- An inventory that reads face B of the cartridge in slot 3, whose volume is unknown, face A read as given. -/
def readingB (h : HeaderRead) : State :=
  let s := scanning .header (.read 0 1) .inventoryRead
  { withDrive s 0 { s.drives.get 0 with presented := some .b } with
    volumes := relocated cabinet.volumes 2 .unknown
    inventory := s.inventory.map (fun i =>
      { i with
        reading := i.reading.map (fun r =>
          { r with slot := some 2, faceA := some { header := h, record := fullSide 2 11 10, unsealed := false } }) }) }

/-- A face whose last directory sector is being read, with the seal sector read as given. -/
def lastSector (sl : SealRead) : State :=
  let s := scanning .directory (.read 310272 1) .inventoryRead
  { s with
    inventory := s.inventory.map (fun i =>
      { i with
        reading := i.reading.map (fun r =>
          { r with
            scan :=
              { Scan.fresh with
                step := .directory, header := .header ⟨label 70, .a, 9, 41⟩, sealRead := sl, writePtr := 12, flushed := 1,
                copyB := true } }) }) }

/-- The end of an inventory: the OPEN side rebuilt with two entries in the buffer, a SUSPECT side without an open sequence. -/
def inventoryEnds : State :=
  { mounted with
    volumes := cabinet.volumes.set 2
      (some (volume 67 .out { fullSide 2 11 10 with state := .suspect, openSeq := none } .blank))
    dirbuf := List.replicate 2 ((entry 21 .staged).directoryEntry 2)
    inventory := some
      { by_ := some by3, phase := .slots, probes := Vector.replicate 64 .empty, assigned := [], reading := none, cursor := 64,
        rebuiltOpen := some ⟨1, .a⟩, unsealedSeq := none, afterLoss := false, counts := ⟨1, 0, 2, 0, 0⟩ } }

/-- ImportJudgesAndInventoryReads: a blank cartridge enrolled that goes home, and one that stays for NO_BLANK; a volume OUT that stays
for a job. -/
theorem witness_import_stays :
    let blank := { importing .readingB .b with alarms := ([] : List Alarm) }
    let noBlank : State :=
      { blank with
        alarms := [.noBlank]
        volumes := (up.volumes.set 0 (some (volume 65 .home (fullSide 1 1 10) (fullSide 2 11 10)))) }
    let wanted : State := { importing .readingA .a with queue := [job 1], nextAccept := 2 }
    let read (s : State) (r : ReadResult) := after (.importHeaderReadComplete 0 r) s
    let op (s : State) := (s.drives.get 0).op
    let kept := read noBlank .blank
    let returned := read wanted (headerOf 67 .a 2 11)
    blank.toCore.judge (label 0x7E) .blank (some (headerRead (some .b) .blank)) = some (.enrolled 3) ∧
      waitingOn blank 3 = [] ∧ (read blank .blank).importOp.map (·.phase) = some (.goingHome 3 .enrolled) ∧
      (read blank .blank).toCore.location 3 = some (.inDrive 0 .b) ∧ op (read blank .blank) = issued .spinDown .mechanism ∧
      noBlank.toCore.judge (label 0x7E) .blank (some (headerRead (some .b) .blank)) = some (.enrolled 1) ∧
      noBlank.rebuilding = false ∧ noBlank.toCore.openSide = none ∧ waitingOn noBlank 1 = [] ∧
      kept.selection.map (fun x => (x.side, x.openSeq)) = some (⟨1, .a⟩, 3) ∧ kept.alarms = [] ∧ kept.importOp = none ∧
      (kept.drives.get 0).bound = none ∧ (kept.drives.get 0).idle = some 120 ∧
      (kept.links.get 3).out = [.done 9 (.media .enrolled (some 1))] ∧
      waitingOn wanted 2 = [job 1] ∧ wanted.queueBounded ∧ wanted.exportOp = none ∧
      wanted.toCore.location 2 = some .out ∧
      (returned.links.get 3).out = [.done 9 (.media .returned (some 2))] ∧ returned.importOp = none ∧
      returned.queue.map (·.state) = [.readingDirectory] ∧ op returned = issued (.read 310272 1) (.jobDirectory ⟨0, 1⟩) := by
  unfold State.queueBounded
  decide +kernel

/-- ImportJudgesAndInventoryReads: the ends of a face: a BLANK header, a write pointer after an unreadable header, the last directory
sector of an unsealed side, of a sealed one, and one that neither copy gives. -/
theorem witness_face_ends :
    let face (s : State) := (s.inventory.bind (·.reading)).bind (·.faceA)
    let phase (s : State) := (s.inventory.bind (·.reading)).map (·.phase)
    let read (r : ReadResult) (s : State) := after (.inventoryReadComplete 0 r) s
    let last (sl : SealRead) := read (.good (sectorTen 3)) (lastSector sl)
    let rebuilt (s : State) (x : SideState) (last : Option Nat) (unsealed : Bool) : Bool :=
      (face s).any (fun r => r.record.state == x && r.record.lastRn == last && r.unsealed == unsealed)
    let bad := read .mediaError (lastSector .blank)
    let lost := scanning .writePointer (.findBlank 2 310271) .inventoryFind
    let unreadable (i : Inventory) : Inventory :=
      { i with reading := i.reading.map (fun r => { r with scan := { r.scan with header := .unreadable } }) }
    phase (read .blank (scanning .header (.read 0 1) .inventoryRead)) = some .turning ∧
      (face (after (.inventoryFindBlankComplete 0 .none) { lost with inventory := lost.inventory.map unreadable })).map
        (fun r => (r.record.state, r.record.voidCount)) = some (.suspect, 310270) ∧
      rebuilt (last .blank) .opened (some 50) true = true ∧
      rebuilt (last (.sealed (some 50) 10 .space)) .full (some 50) false = true ∧
      rebuilt bad .suspect (some 72) true = true ∧ phase bad = some .turning := by decide +kernel

/-- ImportJudgesAndInventoryReads: a lost record whose faces agree with its cartridge and one whose do not; the end of an inventory. -/
theorem witness_inventory_ends :
    let phase (s : State) := (s.inventory.bind (·.reading)).map (·.phase)
    let read (h : Header) := after (.inventoryReadComplete 0 .blank) (readingB (.header h))
    let agree := read ⟨label 67, .a, 2, 11⟩
    let differs := read ⟨label 67, .a, 9, 11⟩
    let c := inventoryStep inventoryEnds.toFixed inventoryEnds.toCore
    ((readingB .blank).toCore.vol 2).map (·.loc) = some .unknown ∧ waitingOn (readingB .blank) 2 = [] ∧
      phase agree = some (.goingHome 2) ∧ agree.inventory.map (·.counts.placed) = some 1 ∧
      agree.toCore.location 2 = some (.inDrive 0 .b) ∧
      phase differs = some .settingOut ∧ differs.inventory.map (·.counts.madeOut) = some 1 ∧
      differs.toCore.location 2 = some .out ∧
      inventoryEnds.startPhase = .settled ∧ (inventoryEnds.toCore.openSide.map (·.1)) = some ⟨1, .a⟩ ∧
      inventoryEnds.toCore.highestSeq = 3 ∧ (inventoryEnds.links.get 3).active = true ∧
      c.map (fun c => (c.inventory, c.rebuilding)) = some (none, false) ∧
      (c.bind (·.vol 2)).map (·.sideA.openSeq) = some (some 4) ∧
      (c.bind (·.vol 1)).map (fun x => (x.sideA.entryCount, x.sideA.lastRn)) = some (12, some 32) ∧
      c.map (fun c => (c.links.get 3).out) = some [.done 9 (.inventory ⟨1, 0, 2, 0, 0⟩)] := by decide +kernel

/-! ### Points of the rules about retained values and sides -/

/-- R192: a head that the rebuilt OPEN side holds is removed at the end of an inventory that follows a VOLUMES loss,
and not at the end of another; one ordered while records are unsettled follows a loss. -/
theorem test_the_head_is_looked_at_after_a_volumes_loss :
    let s : State := { inventoryEnds with pendingList := [entry 32 .staged] }
    let ends (afterLoss : Bool) : Option (List Nat) :=
      let t : State := { s with inventory := s.inventory.map (fun i => { i with afterLoss }) }
      (inventoryStep t.toFixed t.toCore).map (fun c => c.pendingList.map (·.rn))
    let lost : Volume := { label := none, loc := .unknown, sideA := .blank, sideB := .blank }
    let begun (s : State) := (after (.inventory service) s).inventory.map (·.afterLoss)
    ends true = some [] ∧ ends false = some [32] ∧ begun cabinet = some false ∧
      begun { cabinet with startPhase := .probing, volumes := cabinet.volumes.set 5 (some lost) } = some true := by decide +kernel

/-- R70, R71, R72: a WITHDRAW of the head that the engine waits for commits a placeholder without a claim. The unit of the filing
drive's first job is its turn: the engine stays COMMITTING until it ends, and the next job reads on. -/
theorem test_a_placeholder_without_a_claim_gives_a_turn :
    let second : Job := { fetchJob .waitDrive (some 1) with id := ⟨0, 2⟩, side := some ⟨1, .a⟩, acceptNo := 2 }
    let s : State :=
      { withDrive cabinet 1
          { bare with
            state := .ready, loaded := some ⟨1, .a⟩, presented := some .a, filingFlag := true, claims := 2,
            service := [⟨0, 1⟩, ⟨0, 2⟩], op := issued (.read 310272 1) (.jobDirectory ⟨0, 1⟩) } with
        volumes := relocated cabinet.volumes 1 (.inDrive 1 .a)
        queue := [{ fetchJob .readingDirectory (some 1) with side := some ⟨1, .a⟩ }, second]
        nextAccept := 3, pendingList := [entry 31 .awaitingResubmit]
        engine := Engine.atStart (.stalled .headAwaiting) }
    let t := after (.withdraw (req 3 9 [0, 0, 0, 31])) s
    let u := after (.directoryReadComplete 1 (.good (sectorTen 0))) t
    t.pendingList = [] ∧ t.dirbuf.length = 1 ∧ t.engine.state = .committing ∧ t.engine.claim = none ∧
      t.queue.map (·.state) = [.readingDirectory, .waitDrive] ∧ t.drives = s.drives ∧
      u.engine.state = .idle ∧ u.queue.map (·.state) = [.readingDirectory] ∧
      (u.drives.get 1).op = issued (.read 310272 1) (.jobDirectory ⟨0, 2⟩) := by decide +kernel

/-- R126: a number handed over that the courtesy list holds moves to its tail, so that the list holds it once. -/
theorem test_a_courtesy_number_stands_once :
    (CourtesyList.append ⟨[7, 8, 9], some 812⟩ 8 812).rns = [7, 9, 8] ∧
      (CourtesyList.append ⟨(List.range 64).map (· + 1), some 812⟩ 70 812).rns.length = 64 := by decide +kernel

/-- R146: the end of the start finds volume 1 on its way to the mailslot in it, though an IMPORT took the cartridge as INSERTED. -/
theorem test_the_mailslot_is_settled_under_an_import :
    let s : State := { inserted with volumes := relocated cabinet.volumes 0 .inMailslot, startPhase := .probing }
    let t := after (.importCartridge (req 3 9 (List.replicate 8 0x7E))) (withDrive s 3 .atStart)
    let settled := withDrive t 3 bare
    t.mailslot = .inserted ∧ t.importOp ≠ none ∧
      (startStep settled.toFixed settled.toCore).map (·.mailslot) = some (.volume 0) := by
  decide +kernel

/-- R6, R161 step 2: an OPEN side yields to a side found unsealed with a higher open sequence, made SUSPECT or not, and keeps the
entries of its flushed sectors. -/
theorem test_an_open_side_yields_to_an_unsealed_one :
    let other : FaceResult := { header := .unreadable, record := { fullSide 4 60 10 with state := .suspect }, unsealed := true }
    let r := cabinet.toCore.settledRecord (openedSide 3 21 40 1) other
    r.state = .suspect ∧ r.entryCount = 32 ∧ r.lastRn = some 52 ∧ r.flushed = 1 ∧
      (cabinet.toCore.settledRecord (openedSide 5 21 40 1) other).state = .opened := by decide +kernel

/-- R193, R196: a reset that finds START and SCHEDULE lost writes START once, last. -/
theorem test_the_start_record_is_written_once :
    (started .powerOn ⟨0, 1, 2, 3⟩ levelsInactive { ended := none, inside := false, lost := [.schedule, .start] }
      [.schedule, .start] cabinet).journal.map (·.1) = [.schedule, .start] := by decide +kernel

/-! ### Witnesses: reset -/

/-- ResetLeavesTheStartValues: every section kept, and every section lost, with an open front door and with none. -/
theorem witness_reset :
    let all := [Section.counter, .volumes, .pending, .dirbuf, .tallies, .schedule, .courtesy, .settings, .start]
    let go (levels : Levels) (lost : List Section) :=
      started .supplyLow ⟨3, 2, 1, 0⟩ levels { ended := none, inside := false, lost } lost three
    let kept := go levelsInactive []
    let lost := go { levelsInactive with frontDoor := true } all
    kept.counter = some ⟨100, 812⟩ ∧ kept.pendingList.map (·.state) = [.awaitingResubmit, .awaitingResubmit, .awaitingResubmit] ∧
      kept.volumes = cabinet.volumes ∧ kept.rebuilding = false ∧ (kept.links.get 0).role = .service ∧
      kept.picker.state = .moving ∧ kept.window = none ∧ lost.counter = none ∧ lost.pendingList = [] ∧
      lost.rebuilding = true ∧ lost.picker.state = .halted ∧ lost.startRecord.cause = .supplyLow ∧
      lost.alarms = [.storeLost .counter, .storeLost .pending] ∧ lost.schedule = .unset := by decide +kernel

end Sys2Proof.Tests
end

section
/-! SUPPORT. The ranges that every step keeps, as a predicate of the two parts of the state: the countdowns, the side records and
the selection, the tallies and the courtesy list, the pending list with the staging store. The order is that of
`State.legal` (Sys2Proof/Safety.lean), to which `State.legal_iff` ties it. -/

namespace Sys2Proof.Machine

/-! ### Countdowns -/

/-- The silence timer of a link unit lies in its range (R183). -/
def LinkUnit.Timed (u : LinkUnit) : Prop := ∀ n, u.timer = some n → n ≤ 60

/-- The idle timer and the operation timer of a drive lie in their ranges (R24, R29). -/
def Drive.Timed (x : Drive) : Prop := (∀ n, x.idle = some n → n ≤ 600) ∧ ∀ o, x.op = some o → o.timer ≤ 60

/-- The stall timer lies in its range (R37). -/
def Picker.Timed (p : Picker) : Prop := ∀ n, p.stall = some n → n ≤ 30

/-- The countdowns that the core holds lie in their ranges. -/
def CountdownsKept (links : Four LinkUnit) (drives : Four Drive) (picker : Picker) : Prop :=
  (∀ l, (links.get l).Timed) ∧ (∀ d, (drives.get d).Timed) ∧ picker.Timed

/-! ### Sides -/

/-- No side of a volume table is OPEN. -/
def NoneOpen (vs : Vector (Option Volume) 64) : Prop :=
  ∀ (v : SlotId) x f, vs[v] = some x → (x.side f).state ≠ .opened

/-- The faces that an inventory holds are in keeping with their states (R161). -/
def Reading.FacesLegal (rd : Reading) : Prop := (∀ r, rd.faceA = some r → r.legal) ∧ ∀ r, rd.faceB = some r → r.legal
def Inventory.FacesLegal (i : Inventory) : Prop := ∀ rd, i.reading = some rd → rd.FacesLegal
def FacesLegal (i : Option Inventory) : Prop := ∀ j, i = some j → j.FacesLegal

/-- The sides are in keeping with their states, none is OPEN while one is selected, and the faces read are legal (R6, R14, R17,
R161). -/
def SidesKept (vs : Vector (Option Volume) 64) (sel : Option Selection) (i : Option Inventory) : Prop :=
  legalTable vs ∧ (sel ≠ none → NoneOpen vs) ∧ FacesLegal i

/-! ### Tallies and courtesy list -/

/-- The current tallies and the courtesy list lie in their ranges (R126, R131). -/
def BooksKept (ts : Vector StationTally 16) (l : CourtesyList) : Prop := (∀ st : Fin 16, ts[st].legal) ∧ l.legal

/-! ### Pending list and staging store -/

/-- The weight of a transfer among the submissions: 1 for a SUBMIT's, which holds a pending slot (R52). -/
def slotsOf (t : Option Transfer) : Nat :=
  match t with
  | some x => match x.kind with
    | .submission _ => 1
    | .resubmission _ => 0
  | none => 0

/-- The submissions in transfer (R52). -/
def slotsTaken (ts : Four (Option Transfer)) : Nat := slotsOf ts.d0 + slotsOf ts.d1 + slotsOf ts.d2 + slotsOf ts.d3

/-- The staging blocks of a transfer (R51). -/
def heldBlocks (t : Option Transfer) : List Nat :=
  match t with
  | some x => x.blocks
  | none => []

/-- The staging blocks of the transfers and of the pending entries (R51). -/
def transferBlocks (ts : Four (Option Transfer)) : List Nat := ts.toList.flatMap heldBlocks
def entryBlocks (ps : List PendingEntry) : List Nat := ps.flatMap (fun p => p.blocks.getD [])

/-- The staging block map is the one of the blocks owned, none of them twice (R51). -/
def MapOf (map : List Bool) (owned : List Nat) : Prop :=
  map.length = 256 ∧ owned.Nodup ∧ ∀ i : Nat, map[i]? = some true ↔ i ∈ owned

/-- An entry that waits for its resubmission or is WITHDRAWN owns no block (R51, R57). -/
def PendingEntry.Unstaged (p : PendingEntry) : Prop :=
  p.state = .awaitingResubmit ∨ p.state = .withdrawn → p.blocks = none

/-- The pending list with the submissions in transfer, and the staging store (R51, R52, R57). -/
def ReceiptsKept (e : Fixed) (ps : List PendingEntry) (map : List Bool) : Prop :=
  legalPending ps ∧ (e.pendingValid = false → ps = []) ∧ ps.length + slotsTaken e.transfers ≤ 16 ∧
    (∀ k, e.counter = some k → ∀ p ∈ ps, p.rn < k.nextRn) ∧ MapOf map (entryBlocks ps ++ transferBlocks e.transfers) ∧
    ∀ p ∈ ps, p.Unstaged

/-! ### The whole -/

/-- The part of the state that only a command's own effect changes lies in its ranges (R49, R52, R114, R131, R134, R135, R164,
R186). -/
structure Fixed.Ranged (e : Fixed) : Prop where
  settings : e.settings.legal
  schedule : e.schedule.legal
  counter : ∀ k, e.counter = some k → k.legal
  numbers : ∀ k, e.counter = some k → k.nextRn + slotsTaken e.transfers ≤ 4294967295
  noTransfer : e.counter = none ∨ e.pendingValid = false → slotsTaken e.transfers = 0
  tallyDay : legalDay e.tallyDay
  snapshot : ∀ st : Fin 16, e.snapshot.stations[st].legal
  clock : ∀ n, e.clock = some n → n ≤ 86399
  window : ∀ n, e.window = some n → n ≤ 43200
  debounce : ∀ i n, e.panel.timers.of i = some n → n ≤ 160

/-- Both parts of the state lie in their ranges. -/
def Ranged (e : Fixed) (c : Core) : Prop :=
  e.Ranged ∧ CountdownsKept c.links c.drives c.picker ∧ SidesKept c.volumes c.selection c.inventory ∧
    BooksKept c.tallies c.courtesy ∧ ReceiptsKept e c.pendingList c.blockMap

/-! ### The sides of a core -/

/-- The sides of a core are those of the volumes of its table (R1). -/
theorem Core.mem_sides (c : Core) (sd : Side) (r : SideRecord) :
    (sd, r) ∈ c.sides ↔ ∃ x, c.volumes[sd.slot] = some x ∧ r = x.side sd.face := by
  unfold Core.sides
  simp only [List.mem_flatMap, allSlots, List.mem_finRange, true_and]
  constructor
  · rintro ⟨v, h⟩
    cases hv : c.vol v with
    | none => simp [hv] at h
    | some x =>
      simp only [hv, List.mem_cons, Prod.mk.injEq, List.not_mem_nil, or_false] at h
      rcases h with ⟨rfl, rfl⟩ | ⟨rfl, rfl⟩ <;> exact ⟨x, hv, rfl⟩
  · rintro ⟨x, hx, rfl⟩
    refine ⟨sd.slot, ?_⟩
    have hv : c.vol sd.slot = some x := hx
    rcases sd with ⟨v, f⟩
    cases f <;> simp_all [Volume.side]

/-- No side of a core is OPEN where none of its table is. -/
theorem Core.noneOpen_iff (c : Core) : NoneOpen c.volumes ↔ ∀ p ∈ c.sides, p.2.state ≠ .opened := by
  constructor
  · rintro h ⟨sd, r⟩ hp
    obtain ⟨x, hx, rfl⟩ := (c.mem_sides sd r).mp hp
    exact h _ x _ hx
  · intro h v x f hx
    exact h (⟨v, f⟩, x.side f) ((c.mem_sides _ _).mpr ⟨x, hx, rfl⟩)

/-- The OPEN side is a side of the table in state OPEN (R14). -/
theorem Core.openSide_some {c : Core} {q : Side × SideRecord} (h : c.openSide = some q) :
    ∃ x, c.volumes[q.1.slot] = some x ∧ q.2 = x.side q.1.face ∧ q.2.state = .opened := by
  obtain ⟨x, hx, hr⟩ := (c.mem_sides q.1 q.2).mp (List.mem_of_find?_eq_some h)
  exact ⟨x, hx, hr, by simpa using List.find?_some h⟩

/-- There is no OPEN side exactly where no side is OPEN. -/
theorem Core.openSide_none (c : Core) : c.openSide = none ↔ NoneOpen c.volumes := by
  rw [c.noneOpen_iff]
  simp [Core.openSide, List.find?_eq_none]

/-! ### The tie to `State.legal` -/

theorem State.submissions_eq (s : State) : s.submissions = slotsTaken s.transfers := by
  rcases h : s.transfers with ⟨a, b, c, d⟩
  simp only [State.submissions, slotsTaken, h, Four.toList]
  have weight (t : Option Transfer) (ts : List (Option Transfer)) (f : Option Transfer → Bool)
      (hf : slotsOf t = if f t = true then 1 else 0) : ((t :: ts).filter f).length = slotsOf t + (ts.filter f).length := by
    rw [List.filter_cons, hf]
    split <;> simp [Nat.add_comm]
  have hw (t : Option Transfer) : slotsOf t = if (match t with
      | some x => match x.kind with
        | .submission _ => true
        | .resubmission _ => false
      | none => false) = true then 1 else 0 := by
    rcases t with _ | ⟨_, k, _⟩
    · rfl
    · cases k <;> rfl
  rw [weight _ _ _ (hw a), weight _ _ _ (hw b), weight _ _ _ (hw c), weight _ _ _ (hw d)]
  simp [Nat.add_assoc]

theorem State.owned_eq (s : State) : s.owned = entryBlocks s.pendingList ++ transferBlocks s.transfers :=
  rfl

@[simp] theorem PendingEntry.stored_rn (p : PendingEntry) : p.stored.rn = p.rn := rfl

/-- The pending list that the store holds is legal where the one of the core is (R57). -/
theorem legalPending_stored (ps : List PendingEntry) : legalPending (ps.map PendingEntry.stored) ↔ legalPending ps := by
  simp [legalPending, List.pairwise_map]

/-- A state is legal where its two parts lie in their ranges, its store is sound and the stores of its record are legal. -/
theorem State.legal_iff (s : State) :
    s.legal ↔ Ranged s.toFixed s.toCore ∧ s.retained.sound ∧ ∀ p ∈ s.journal, p.2.legal := by
  have hp : s.retained.pendingList = s.pendingList.map PendingEntry.stored := rfl
  constructor
  · rintro ⟨⟨⟨h1, h2, h3, h4⟩, h5, h6, h7, h8, h9⟩, hs, hj, ⟨t1, t2, t3, t4, t5, t6, t7⟩, ⟨r1, r2, r3⟩, ⟨g1, g2, g3, g4⟩, o1, o2⟩
    rw [hp, legalPending_stored] at h8
    rw [State.submissions_eq] at r1 r3
    simp only [State.submissions_eq] at r2
    rw [State.owned_eq] at g2 g3
    refine ⟨⟨⟨h1, h2, h3, fun k hk => (r2 k hk).1, r3, h4, fun st => (h5 st).2, t1, t2, t3⟩, ⟨t4, fun d => ⟨t5 d, t6 d⟩, t7⟩,
      ⟨h7, fun h => s.toCore.noneOpen_iff.mpr (o1 h), fun i hi rd hr => o2 i rd hi hr⟩, ⟨fun st => (h5 st).1, h6⟩, h8, ?_, r1,
      fun k hk => (r2 k hk).2,
      ⟨g1, g2, g3⟩, g4⟩, hs, hj⟩
    exact fun h => List.map_eq_nil_iff.mp (h9 h)
  · rintro ⟨⟨he, ⟨t4, td, t7⟩, ⟨h7, o1, o2⟩, ⟨h5, h6⟩, h8, h9, r1, r2, ⟨g1, g2, g3⟩, g4⟩, hs, hj⟩
    refine ⟨⟨⟨he.settings, he.schedule, he.counter, he.tallyDay⟩, fun st => ⟨h5 st, he.snapshot st⟩, h6, h7, ?_, ?_⟩, hs, hj,
      ⟨he.clock, he.window, he.debounce, t4, fun d => (td d).1, fun d => (td d).2, t7⟩, ⟨?_, ?_, ?_⟩, ⟨g1, ?_, ?_, g4⟩,
      fun h => s.toCore.noneOpen_iff.mp (o1 h), fun i rd hi hr => o2 i hi rd hr⟩
    · rw [hp, legalPending_stored]
      exact h8
    · exact fun h => List.map_eq_nil_iff.mpr (h9 h)
    · rw [State.submissions_eq]
      exact r1
    · intro k hk
      rw [State.submissions_eq]
      exact ⟨he.numbers k hk, r2 k hk⟩
    · rw [State.submissions_eq]
      exact he.noTransfer
    · rw [State.owned_eq]
      exact g2
    · rw [State.owned_eq]
      exact g3

end Sys2Proof.Machine
end

section
/-! SUPPORT. What each shared operation keeps of the ranges: links, drives, sides, tallies, pending list and staging store. -/

namespace Sys2Proof.Machine

/-! ### One of four -/

/-- A property of all four is kept where one of them is replaced by a thing that has it. -/
theorem Four.forall_set {α : Type} {P : α → Prop} {x : Four α} (h : ∀ i, P (x.get i)) (i : Fin 4) {v : α} (hv : P v) :
    ∀ j, P ((x.set i v).get j) := by
  intro j
  by_cases hj : j = i
  · subst hj
    simpa using hv
  · simpa [Four.get_set_other _ _ _ _ hj] using h j

/-! ### The rules for the parts of the core -/

section
variable {e : Fixed} {c : Core}

theorem Ranged.fixed (h : Ranged e c) : e.Ranged := h.1

/-- Both ways of a choice keep the ranges. -/
theorem Ranged.ite {p : Prop} [Decidable p] {a b : Core} (ha : Ranged e a) (hb : Ranged e b) : Ranged e (if p then a else b) := by
  split
  · exact ha
  · exact hb

/-- A change of the link units that keeps their timers in range. -/
theorem Ranged.withLinks (h : Ranged e c) {links : Four LinkUnit} (hl : ∀ l, (links.get l).Timed) :
    Ranged e { c with links := links } := by
  obtain ⟨he, ⟨-, ht⟩, hs⟩ := h
  exact ⟨he, ⟨hl, ht⟩, hs⟩

theorem Ranged.onLink (h : Ranged e c) (l : LinkId) {f : LinkUnit → LinkUnit} (hf : ∀ u, u.Timed → (f u).Timed) :
    Ranged e (c.onLink l f) :=
  h.withLinks (Four.forall_set h.2.1.1 l (hf _ (h.2.1.1 l)))

theorem Ranged.mapLinks (h : Ranged e c) {f : LinkUnit → LinkUnit} (hf : ∀ u, u.Timed → (f u).Timed) :
    Ranged e { c with links := c.links.map f } :=
  h.withLinks (fun l => by simpa using hf _ (h.2.1.1 l))

/-- A change of the drives that keeps their timers in range. -/
theorem Ranged.withDrives (h : Ranged e c) {drives : Four Drive} (hd : ∀ d, (drives.get d).Timed) :
    Ranged e { c with drives := drives } := by
  obtain ⟨he, ⟨hl, -, hp⟩, hs⟩ := h
  exact ⟨he, ⟨hl, hd, hp⟩, hs⟩

/-- A change of a drive's record that keeps its timers in range, as where it leaves them. -/
theorem Ranged.onDrive (h : Ranged e c) (d : DriveId) {f : Drive → Drive}
    (hf : ∀ x, x.Timed → (f x).Timed) : Ranged e (c.onDrive d f) :=
  h.withDrives (Four.forall_set h.2.1.2.1 d (hf _ (h.2.1.2.1 d)))

theorem Ranged.mapDrives (h : Ranged e c) {f : Drive → Drive} (hf : ∀ x, x.Timed → (f x).Timed) :
    Ranged e { c with drives := c.drives.map f } :=
  h.withDrives (fun d => by simpa using hf _ (h.2.1.2.1 d))

/-- A change of the picker that keeps its stall timer in range. -/
theorem Ranged.withPicker (h : Ranged e c) {p : Picker} (hp : p.Timed) : Ranged e { c with picker := p } := by
  obtain ⟨he, ⟨hl, hd, -⟩, hs⟩ := h
  exact ⟨he, ⟨hl, hd, hp⟩, hs⟩

/-- The picker's stall timer lies in its range. -/
theorem Ranged.picker (h : Ranged e c) : c.picker.Timed := h.2.1.2.2

theorem Ranged.sides (h : Ranged e c) : SidesKept c.volumes c.selection c.inventory := h.2.2.1

theorem Ranged.books (h : Ranged e c) : BooksKept c.tallies c.courtesy := h.2.2.2.1

theorem Ranged.receipts (h : Ranged e c) : ReceiptsKept e c.pendingList c.blockMap := h.2.2.2.2

/-- A change of the volume table, the selection and the inventory that keeps the sides. -/
theorem Ranged.withSides (h : Ranged e c) {vs : Vector (Option Volume) 64} {sel : Option Selection} {i : Option Inventory}
    (hs : SidesKept vs sel i) : Ranged e { c with volumes := vs, selection := sel, inventory := i } :=
  ⟨h.1, h.2.1, hs, h.2.2.2⟩

/-- A change of the tallies and the courtesy list that keeps them in range. -/
theorem Ranged.withBooks (h : Ranged e c) {ts : Vector StationTally 16} {l : CourtesyList} (hb : BooksKept ts l) :
    Ranged e { c with tallies := ts, courtesy := l } :=
  ⟨h.1, h.2.1, h.2.2.1, hb, h.2.2.2.2⟩

/-- A change of the pending list and the staging store that keeps their rules. -/
theorem Ranged.withReceipts (h : Ranged e c) {ps : List PendingEntry} {map : List Bool} (hr : ReceiptsKept e ps map) :
    Ranged e { c with pendingList := ps, blockMap := map } :=
  ⟨h.1, h.2.1, h.2.2.1, h.2.2.2.1, hr⟩

/-! ### Frames and notices (10-3, 10-4) -/

@[simp] theorem LinkUnit.emit_timer (u : LinkUnit) (f : OutFrame) : (u.emit f).timer = u.timer := by
  unfold LinkUnit.emit
  split <;> rfl

@[simp] theorem LinkUnit.deliver_timer (u : LinkUnit) (n : Notice) : (u.deliver n).timer = u.timer := by
  unfold LinkUnit.deliver
  split <;> rfl

theorem LinkUnit.Timed.emit {u : LinkUnit} (h : u.Timed) (f : OutFrame) : (u.emit f).Timed := by
  simpa [LinkUnit.Timed] using h

theorem LinkUnit.Timed.deliver {u : LinkUnit} (h : u.Timed) (n : Notice) : (u.deliver n).Timed := by
  simpa [LinkUnit.Timed] using h

theorem Ranged.emit (h : Ranged e c) (l : LinkId) (f : OutFrame) : Ranged e (c.emit l f) :=
  h.onLink l (fun _ hu => hu.emit f)

theorem Ranged.refuse (h : Ranged e c) (r : Request) (k : RefusalCode) : Ranged e (c.refuse r k) := h.emit _ _
theorem Ranged.answer (h : Ranged e c) (r : Request) (b : DoneBody) : Ranged e (c.answer r b) := h.emit _ _
theorem Ranged.accept (h : Ranged e c) (r : Request) (b : AcceptedBody) : Ranged e (c.accept r b) := h.emit _ _
theorem Ranged.result (h : Ranged e c) (r : Request) (b : ResultBody) : Ranged e (c.result r b) := h.emit _ _
theorem Ranged.mediaDone (h : Ranged e c) (o : Orderer) (x : MediaOutcome) (v : Option SlotId) :
    Ranged e (c.mediaDone o x v) := h.emit _ _

theorem Ranged.notify (h : Ranged e c) (l : LinkId) (n : Notice) : Ranged e (c.notify l n) :=
  h.onLink l (fun _ hu => hu.deliver n)

theorem Ranged.notifyAll (h : Ranged e c) (n : Notice) : Ranged e (c.notifyAll n) := h.mapLinks (fun _ hu => hu.deliver n)

theorem Ranged.notifyRole (h : Ranged e c) (role : Role) (n : Notice) : Ranged e (c.notifyRole role n) := by
  refine h.mapLinks (fun u hu => ?_)
  split
  · exact hu.deliver n
  · exact hu

theorem Ranged.setAlarm (h : Ranged e c) (a : Alarm) : Ranged e (c.setAlarm a) := by
  unfold Core.setAlarm
  split
  · exact h
  · exact Ranged.notifyAll (c := { c with alarms := _ }) h _

theorem Ranged.clearAlarm (h : Ranged e c) (a : Alarm) : Ranged e (c.clearAlarm a) := by
  unfold Core.clearAlarm
  split
  · exact Ranged.notifyAll (c := { c with alarms := _ }) h _
  · exact h

theorem Ranged.evalAlarm (h : Ranged e c) (a : Alarm) (stands : Bool) : Ranged e (c.evalAlarm a stands) := by
  unfold Core.evalAlarm
  split
  · exact h.setAlarm a
  · exact h.clearAlarm a

theorem Ranged.evalSuspect (h : Ranged e c) : Ranged e c.evalSuspect := h.evalAlarm _ _

/-! ### The volume table (chapter 1) -/

/-- A volume table after a change of one record. -/
theorem volumes_set (vs : Vector (Option Volume) 64) (v w : SlotId) (x : Option Volume) :
    (vs.set v x)[w] = if v = w then x else vs[w] := by
  rw [Fin.getElem_fin, Vector.getElem_set]
  simp [Fin.ext_iff]

/-- A record's sides are those of the table where its location only changes. -/
def SameSides (x : Option Volume) (y : Volume) : Prop := ∀ f, ∃ z, x = some z ∧ z.side f = y.side f

/-- A record put in the place of one with the same sides keeps the table. -/
theorem SidesKept.setSame {vs : Vector (Option Volume) 64} {sel : Option Selection} {i : Option Inventory}
    (h : SidesKept vs sel i) (v : SlotId) {y : Volume} (hy : SameSides vs[v] y) : SidesKept (vs.set v (some y)) sel i := by
  have hside : ∀ (w : SlotId) z f, (vs.set v (some y))[w] = some z → ∃ z', vs[w] = some z' ∧ z'.side f = z.side f := by
    intro w z f hz
    rw [volumes_set] at hz
    split at hz
    · next hvw =>
      cases hz
      exact hvw ▸ hy f
    · exact ⟨z, hz, rfl⟩
  obtain ⟨⟨hl, ho⟩, hn, hi⟩ := h
  refine ⟨⟨fun w z f hz => ?_, fun a b x z f g hx hz hf hg => ?_⟩, fun hs w z f hz => ?_, hi⟩
  · obtain ⟨z', hz', hside⟩ := hside w z f hz
    exact hside ▸ hl w z' f hz'
  · obtain ⟨x', hx', hxs⟩ := hside a x f hx
    obtain ⟨z', hz', hzs⟩ := hside b z g hz
    exact ho a b x' z' f g hx' hz' (hxs ▸ hf) (hzs ▸ hg)
  · obtain ⟨z', hz', hside⟩ := hside w z f hz
    exact hside ▸ hn hs w z' f hz'

/-- A record given up, or replaced by one with no side OPEN, keeps the table. -/
theorem SidesKept.setClosed {vs : Vector (Option Volume) 64} {sel : Option Selection} {i : Option Inventory}
    (h : SidesKept vs sel i) (v : SlotId) {x : Option Volume}
    (hx : ∀ y f, x = some y → (y.side f).legal ∧ (y.side f).state ≠ .opened) : SidesKept (vs.set v x) sel i := by
  have hrec : ∀ (w : SlotId) z f, (vs.set v x)[w] = some z →
      (z.side f).legal ∧ (z.side f).state ≠ .opened ∨ vs[w] = some z := by
    intro w z f hz
    rw [volumes_set] at hz
    split at hz
    · exact .inl (hx z f hz)
    · exact .inr hz
  obtain ⟨⟨hl, ho⟩, hn, hi⟩ := h
  refine ⟨⟨fun w z f hz => ?_, fun a b y z f g hy hz hf hg => ?_⟩, fun hs w z f hz => ?_, hi⟩
  · exact (hrec w z f hz).elim And.left (hl w z f)
  · have hy' := (hrec a y f hy).resolve_left (fun h => h.2 hf)
    have hz' := (hrec b z g hz).resolve_left (fun h => h.2 hg)
    exact ho a b y z f g hy' hz' hf hg
  · exact (hrec w z f hz).elim And.right (hn hs w z f)

/-- A side's record replaced in the table (R6). -/
@[simp] theorem Volume.side_setSide (x : Volume) (f g : Face) (r : SideRecord) :
    (x.setSide f r).side g = if f = g then r else x.side g := by
  cases f <;> cases g <;> rfl

/-- A record whose change of one side keeps it legal, and OPEN only where that side was, keeps the table. -/
theorem SidesKept.setSide {vs : Vector (Option Volume) 64} {sel : Option Selection} {i : Option Inventory}
    (h : SidesKept vs sel i) {v : SlotId} {x : Volume} (hv : vs[v] = some x) (f : Face) {r : SideRecord} (hr : r.legal)
    (ho : r.state = .opened → (x.side f).state = .opened) : SidesKept (vs.set v (some (x.setSide f r))) sel i := by
  have hrec : ∀ (w : SlotId) z g, (vs.set v (some (x.setSide f r)))[w] = some z →
      ((z.side g).legal ∧ ((z.side g).state = .opened → ∃ z', vs[w] = some z' ∧ (z'.side g).state = .opened)) := by
    intro w z g hz
    rw [volumes_set] at hz
    split at hz
    · next hvw =>
      cases hz
      rw [Volume.side_setSide]
      split
      · next hfg => exact ⟨hr, fun h => ⟨x, hvw ▸ hv, hfg ▸ ho h⟩⟩
      · exact ⟨h.1.1 v x g hv, fun h => ⟨x, hvw ▸ hv, h⟩⟩
    · exact ⟨h.1.1 w z g hz, fun h => ⟨z, hz, h⟩⟩
  obtain ⟨⟨-, hone⟩, hn, hi⟩ := h
  refine ⟨⟨fun w z g hz => (hrec w z g hz).1, fun a b y z p q hy hz hp hq => ?_⟩, fun hs w z g hz hg => ?_, hi⟩
  · obtain ⟨y', hy', hyo⟩ := (hrec a y p hy).2 hp
    obtain ⟨z', hz', hzo⟩ := (hrec b z q hz).2 hq
    exact hone a b y' z' p q hy' hz' hyo hzo
  · obtain ⟨z', hz', hzo⟩ := (hrec w z g hz).2 hg
    exact hn hs w z' g hz' hzo

theorem Ranged.withVolumes (h : Ranged e c) {vs : Vector (Option Volume) 64}
    (hs : SidesKept vs c.selection c.inventory) : Ranged e { c with volumes := vs } := h.withSides hs

theorem Ranged.setLoc (h : Ranged e c) (v : SlotId) (loc : Location) : Ranged e (c.setLoc v loc) := by
  unfold Core.setLoc
  split
  · next x hx =>
    have hsame : SameSides c.volumes[v] { x with loc := loc } := fun f => ⟨x, hx, by cases f <;> rfl⟩
    have hmoved : Ranged e (c.setVol v (some { x with loc := loc })) := h.withVolumes (h.sides.setSame v hsame)
    simp only
    split
    · exact hmoved.evalSuspect
    · exact hmoved
  · exact h

theorem Ranged.makeVacant (h : Ranged e c) (v : SlotId) : Ranged e (c.makeVacant v) :=
  Ranged.evalSuspect (c := c.setVol v none) (h.withVolumes (h.sides.setClosed v (fun _ _ hy => nomatch hy)))

/-- A change of a side's record that keeps it legal, and OPEN only where it was. -/
theorem Ranged.onSide (h : Ranged e c) (sd : Side) {f : SideRecord → SideRecord}
    (hf : ∀ x, c.volumes[sd.slot] = some x → (x.side sd.face).legal →
      (f (x.side sd.face)).legal ∧ ((f (x.side sd.face)).state = .opened → (x.side sd.face).state = .opened)) :
    Ranged e (c.onSide sd f) := by
  unfold Core.onSide
  split
  · next x hx =>
    obtain ⟨hl, ho⟩ := hf x hx (h.sides.1.1 _ _ _ hx)
    exact h.withVolumes (h.sides.setSide hx sd.face hl ho)
  · exact h

end

end Sys2Proof.Machine
end

section
/-! SUPPORT. What the operations over drives, claims, jobs, mounts and moves keep of the ranges, and those of the Work Queue
(chapters 2, 4, 5 and 6). An operation on fields of which the ranges say nothing keeps them by definition. -/

namespace Sys2Proof.Machine

section
variable {e : Fixed} {c : Core}

/-! ### Drives (2-1) -/

/-- The idle timer runs from the settings' limit (R186). -/
theorem Fixed.Ranged.idle (h : e.Ranged) : e.settings.idle ≤ 600 := h.settings.2.2.2.1

/-- A drive whose idle timer has stopped. -/
theorem Drive.Timed.stopped {x y : Drive} (h : x.Timed) (hi : y.idle = none) (ho : y.op = x.op) : y.Timed :=
  ⟨fun n hn => by simp [hi] at hn, fun o h' => h.2 o (ho ▸ h')⟩

/-- A drive whose operation has ended. -/
theorem Drive.Timed.ended {x y : Drive} (h : x.Timed) (hi : y.idle = x.idle) (ho : y.op = none) : y.Timed :=
  ⟨fun n hn => h.1 n (hi ▸ hn), fun o h' => by simp [ho] at h'⟩

/-- A drive with neither timer running. -/
theorem Drive.timed_of_none {y : Drive} (hi : y.idle = none) (ho : y.op = none) : y.Timed :=
  ⟨fun n hn => by simp [hi] at hn, fun o h' => by simp [ho] at h'⟩

theorem Ranged.issue (h : Ranged e c) (d : DriveId) (kind : OpKind) (user : OpUser) : Ranged e (c.issue d kind user) :=
  h.onDrive d (fun _ hx => ⟨hx.1, fun o ho => by cases ho; exact Nat.le_refl _⟩)

theorem Ranged.endOp (h : Ranged e c) (d : DriveId) : Ranged e (c.endOp e d) :=
  h.onDrive d (fun _ hx => hx.ended rfl rfl)

theorem Ranged.seat (h : Ranged e c) (d : DriveId) (sd : Side) : Ranged e (c.seat d sd) := h.onDrive d (by exact fun _ hx => hx)

/-- A drive whose idle timer has been started. -/
theorem Drive.Timed.started {x y : Drive} (h : x.Timed) (he : e.Ranged) (hi : y.idle = some e.settings.idle ∨ y.idle = x.idle)
    (ho : y.op = x.op) : y.Timed := by
  refine ⟨fun n hn => ?_, fun o h' => h.2 o (ho ▸ h')⟩
  rcases hi with hi | hi
  · rw [hi] at hn
    cases hn
    exact he.idle
  · exact h.1 n (hi ▸ hn)

theorem Ranged.startIdle (h : Ranged e c) (d : DriveId) : Ranged e (c.startIdle e d) := by
  refine h.onDrive d (fun x hx => ?_)
  split
  · exact hx.started h.fixed (.inl rfl) rfl
  · exact hx

theorem Ranged.takeClaim (h : Ranged e c) (d : DriveId) : Ranged e (c.takeClaim d) :=
  h.onDrive d (fun _ hx => hx.stopped rfl rfl)

theorem Ranged.releaseClaim (h : Ranged e c) (d : DriveId) : Ranged e (c.releaseClaim e d) := by
  refine h.onDrive d (fun x hx => hx.started h.fixed ?_ rfl)
  simp only
  split
  · exact .inl rfl
  · exact .inr rfl

theorem Ranged.beginUnload (h : Ranged e c) (d : DriveId) : Ranged e (c.beginUnload d) := by
  have unloading : Ranged e (c.onDrive d (fun x => { x with state := .unloading, idle := none })) :=
    h.onDrive d (fun _ hx => hx.stopped rfl rfl)
  exact .ite unloading (.ite (unloading.issue d _ _) (unloading.issue d _ _))

theorem Ranged.emptyDrive (h : Ranged e c) (d : DriveId) : Ranged e (c.emptyDrive d) :=
  h.onDrive d (fun _ hx => hx.stopped rfl rfl)

theorem Ranged.beginLoad (h : Ranged e c) (d : DriveId) : Ranged e (c.beginLoad d) :=
  (h.onDrive d (by exact fun _ hx => hx)).issue d _ _

theorem Ranged.makeReady (h : Ranged e c) (d : DriveId) : Ranged e (c.makeReady d) := h.onDrive d (by exact fun _ hx => hx)

/-! ### The work queue, mounts and moves (2-3, 2-4-1, 4-1) -/

theorem Ranged.operatorNotice (h : Ranged e c) (v : SlotId) : Ranged e (c.operatorNotice v) := h.notifyRole _ _

theorem Ranged.onJob (h : Ranged e c) (id : JobId) (f : Job → Job) : Ranged e (c.onJob id f) := h

theorem Ranged.claimJob (h : Ranged e c) (d : DriveId) (id : JobId) : Ranged e (c.claimJob d id) :=
  ((h.takeClaim d).onDrive d (by exact fun _ hx => hx)).onJob id _

theorem Ranged.unclaimJob (h : Ranged e c) (id : JobId) : Ranged e (c.unclaimJob e id) := by
  unfold Core.unclaimJob
  split
  · next d _ => exact ((h.onDrive d (by exact fun _ hx => hx)).releaseClaim d).onJob id _
  · exact h

theorem Ranged.dropRequester (h : Ranged e c) (r : Requester) : Ranged e (c.dropRequester r) := h

theorem Ranged.onMount (h : Ranged e c) (n : Nat) (f : MountOp → MountOp) : Ranged e (c.onMount n f) := h
theorem Ranged.onMountMove (h : Ranged e c) (n : Nat) (f : Move → Move) : Ranged e (c.onMountMove n f) := h
theorem Ranged.dropMount (h : Ranged e c) (n : Nat) : Ranged e (c.dropMount n) := h
theorem Ranged.endBoundMount (h : Ranged e c) (b : Binding) : Ranged e (c.endBoundMount b) := h

theorem Ranged.joinMove (h : Ranged e c) (src : Position) (dst : Dest) (cls : Nat) (by_ : Option LinkId) (serves : Serves)
    (carries : Option SlotId) : Ranged e (c.joinMove src dst cls by_ serves carries) := h

theorem Ranged.joinBoundMove (h : Ranged e c) (b : Binding) (src : Position) (dst : Dest) (by_ : Option LinkId)
    (serves : Serves) (carries : Option SlotId) : Ranged e (c.joinBoundMove b src dst by_ serves carries) := by
  unfold Core.joinBoundMove
  split <;> exact h

theorem Ranged.newMount (h : Ranged e c) (target : MountTarget) (rs : List Requester) (cls prio : Nat) (src : Position)
    (dst : Dest) (by_ : Option LinkId) (carries : Option SlotId) :
    Ranged e (c.newMount target rs cls prio src dst by_ carries) := h

theorem Ranged.joinMount (h : Ranged e c) (n : Nat) (r : Requester) : Ranged e (c.joinMount n r) := h
theorem Ranged.request (h : Ranged e c) (who : Requester) (sd : Side) : Ranged e (c.request who sd) := h

/-! ### Moves and the picker (R37 to R43) -/

/-- A drive from which the picker takes the cartridge (R23). -/
theorem Ranged.leftDrive (h : Ranged e c) (d : DriveId) :
    Ranged e (c.onDrive d (fun x => { x with loaded := none, filingFlag := false })) := h.onDrive d (by exact fun _ hx => hx)

theorem Ranged.depart (h : Ranged e c) (src dst : Position) (carries : Option SlotId) : Ranged e (c.depart src dst carries) := by
  cases carries with
  | none =>
    cases src with
    | drive d f => exact .ite (h.leftDrive d) (h.leftDrive d)
    | mailslot => exact .ite h h
    | slot w => exact .ite h h
  | some v =>
    have moved := fun loc => h.setLoc v loc
    cases src with
    | drive d f => exact .ite ((moved _).leftDrive d) ((moved _).leftDrive d)
    | mailslot => exact .ite (moved _) (moved _)
    | slot w => exact .ite (moved _) (moved _)

theorem Ranged.arrive (h : Ranged e c) (p : Position) (carries : Option SlotId) : Ranged e (c.arrive p carries) := by
  cases carries with
  | none =>
    cases p with
    | drive d f => exact h.onDrive d (by exact fun _ hx => hx)
    | mailslot => exact h
    | slot v => exact h
  | some v =>
    have moved := h.setLoc v p.location
    cases p with
    | drive d f => exact moved.seat d _
    | mailslot => exact moved
    | slot w => exact moved

theorem Ranged.withMailslot (h : Ranged e c) (m : Mailslot) : Ranged e { c with mailslot := m } := h

theorem Ranged.returnToSource (h : Ranged e c) (src dst : Position) (carries : Option SlotId) :
    Ranged e (c.returnToSource src dst carries) := by
  unfold Core.returnToSource
  extract_lets c1 c2
  have back : Ranged e c1 := by
    unfold c1
    split
    · split
      · exact h.arrive _ _
      · exact h.onDrive _ (by exact fun _ hx => hx)
    · exact h.arrive _ _
  have put : Ranged e c2 := .ite back back
  exact .ite put put

theorem Picker.timed_of_none {p : Picker} (h : p.stall = none) : p.Timed := fun n hn => by simp [h] at hn

theorem Ranged.beginMotion (h : Ranged e c) (m : Motion) : Ranged e (c.beginMotion m) :=
  h.withPicker (fun _ hn => by cases hn; exact Nat.le_refl _)

theorem Ranged.pickerIdle (h : Ranged e c) : Ranged e c.pickerIdle := h.withPicker (Picker.timed_of_none rfl)

theorem Ranged.grantHold (h : Ranged e c) : Ranged e c.grantHold := by
  unfold Core.grantHold
  split
  · exact Ranged.emit (c := { c with hold := _ }) h _ _
  · exact h

theorem Ranged.recoveryDone (h : Ranged e c) (x : MediaOutcome) : Ranged e (c.recoveryDone x) := by
  unfold Core.recoveryDone
  split
  · exact Ranged.mediaDone (h.withPicker (p := { c.picker with by_ := none }) h.picker) _ _ _
  · exact h

/-! ### The Fee Unit (R118, R126, R132) -/

theorem StationTally.of_put (t : StationTally) (cls k : TallyClass) (r : TallyRecord) :
    (t.put cls r).of k = if k = cls then r else t.of k := by
  cases cls <;> cases k <;> rfl

/-- The records of a tally with an item added (R132). -/
theorem StationTally.of_add (t : StationTally) (cls k : TallyClass) (cents : Nat) : (t.add cls cents).of k =
    if k = cls then { count := min ((t.of cls).count + 1) 65535, cents := min ((t.of cls).cents + cents) 999999999 }
    else t.of k := StationTally.of_put t cls k _

/-- A station's tally stays in its ranges with an item added, of which a courtesy item has no cents (R131, R132). -/
theorem StationTally.legal.add {t : StationTally} (h : t.legal) (cls : TallyClass) (cents : Nat)
    (hc : cls = .courtesy → cents = 0) : (t.add cls cents).legal := by
  obtain ⟨hr, h0⟩ := h
  refine ⟨fun k => ?_, ?_⟩
  · rw [StationTally.of_add]
    split
    · exact ⟨Nat.min_le_right _ _, Nat.min_le_right _ _⟩
    · exact hr k
  · have hcourtesy : (t.add cls cents).courtesy = (t.add cls cents).of .courtesy := rfl
    have hold : (t.of .courtesy).cents = 0 := h0
    rw [hcourtesy, StationTally.of_add]
    split
    · next hk => simp [← hk, hold, hc hk.symm]
    · exact hold

theorem Ranged.addTally (h : Ranged e c) (station : Nat) (cls : TallyClass) (cents : Nat) (hc : cls = .courtesy → cents = 0) :
    Ranged e (c.addTally station cls cents) := by
  obtain ⟨ht, hl⟩ := h.books
  refine h.withBooks ⟨fun st => ?_, hl⟩
  rw [Fin.getElem_fin, Vector.getElem_set]
  split
  · exact (ht _).add cls cents hc
  · exact ht st

theorem CourtesyList.legal.remove {l : CourtesyList} (h : l.legal) (rn : Nat) : (l.remove rn).legal := by
  obtain ⟨hlen, hnd, hday⟩ := h
  refine ⟨(List.length_filter_le _ _).trans hlen, hnd.filter _, ?_⟩
  show (if (l.rns.filter (· ≠ rn)).isEmpty then none else l.day) = none ↔ l.rns.filter (· ≠ rn) = []
  cases hf : l.rns.filter (· ≠ rn) with
  | nil => simp
  | cons a as =>
    have hne : l.rns ≠ [] := fun hl => by simp [hl] at hf
    simp [hday, hne]

/-- A number that a list does not hold joins it at its tail. -/
theorem nodup_join {xs ys : List Nat} {n : Nat} (hx : xs.Nodup) (hn : n ∉ xs) (hs : ys.Sublist xs) : (ys ++ [n]).Nodup := by
  rw [List.nodup_append]
  refine ⟨hx.sublist hs, List.nodup_singleton n, fun a ha b hb hab => hn ?_⟩
  rw [List.mem_singleton] at hb
  exact hb ▸ hab ▸ hs.subset ha

theorem CourtesyList.legal.append {l : CourtesyList} (h : l.legal) (rn day : Nat) : (l.append rn day).legal := by
  obtain ⟨hlen, hnd, -⟩ := h
  unfold CourtesyList.append
  extract_lets others kept
  have hothers : others.length ≤ 64 := (List.length_filter_le _ _).trans hlen
  have hkept : kept.length ≤ 63 ∧ kept.Sublist others := by
    by_cases hfull : Config.maxCourtesy ≤ others.length
    · rw [show kept = others.drop 1 from if_pos hfull]
      exact ⟨by simp; omega, List.drop_sublist _ _⟩
    · rw [show kept = others from if_neg hfull]
      exact ⟨Nat.le_of_lt_succ (Nat.lt_of_not_le hfull), List.Sublist.refl _⟩
  refine ⟨?_, nodup_join (hnd.filter _) (fun hmem => ?_) hkept.2, by simp⟩
  · simpa using Nat.succ_le_succ hkept.1
  · simpa using List.of_mem_filter hmem

theorem CourtesyList.legal_empty : CourtesyList.empty.legal := ⟨by simp [CourtesyList.empty], by simp [CourtesyList.empty],
  by simp [CourtesyList.empty]⟩

theorem CourtesyList.legal.settle {l : CourtesyList} (h : l.legal) (day : Nat) : (l.settle day).legal := by
  unfold CourtesyList.settle
  split
  · exact h
  · exact CourtesyList.legal_empty

theorem Ranged.withCourtesy (h : Ranged e c) {l : CourtesyList} (hl : l.legal) : Ranged e { c with courtesy := l } :=
  h.withBooks ⟨h.books.1, hl⟩

theorem FeeClass.tally_ne_courtesy (k : FeeClass) : k.tally ≠ .courtesy := by cases k <;> simp [FeeClass.tally]

theorem Ranged.charge (h : Ranged e c) (it : Item) : Ranged e (c.charge it).1 := by
  unfold Core.charge
  split
  · exact Ranged.addTally (h.withCourtesy (h.books.2.remove it.rn)) _ _ _ (fun _ => rfl)
  · exact h.addTally _ _ _ (fun hk => absurd hk (FeeClass.tally_ne_courtesy _))

/-! ### The ends of jobs (R96 to R101, R110, R111) -/

theorem Ranged.removeJob (h : Ranged e c) (id : JobId) : Ranged e (c.removeJob id) := by
  unfold Core.removeJob
  split
  · simp only
    split
    · exact Ranged.operatorNotice (c := { c.dropRequester (.job id) with queue := _ }) h _
    · exact h
  · exact h

theorem Ranged.jobDone (h : Ranged e c) (id : JobId) (b : JobDone) : Ranged e (c.jobDone id b) := h.emit _ _

theorem Ranged.endFetch (h : Ranged e c) (j : Job) (o : JobOutcome) : Ranged e (endFetch e c j o) :=
  ((h.unclaimJob j.id).removeJob j.id).jobDone j.id _

theorem Ranged.endFetchCharged (h : Ranged e c) (j : Job) : Ranged e (endFetchCharged e c j) :=
  (((h.unclaimJob j.id).charge _).removeJob j.id).jobDone j.id _

theorem Ranged.endWalk (h : Ranged e c) (j : Job) (w : WalkFields) (stop : StopReason) : Ranged e (endWalk e c j w stop) := by
  have free := (h.onJob j.id (fun k => { k with walk := some { w with stop := some stop } })).unclaimJob j.id
  unfold Machine.endWalk
  simp only
  split
  · exact (free.removeJob j.id).jobDone j.id _
  · exact ((free.charge _).removeJob j.id).jobDone j.id _

theorem Ranged.endCancelled (h : Ranged e c) (j : Job) : Ranged e (endCancelled e c j) := by
  unfold Machine.endCancelled
  split
  · exact h.endWalk _ _ _
  · exact h.endFetch _ _

theorem Ranged.endUnreadable (h : Ranged e c) (j : Job) : Ranged e (endUnreadable e c j) := by
  unfold Machine.endUnreadable
  split
  · exact h.endWalk _ _ _
  · exact h.endFetch _ _

theorem Ranged.endFaulted (h : Ranged e c) (j : Job) : Ranged e (endFaulted e c j) := by
  unfold Machine.endFaulted
  split
  · exact h.endCancelled j
  · split
    · exact h.endWalk _ _ _
    · exact h.endFetch _ _

theorem Ranged.cancelJob (h : Ranged e c) (j : Job) : Ranged e (cancelJob e c j) := by
  unfold Machine.cancelJob
  split
  · exact h
  · exact h.endCancelled j

/-- A fold of operations each of which keeps the ranges. -/
theorem Ranged.foldl {α : Type} {f : Core → α → Core} (hf : ∀ c x, Ranged e c → Ranged e (f c x)) (xs : List α)
    (h : Ranged e c) : Ranged e (xs.foldl f c) := by
  induction xs generalizing c with
  | nil => exact h
  | cons x xs ih => exact ih (hf c x h)

theorem Ranged.cancelJobsOf (h : Ranged e c) (l : LinkId) : Ranged e (cancelJobsOf e c l) :=
  h.foldl (fun _ j hc => hc.cancelJob j) _

/-! ### Placing and reading (R85 to R96, R104 to R109) -/

theorem Ranged.placeJob (h : Ranged e c) (id : JobId) (sd : Side) : Ranged e (c.placeJob id sd) := by
  unfold Core.placeJob
  split
  · exact (h.onJob id _).operatorNotice _
  · exact h

theorem Ranged.resolveJob (h : Ranged e c) (j : Job) : Ranged e (resolveJob e c j) := by
  unfold Machine.resolveJob
  split
  · exact (h.onJob j.id _).placeJob j.id _
  · exact h
  · exact h.endUnreadable j

theorem Ranged.leaveOperator (h : Ranged e c) (j : Job) : Ranged e (c.leaveOperator j) := by
  unfold Core.leaveOperator
  split
  · exact (h.onJob j.id _).operatorNotice _
  · exact h

theorem Ranged.wakeJob (h : Ranged e c) (id : JobId) : Ranged e (wakeJob e c id) := by
  unfold Machine.wakeJob
  split
  · next j _ =>
    split
    · split
      · exact h.resolveJob j
      · have left := (h.leaveOperator j).dropRequester (.job id)
        simp only
        split
        · exact left.resolveJob j
        · exact left.placeJob id _
    · exact h
  · exact h

theorem Ranged.wakeJobs (h : Ranged e c) : Ranged e (wakeJobs e c) := h.foldl (fun _ j hc => hc.wakeJob j.id) _

theorem Ranged.issueChunk (h : Ranged e c) (d : DriveId) (id : JobId) (en : DirEntry) (sent : Nat) :
    Ranged e (c.issueChunk d id en sent) := h.issue d _ _

theorem Ranged.fetchEntry (h : Ranged e c) (d : DriveId) (j : Job) (en : DirEntry) : Ranged e (fetchEntry e c d j en) := by
  unfold Machine.fetchEntry
  split
  · exact h.endFetch j _
  · exact (h.onJob j.id _).issueChunk d _ _ _

theorem Ranged.walkNext (h : Ranged e c) (d : DriveId) (j : Job) (w : WalkFields) (rn : Nat) :
    Ranged e (walkNext e c d j w rn) := by
  have moved := h.onJob j.id (fun k => { k with rn, walk := some w })
  unfold Machine.walkNext
  simp only
  split
  · split
    · exact h
    · exact ((moved.unclaimJob j.id).onJob j.id _).placeJob j.id _
  · exact (moved.unclaimJob j.id).onJob j.id _
  · exact moved.endWalk _ _ _

theorem Ranged.walkStep (h : Ranged e c) (d : DriveId) (j : Job) (w : WalkFields) (en : DirEntry) :
    Ranged e (walkStep e c d j w en) := by
  have told := (h.emit j.id.link (.entry j.id.tag (entryFrame j.rn (w.step en).steps en))).onJob j.id
    (fun k => { k with walk := some (w.step en) })
  unfold Machine.walkStep
  simp only
  split
  · exact told.endWalk _ _ _
  · exact told.walkNext _ _ _ _
  · exact told.endWalk _ _ _

theorem Ranged.takeEntry (h : Ranged e c) (d : DriveId) (j : Job) (en : DirEntry) : Ranged e (takeEntry e c d j en) := by
  unfold Machine.takeEntry
  split
  · exact h.walkStep _ _ _ _
  · exact h.fetchEntry _ _ _

theorem Ranged.readEntry (h : Ranged e c) (d : DriveId) (j : Job) : Ranged e (readEntry e c d j) := by
  unfold Machine.readEntry
  split
  · split
    · exact h.takeEntry _ _ _
    · exact h.issue d _ _
  · exact h.endUnreadable j

theorem Ranged.directoryRead (h : Ranged e c) (d : DriveId) (j : Job) (start : Nat) (r : ReadResult) :
    Ranged e (directoryRead e c d j start r) := by
  unfold Machine.directoryRead
  split
  · exact h.endCancelled j
  · split
    · exact h.takeEntry _ _ _
    · split
      · exact h.issue d _ _
      · exact h.endUnreadable j

theorem Ranged.emitFrames (h : Ranged e c) (id : JobId) (fs : List (Nat × List Byte)) : Ranged e (c.emitFrames id fs) :=
  h.foldl (fun _ _ hc => hc.emit _ _) _

theorem Ranged.chunkRead (h : Ranged e c) (d : DriveId) (j : Job) (en : DirEntry) (r : ReadResult) :
    Ranged e (chunkRead e c d j en r) := by
  unfold Machine.chunkRead
  split
  · exact h.endFetch j _
  · split
    · next data =>
      have sent := fun fs f => (h.emitFrames j.id fs).onJob j.id f
      simp only
      split
      · split
        · exact (sent _ _).endFetchCharged _
        · exact (sent _ _).endFetch _ _
      · exact (sent _ _).issueChunk d _ _ _
    · split
      · exact h.endFetch j _
      · exact (h.onJob j.id _).issueChunk d _ _ _

end

end Sys2Proof.Machine
end

section
/-! SUPPORT. What the Filing Engine keeps of the ranges: the pending list and the staging store (3-2), the OPEN side and the
selection (1-3, 1-5), and each of its operations (chapter 3). -/

namespace Sys2Proof.Machine

/-! ### The staging block map (R51) -/

theorem MapOf.perm {map : List Bool} {a b : List Nat} (h : MapOf map a) (hp : a.Perm b) : MapOf map b :=
  ⟨h.1, hp.nodup h.2.1, fun i => (h.2.2 i).trans hp.mem_iff⟩

/-- What a list shows at a place after some of its places have been set. -/
theorem getElem?_foldl_set (v : Bool) (bs : List Nat) (map : List Bool) (i : Nat) :
    (bs.foldl (fun m b => m.set b v) map)[i]? = if i ∈ bs then map[i]?.map (fun _ => v) else map[i]? := by
  induction bs generalizing map with
  | nil => simp
  | cons b bs ih =>
    rw [List.foldl_cons, ih, List.getElem?_set']
    by_cases hb : b = i
    · subst hb
      cases map[b]? <;> simp
    · have hi : ¬i = b := fun h => hb h.symm
      simp [hb, hi]

theorem length_foldl_set (v : Bool) (bs : List Nat) (map : List Bool) :
    (bs.foldl (fun m b => m.set b v) map).length = map.length := by
  induction bs generalizing map with
  | nil => rfl
  | cons b bs ih => rw [List.foldl_cons, ih, List.length_set]

/-- The blocks of one owner are returned. -/
theorem MapOf.free {map : List Bool} {bs rest : List Nat} (h : MapOf map (bs ++ rest)) : MapOf (freeBlocks map bs) rest := by
  obtain ⟨hlen, hnd, hmem⟩ := h
  rw [List.nodup_append] at hnd
  obtain ⟨-, hrest, hdisj⟩ := hnd
  refine ⟨(length_foldl_set _ _ _).trans hlen, hrest, fun i => ?_⟩
  have hi := hmem i
  rw [List.mem_append] at hi
  unfold freeBlocks
  rw [getElem?_foldl_set]
  by_cases hb : i ∈ bs
  · rw [if_pos hb]
    have hnot : i ∉ rest := fun hr => hdisj i hb i hr rfl
    simp [hnot]
  · rw [if_neg hb, hi]
    simp [hb]

/-- Free blocks become those of a new owner. -/
theorem MapOf.reserve {map : List Bool} {owned bs : List Nat} (h : MapOf map owned) (hnd : bs.Nodup)
    (hfree : ∀ b ∈ bs, map[b]? = some false) : MapOf (reserve map bs) (bs ++ owned) := by
  obtain ⟨hlen, hown, hmem⟩ := h
  refine ⟨(length_foldl_set _ _ _).trans hlen, ?_, fun i => ?_⟩
  · rw [List.nodup_append]
    refine ⟨hnd, hown, fun a ha b hb hab => ?_⟩
    have := (hmem b).mpr hb
    rw [← hab, hfree a ha] at this
    cases this
  · rw [List.mem_append, Machine.reserve, getElem?_foldl_set]
    by_cases hb : i ∈ bs
    · simp [hb, hfree i hb]
    · simp [hb, hmem i]

/-- The lowest-numbered free blocks are free, and none of them twice. -/
theorem pickBlocks_free (map : List Bool) (n : Nat) : (pickBlocks map n).Nodup ∧ ∀ b ∈ pickBlocks map n, map[b]? = some false := by
  refine ⟨((List.nodup_range).filter _).sublist (List.take_sublist _ _), fun b hb => ?_⟩
  simpa using List.of_mem_filter (List.mem_of_mem_take hb)

/-! ### The pending list (R57) -/

/-- The head's state changes to one in which it may own blocks. -/
theorem ReceiptsKept.setHead {e : Fixed} {p : PendingEntry} {ps : List PendingEntry} {map : List Bool} {st : PendingState}
    (h : ReceiptsKept e (p :: ps) map) (ha : st ≠ .awaitingResubmit) (hw : st ≠ .withdrawn) :
    ReceiptsKept e ({ p with state := st } :: ps) map := by
  obtain ⟨⟨hlen, hasc, hrn⟩, hval, hbound, hlt, hmap, hst⟩ := h
  rw [List.forall_mem_cons] at hrn hst
  refine ⟨⟨hlen, ?_, List.forall_mem_cons.mpr hrn⟩, fun hv => by simp at hval; simp [hval] at hv, hbound, fun k hk => ?_, hmap, ?_⟩
  · rw [List.pairwise_cons] at hasc ⊢
    exact hasc
  · exact List.forall_mem_cons.mpr (List.forall_mem_cons.mp (hlt k hk))
  · exact List.forall_mem_cons.mpr ⟨fun h => (h.elim ha hw).elim, hst.2⟩

/-- The head leaves the list, and its blocks are returned (R66, R72, R192). -/
theorem ReceiptsKept.dropHead {e : Fixed} {p : PendingEntry} {ps : List PendingEntry} {map : List Bool}
    (h : ReceiptsKept e (p :: ps) map) : ReceiptsKept e ps (freeBlocks map (p.blocks.getD [])) := by
  obtain ⟨⟨hlen, hasc, hrn⟩, hval, hbound, hlt, hmap, hst⟩ := h
  rw [List.forall_mem_cons] at hrn hst
  rw [List.length_cons] at hlen hbound
  refine ⟨⟨by omega, (List.pairwise_cons.mp hasc).2, hrn.2⟩, fun hv => by simp at hval; simp [hval] at hv, by omega,
    fun k hk => (List.forall_mem_cons.mp (hlt k hk)).2, ?_, hst.2⟩
  have hown : entryBlocks (p :: ps) ++ transferBlocks e.transfers
      = p.blocks.getD [] ++ (entryBlocks ps ++ transferBlocks e.transfers) := by simp [entryBlocks]
  rw [hown] at hmap
  exact hmap.free

/-! ### The records of sides (R6) -/

/-- A record with state, seal reason and open sequence as another's, one that is not BLANK, is in keeping with its state. -/
theorem SideRecord.legal.same {r s : SideRecord} (h : r.legal) (hb : r.state ≠ .blank) (hs : s.state = r.state)
    (hr : s.sealReason = r.sealReason) (hq : s.openSeq = r.openSeq) : s.legal := by
  obtain ⟨-, h2, h3, h4⟩ := h
  exact ⟨fun hx => absurd (hs ▸ hx) hb, by rw [hr, hs]; exact h2, by rw [hr, hs]; exact h3, by rw [hs, hq]; exact h4⟩

theorem SideRecord.legal_suspect {r : SideRecord} (hs : r.state = .suspect) (hr : r.sealReason ≠ none) : r.legal :=
  ⟨by simp [hs], by simp [hs, hr], by simp [hs], by simp [hs]⟩

theorem SideRecord.blank_legal : SideRecord.blank.legal := by simp [SideRecord.legal, SideRecord.blank]

theorem SideRecord.ended_legal (r : SideRecord) : r.ended.legal := SideRecord.legal_suspect rfl nofun

theorem SideRecord.headerFault_legal (n : Nat) : (SideRecord.headerFault n).legal := SideRecord.legal_suspect rfl nofun

theorem SideRecord.opened_legal (n rn : Nat) : (SideRecord.opened n rn).legal := by
  simp [SideRecord.legal, SideRecord.opened, SideRecord.blank]

theorem SideRecord.sealed_legal (r : SideRecord) (why : SealReason) (good : Bool) : (r.sealed why good).legal := by
  unfold SideRecord.sealed
  split
  · next h => simp [SideRecord.legal, h.2]
  · exact SideRecord.legal_suspect rfl nofun

/-- An OPEN record that keeps its state, its seal reason and its open sequence. -/
theorem SideRecord.legal.stays {r s : SideRecord} (h : r.legal) (ho : r.state = .opened) (hs : s.state = r.state)
    (hr : s.sealReason = r.sealReason) (hq : s.openSeq = r.openSeq) : s.legal :=
  h.same (by rw [ho]; decide) hs hr hq

/-- A record of a volume put into the table: its sides legal, and one OPEN only where no side is selected and no other OPEN. -/
theorem SidesKept.setVolume {vs : Vector (Option Volume) 64} {sel : Option Selection} {i : Option Inventory}
    (h : SidesKept vs sel i) (v : SlotId) {y : Volume} (hl : ∀ f, (y.side f).legal)
    (ho : ∀ f, (y.side f).state = .opened → sel = none ∧ (∀ g, (y.side g).state = .opened → f = g) ∧
      ∀ (w : SlotId) x g, w ≠ v → vs[w] = some x → (x.side g).state ≠ .opened) : SidesKept (vs.set v (some y)) sel i := by
  have hrec : ∀ (w : SlotId) z, (vs.set v (some y))[w] = some z → w = v ∧ z = y ∨ w ≠ v ∧ vs[w] = some z := by
    intro w z hz
    rw [volumes_set] at hz
    split at hz
    · next hvw => exact .inl ⟨hvw.symm, by cases hz; rfl⟩
    · next hvw => exact .inr ⟨fun h => hvw h.symm, hz⟩
  obtain ⟨⟨hleg, hone⟩, hn, hi⟩ := h
  refine ⟨⟨fun w z f hz => ?_, fun a b x z f g hx hz hf hg => ?_⟩, fun hs w z f hz hf => ?_, hi⟩
  · rcases hrec w z hz with ⟨-, rfl⟩ | ⟨-, hz'⟩
    · exact hl f
    · exact hleg w z f hz'
  · rcases hrec a x hx with ⟨rfl, rfl⟩ | ⟨hav, hx'⟩ <;> rcases hrec b z hz with ⟨rfl, rfl⟩ | ⟨hbv, hz'⟩
    · exact ⟨rfl, (ho f hf).2.1 g hg⟩
    · exact absurd hg ((ho f hf).2.2 b z g hbv hz')
    · exact absurd hf ((ho g hg).2.2 a x f hav hx')
    · exact hone a b x z f g hx' hz' hf hg
  · rcases hrec w z hz with ⟨-, rfl⟩ | ⟨-, hz'⟩
    · exact hs (ho f hf).1
    · exact hn hs w z f hz' hf

section
variable {e : Fixed} {c : Core}

/-- A change of the OPEN side's record that keeps it legal, as where its state, seal reason and open sequence stay. -/
theorem Ranged.onOpenSide (h : Ranged e c) {q : Side × SideRecord} (hq : c.openSide = some q) {f : SideRecord → SideRecord}
    (hf : ∀ r : SideRecord, r.state = .opened → r.legal → (f r).legal) : Ranged e (c.onSide q.1 f) := by
  obtain ⟨x, hx, hr, ho⟩ := Core.openSide_some hq
  refine h.onSide q.1 (fun y hy hl => ?_)
  rw [hx] at hy
  cases hy
  rw [hr] at ho
  exact ⟨hf _ ho hl, fun _ => ho⟩

/-! ### The selection (R17, R18) -/

/-- A selection is made only where no side is OPEN (R17). -/
theorem Ranged.select (h : Ranged e c) {sel : Selection} (hs : c.selectSide = some sel) :
    Ranged e { c with selection := some sel } := by
  have hclosed : NoneOpen c.volumes := by
    rw [← Core.openSide_none]
    unfold Core.selectSide at hs
    split at hs
    · cases hs
    · next hn => simp_all
  obtain ⟨ht, -, hi⟩ := h.sides
  exact h.withSides ⟨ht, fun _ => hclosed, hi⟩

/-- The selection ends. -/
theorem Ranged.deselect (h : Ranged e c) : Ranged e { c with selection := none } := by
  obtain ⟨ht, -, hi⟩ := h.sides
  exact h.withSides ⟨ht, fun hn => absurd rfl hn, hi⟩

theorem Ranged.reselect (h : Ranged e c) : Ranged e c.reselect := by
  unfold Core.reselect
  split
  · split
    · next sel hs => exact (h.select hs).clearAlarm _
    · exact h
  · exact h

theorem Ranged.askSelection (h : Ranged e c) (hr : ∀ c' st, Ranged e c' → Ranged e (c'.engineRest e st)) :
    Ranged e (askSelection e c) := by
  unfold Machine.askSelection
  split
  · next sel hs => exact (h.select hs).clearAlarm _
  · exact hr _ _ (h.setAlarm _)

/-! ### The engine's claim and its head (R58 to R60) -/

theorem Ranged.onEngine (h : Ranged e c) (f : Engine → Engine) : Ranged e (c.onEngine f) := h

theorem Ranged.engineRelease (h : Ranged e c) : Ranged e (c.engineRelease e) := by
  unfold Core.engineRelease
  split
  · exact (h.releaseClaim _).onEngine _
  · exact h

theorem Ranged.engineRest (h : Ranged e c) (st : EngineState) : Ranged e (c.engineRest e st) :=
  ((h.engineRelease).dropRequester .engine).onEngine _

/-- The head goes to a state in which it may own blocks, as STAGED, WRITING and VERIFYING. -/
theorem Ranged.setHead (h : Ranged e c) {st : PendingState} (ha : st ≠ .awaitingResubmit) (hw : st ≠ .withdrawn) :
    Ranged e (c.setHead st) := by
  unfold Core.setHead
  split
  · next p ps hp =>
    have hr := h.receipts
    rw [hp] at hr
    exact h.withReceipts (hr.setHead ha hw)
  · exact h

theorem Ranged.stageHead (h : Ranged e c) : Ranged e c.stageHead := 
  .ite (h.setHead (by decide) (by decide)) h

/-! ### Flush, seal and attempts (R62 to R69) -/

theorem Ranged.beginFlush (h : Ranged e c) (d : DriveId) (r : SideRecord) : Ranged e (c.beginFlush d r) :=
  (h.onEngine _).issue d _ _

theorem Ranged.writeSeal (h : Ranged e c) (d : DriveId) (r : SideRecord) (why : SealReason) : Ranged e (c.writeSeal d r why) :=
  (h.onEngine _).issue d _ _

theorem Ranged.beginSeal (h : Ranged e c) (d : DriveId) (r : SideRecord) (why : SealReason) : Ranged e (c.beginSeal d r why) :=
  .ite ((h.stageHead.onEngine _).writeSeal d r why) ((h.stageHead.onEngine _).beginFlush d r)

theorem Ranged.attempt (h : Ranged e c) (d : DriveId) (r : SideRecord) (p : PendingEntry) : Ranged e (c.attempt d r p) :=
  .ite (h.beginSeal d r _) (((h.setHead (by decide) (by decide)).onEngine _).issue d _ _)

theorem Ranged.failAttempt (h : Ranged e c) (d : DriveId) (r : SideRecord) (p : PendingEntry) : Ranged e (c.failAttempt d r p) :=
  .ite ((h.onEngine _).attempt d r p) ((h.onEngine _).beginSeal d r _)

/-! ### Choices and turns (R59, R70) -/

theorem Ranged.chooseAgain (h : Ranged e c) : Ranged e (chooseAgain e c) := by
  unfold Machine.chooseAgain
  split
  · exact h.engineRest _
  · exact h

theorem Ranged.giveTurn (h : Ranged e c) : Ranged e (giveTurn e c) := by
  unfold Machine.giveTurn
  split
  · exact h
  · exact h.chooseAgain

theorem Ranged.afterCommit (h : Ranged e c) (sd : Side) : Ranged e (afterCommit e c sd) := by
  unfold Machine.afterCommit
  split
  · split
    · exact h.beginFlush _ _
    · exact h
  · exact h.giveTurn

/-! ### Commits (R66, R72) -/

theorem Core.filingSide_open {c : Core} {q : Side × SideRecord} (h : c.filingSide = some q) : c.openSide = some q := by
  unfold Core.filingSide at h
  exact (Option.filter_eq_some_iff.mp h).1

/-- A commit of the head on the OPEN side. -/
theorem Ranged.commit (h : Ranged e c) {q : Side × SideRecord} {p : PendingEntry} {ps : List PendingEntry}
    (hq : c.openSide = some q) (hp : c.pendingList = p :: ps) (start : Option Nat) : Ranged e (c.commit q.1 p start) := by
  unfold Core.commit
  extract_lets en c1
  have hr := h.receipts
  rw [hp] at hr
  have hdrop : c.pendingList.drop 1 = ps := by rw [hp]; rfl
  have h1 : Ranged e c1 := by
    unfold c1
    rw [hdrop]
    exact Ranged.withReceipts (c := { c with dirbuf := _ }) h hr.dropHead
  have hq1 : c1.openSide = some q := hq
  exact ((h1.onOpenSide hq1 (by exact fun _ ho hl => hl.stays ho rfl rfl rfl)).notify _ _).onEngine _

theorem Ranged.courtesyHandOver (h : Ranged e c) (p : PendingEntry) : Ranged e (courtesyHandOver e c p) := by
  unfold Machine.courtesyHandOver
  split
  · exact .ite (h.withCourtesy (h.books.2.append _ _)) h
  · exact h

theorem Ranged.placeholderCommit (h : Ranged e c) : Ranged e (placeholderCommit e c) := by
  unfold Machine.placeholderCommit
  split
  · next q p ps hq hp => exact (h.commit hq hp none).afterCommit _
  · exact h

/-! ### MOUNTING (R61) -/

theorem Ranged.serveHead (h : Ranged e c) (d : DriveId) {q : Side × SideRecord} (hq : c.openSide = some q) :
    Ranged e (serveHead e c d q.1 q.2) := by
  unfold Machine.serveHead
  split
  · exact h.chooseAgain
  · next p ps hp =>
    split
    · exact .ite (h.beginSeal d _ _) ((h.commit hq hp none).afterCommit _)
    · exact h.chooseAgain
    · exact h.attempt d _ _

theorem Ranged.serveOpen (h : Ranged e c) (d : DriveId) {q : Side × SideRecord} (hq : c.openSide = some q) :
    Ranged e (serveOpen e c d q.1 q.2) := by
  unfold Machine.serveOpen
  refine .ite (h.beginFlush d _) (.ite (h.issue d _ _) (.ite (h.writeSeal d _ _) ?_))
  split
  · exact h.beginSeal d _ _
  · exact .ite (h.beginFlush d _) (h.serveHead d hq)

theorem Ranged.writeHeader (h : Ranged e c) (d : DriveId) (sel : Selection) (p : PendingEntry) :
    Ranged e (c.writeHeader d sel p) := h.issue d _ _

theorem Ranged.serveClaim (h : Ranged e c) {d : DriveId} {c' : Core} (hs : serveClaim e c d = some c') : Ranged e c' := by
  unfold Machine.serveClaim at hs
  split at hs
  · cases hs
  · split at hs
    · cases hs
      exact h.engineRelease
    · split at hs <;> cases hs
      · next q _ _ hq => exact h.serveOpen d (Core.filingSide_open hq)
      · exact h.writeHeader d _ _
      · exact h.engineRelease

theorem Ranged.mountingStep (h : Ranged e c) {c' : Core} (hs : mountingStep e c = some c') : Ranged e c' := by
  unfold Machine.mountingStep at hs
  split at hs
  · exact h.serveClaim hs
  · split at hs
    · cases hs
      exact h.placeholderCommit
    · split at hs
      · cases hs
        exact (h.onEngine _).engineRest _
      · split at hs
        · cases hs
          exact h.askSelection (fun _ st hc => hc.engineRest st)
        · split at hs
          · cases hs
          · cases hs
            exact h.request _ _

theorem Ranged.restStep (h : Ranged e c) {c' : Core} (hs : restStep e c = some c') : Ranged e c' := by
  unfold Machine.restStep at hs
  extract_lets next at hs
  clear_value next
  split at hs
  · cases hs
  · split at hs <;> cases hs
    · exact h
    · exact h.engineRest _

theorem Ranged.engineStep (h : Ranged e c) {c' : Core} (hs : engineStep e c = some c') : Ranged e c' := by
  unfold Machine.engineStep at hs
  split at hs
  iterate 5 cases hs
  · split at hs
    · cases hs
    · cases hs
      exact h.chooseAgain
  · split at hs
    · split at hs
      · cases hs
      · cases hs
        exact h
    · split at hs
      · exact h.mountingStep hs
      · exact h.restStep hs

/-! ### Completions on the open side (R7 to R12, R63 to R69, R78) -/

theorem Core.openAndHead_some {c : Core} {sd : Side} {r : SideRecord} {p : PendingEntry}
    (h : c.openAndHead = some (sd, r, p)) : c.openSide = some (sd, r) ∧ ∃ ps, c.pendingList = p :: ps := by
  unfold Core.openAndHead at h
  split at h
  · next q p' ps hq hp =>
    cases h
    exact ⟨hq, ps, hp⟩
  · cases h

theorem Ranged.instrumentWritten (h : Ranged e c) (d : DriveId) (r : WriteResult) : Ranged e (instrumentWritten c d r) := by
  unfold Machine.instrumentWritten
  split
  · next sd rec p hop =>
    obtain ⟨hq, -⟩ := Core.openAndHead_some hop
    have passed (n : Nat) (failed : Bool) : Ranged e (c.onSide sd (·.written n failed)) :=
      h.onOpenSide hq (by exact fun _ ho hl => hl.stays ho rfl rfl rfl)
    cases r with
    | good => exact (((passed _ _).setHead (by decide) (by decide)).onEngine _).issue d _ _
    | mediaError => exact (passed _ _).failAttempt d _ _
  · exact h

theorem Ranged.extentVerified (h : Ranged e c) (d : DriveId) (r : ReadResult) : Ranged e (extentVerified e c d r) := by
  unfold Machine.extentVerified
  split
  · next sd rec p hop =>
    obtain ⟨hq, ps, hp⟩ := Core.openAndHead_some hop
    refine .ite ((((h.commit hq hp _).courtesyHandOver p).onEngine _).afterCommit sd) ?_
    exact Ranged.failAttempt (c := c.onSide sd _) (h.onOpenSide hq (by exact fun _ ho hl => hl.stays ho rfl rfl rfl)) d _ _
  · exact h

theorem Ranged.faultHeader (h : Ranged e c) : Ranged e c.faultHeader := by
  unfold Core.faultHeader
  split
  · have ended : SideState.suspect ≠ .opened := nofun
    exact (h.onSide _ (fun _ _ _ => ⟨SideRecord.headerFault_legal _, fun hf => absurd hf ended⟩)).deselect.evalSuspect
  · exact h

/-- A selected side is opened (R7). -/
theorem Ranged.opens (h : Ranged e c) {sel : Selection} (hs : c.selection = some sel) (rn : Nat) :
    Ranged e { c.onSide sel.side (fun _ => .opened sel.openSeq rn) with selection := none } := by
  have hclosed := h.sides.2.1 (by simp [hs])
  unfold Core.onSide
  split
  · next x hx =>
    refine h.withSides (h.deselect.sides.setVolume _ (fun f => ?_)
      (fun f hf => ⟨rfl, fun g hg => ?_, fun w y g _ hy => hclosed w y g hy⟩))
    · rw [Volume.side_setSide]
      split
      · exact SideRecord.opened_legal _ _
      · exact h.sides.1.1 _ _ _ hx
    · rw [Volume.side_setSide] at hf hg
      split at hf
      · next hf' =>
        split at hg
        · next hg' => rw [← hf', ← hg']
        · exact absurd hg (hclosed _ x g hx)
      · exact absurd hf (hclosed _ x f hx)
  · exact h.deselect

theorem Ranged.headerWritten (h : Ranged e c) (d : DriveId) (r : WriteResult) : Ranged e (headerWritten e c d r) := by
  unfold Machine.headerWritten
  split
  · exact h.faultHeader.engineRelease
  · split
    · next sel p ps hs _ => exact Ranged.onDrive (h.opens hs p.rn) d (f := fun x => { x with filingFlag := true }) (fun _ hx => hx)
    · exact h

theorem Ranged.endSeal (h : Ranged e c) (d : DriveId) (good : Bool) : Ranged e (c.endSeal d good) := by
  unfold Core.endSeal
  split
  · next q why hq _ =>
    have done : Ranged e ((c.onSide q.1 (·.sealed why good)).onDrive d (fun x => { x with filingFlag := false })) :=
      (h.onOpenSide hq (fun r _ _ => r.sealed_legal why good)).onDrive d (by exact fun _ hx => hx)
    exact Ranged.onEngine (.ite done.evalSuspect done) _
  · exact h

theorem Ranged.sealWritten (h : Ranged e c) (d : DriveId) (r : WriteResult) : Ranged e (sealWritten e c d r) :=
  ((h.endSeal d _).engineRelease).chooseAgain

theorem Ranged.endFlush (h : Ranged e c) (d : DriveId) {sd : Side} {r : SideRecord} (hq : c.openSide = some (sd, r))
    (verified : Bool) : Ranged e (endFlush e c d sd r verified) := by
  unfold Machine.endFlush
  refine .ite ?_ (((h.stageHead.setAlarm _).onEngine _).engineRest _)
  extract_lets _ c1 c2
  have h1 : Ranged e c1 := 
    h.onOpenSide hq (f := fun x => { x with flushed := x.flushed + 1 }) (by exact fun _ ho hl => hl.stays ho rfl rfl rfl)
  have h2 : Ranged e c2 := h1.clearAlarm _
  split
  · exact h2.writeSeal d _ _
  · exact h2.giveTurn

theorem Ranged.flushNext (h : Ranged e c) (d : DriveId) (r : SideRecord) (step : FlushStep) (aOk : Bool) :
    Ranged e (c.flushNext d r step aOk) := by
  cases step <;> exact (h.onEngine _).issue d _ _

theorem Ranged.flushDone (h : Ranged e c) {d : DriveId} {r : FlushResult} {c' : Core} (hs : flushDone e c d r = some c') :
    Ranged e c' := by
  unfold Machine.flushDone at hs
  split at hs
  · next f sd rec hf hq =>
    split at hs <;> cases hs
    iterate 4 exact h.flushNext d _ _ _
    · exact h.endFlush d hq _
    · exact h.endFlush d hq _
  · cases hs

theorem Ranged.restartFound (h : Ranged e c) (f : FindResult) : Ranged e (restartFound c f) := by
  unfold Machine.restartFound
  split
  · next q hq => exact (h.onOpenSide hq (by exact fun _ ho hl => hl.stays ho rfl rfl rfl)).onEngine _
  · exact h

/-! ### The engine and a side rebuilt as OPEN, and a drive fault (R75, R161, R162) -/

theorem Ranged.dropSelection (h : Ranged e c) : Ranged e c.dropSelection := by
  unfold Core.dropSelection
  split
  · exact .ite h.faultHeader h.deselect
  · exact h.deselect

theorem Ranged.engineLetGo (h : Ranged e c) : Ranged e (engineLetGo e c) :=
  ((h.dropSelection.stageHead.engineRelease).dropRequester .engine).onEngine _

theorem Ranged.engineTimeout (h : Ranged e c) (d : DriveId) (user : Option OpUser) : Ranged e (c.engineTimeout d user) := by
  unfold Core.engineTimeout
  split
  · next hop => exact h.onOpenSide (Core.openAndHead_some hop).1 (by exact fun _ ho hl => hl.stays ho rfl rfl rfl)
  · next hop => exact h.onOpenSide (Core.openAndHead_some hop).1 (by exact fun _ ho hl => hl.stays ho rfl rfl rfl)
  · exact h.faultHeader
  · exact h.endSeal d false
  · exact h

theorem Ranged.engineFault (h : Ranged e c) (d : DriveId) (user : Option OpUser) (waits : Bool) :
    Ranged e (engineFault e c d user waits) := by
  have free : Ranged e ((((c.engineTimeout d user).stageHead).engineRelease e).onEngine
      (fun g => { g with attempts := 0, flush := none })) := (h.engineTimeout d user).stageHead.engineRelease.onEngine _
  exact .ite (.ite (free.engineRest _) free.chooseAgain) (.ite ((h.onEngine _).engineRest _) h)

end

end Sys2Proof.Machine
end

section
/-! SUPPORT. What imports, exports and inventories keep of the ranges (chapter 8): the faces read, and the enrolment of a rebuilt
cartridge, after which at most one side is OPEN. -/

namespace Sys2Proof.Machine

section
variable {e : Fixed} {c : Core}

/-! ### The records of an import and of an inventory -/

theorem Ranged.onImport (h : Ranged e c) (f : ImportOp → ImportOp) : Ranged e (c.onImport f) := h

/-- A change of the inventory that keeps the faces read legal. -/
theorem Ranged.withInventory (h : Ranged e c) {i : Option Inventory} (hi : FacesLegal i) : Ranged e { c with inventory := i } := by
  obtain ⟨ht, hn, -⟩ := h.sides
  exact h.withSides ⟨ht, hn, hi⟩

/-- A change of the inventory's record that keeps the faces read legal, as where it leaves the reading. -/
theorem Ranged.onInventory (h : Ranged e c) {f : Inventory → Inventory}
    (hf : ∀ i : Inventory, i.FacesLegal → (f i).FacesLegal) : Ranged e (c.onInventory f) := by
  refine h.withInventory (fun j hj => ?_)
  obtain ⟨i, hi, rfl⟩ := Option.map_eq_some_iff.mp hj
  exact hf i (h.sides.2.2 i hi)

/-- A change of the reading that keeps its faces legal, as where it leaves them. -/
theorem Ranged.onReading (h : Ranged e c) {f : Reading → Reading}
    (hf : ∀ rd : Reading, rd.FacesLegal → (f rd).FacesLegal) : Ranged e (c.onReading f) := by
  refine h.onInventory (fun i hi rd hrd => ?_)
  obtain ⟨rd', hrd', rfl⟩ := Option.map_eq_some_iff.mp hrd
  exact hf rd' (hi rd' hrd')

/-- A reading with no face read. -/
theorem Reading.facesLegal_of_none {rd : Reading} (ha : rd.faceA = none) (hb : rd.faceB = none) : rd.FacesLegal :=
  ⟨fun r hr => by simp [ha] at hr, fun r hr => by simp [hb] at hr⟩

/-- The inventory takes up a cartridge of which no face has been read. -/
theorem Ranged.beginReading (h : Ranged e c) (slot : Option SlotId) (d : Option DriveId) (p : ReadingPhase) :
    Ranged e (c.onInventory (fun i => { i with reading := some (.begin slot d p) })) :=
  h.onInventory (fun _ _ rd hrd => by cases hrd; exact Reading.facesLegal_of_none rfl rfl)

theorem Ranged.endReading (h : Ranged e c) : Ranged e c.endReading := h.onInventory (fun _ _ _ hrd => nomatch hrd)

theorem Ranged.startInventory (h : Ranged e c) (by_ : Option Orderer) : Ranged e (c.startInventory by_) :=
  h.withInventory (fun _ hj _ hrd => by cases hj; cases hrd)

/-! ### Imports and exports (R149 to R157) -/

theorem Ranged.unbindReady (h : Ranged e c) (d : DriveId) (b : Binding) : Ranged e (c.unbindReady e d b) :=
  ((h.endBoundMount b).onDrive d (by exact fun _ hx => hx)).startIdle d

theorem Ranged.place (h : Ranged e c) (d : DriveId) (v : SlotId) : Ranged e (c.place d v) := (h.setLoc v _).seat d _

theorem Ranged.importCourse (h : Ranged e c) (op : ImportOp) (d : DriveId) (v : SlotId) (outcome : MediaOutcome) :
    Ranged e (importCourse e c op d v outcome) := by
  have free : Ranged e { c.unbindReady e d .importing with importOp := none } := h.unbindReady d _
  exact .ite (free.wakeJobs.reselect.mediaDone _ _ _) ((h.onImport _).beginUnload d)

theorem Ranged.importJudged (h : Ranged e c) (op : ImportOp) (d : DriveId) (j : Judgement) :
    Ranged e (importJudged e c op d j) := by
  unfold Machine.importJudged
  split
  · exact (h.place d _).importCourse _ _ _ _
  · next v =>
    extract_lets x
    have enrolled : Ranged e (c.setVol v (some x)) := h.withVolumes (h.sides.setClosed v (fun y f hy => by
      cases hy
      cases f <;> exact ⟨SideRecord.blank_legal, nofun⟩))
    exact (enrolled.place d v).importCourse _ _ _ _
  · exact (h.onImport _).beginUnload d

theorem Ranged.importMount (h : Ranged e c) (op : ImportOp) : Ranged e (c.importMount op) := h

theorem Ranged.importStep (h : Ranged e c) {c' : Core} (hs : importStep e c = some c') : Ranged e c' := by
  unfold Machine.importStep at hs
  split at hs
  · split at hs <;> cases hs
    exact h.importMount _
  · cases hs

theorem Ranged.importReadHeader (h : Ranged e c) (d : DriveId) (p : ImportPhase) : Ranged e (c.importReadHeader d p) :=
  (h.onImport _).issue d _ _

theorem Ranged.importRead (h : Ranged e c) (op : ImportOp) (d : DriveId) (r : ReadResult) : Ranged e (importRead e c op d r) := by
  unfold Machine.importRead
  split
  · split
    · exact h.importJudged _ _ _
    · exact h
  · simp only
    split
    · exact h.importJudged _ _ _
    · exact (h.onImport _).beginUnload d

theorem Ranged.withExport (h : Ranged e c) (x : Option ExportOp) : Ranged e { c with exportOp := x } := h

theorem Ranged.beginExport (h : Ranged e c) {op : ExportOp} {c' : Core} (hs : c.beginExport op = some c') : Ranged e c' := by
  unfold Core.beginExport at hs
  split at hs
  · cases hs
    exact h
  · next d _ _ =>
    simp only at hs
    split at hs <;> cases hs
    exact ((h.withExport _).onDrive d (by exact fun _ hx => hx)).beginUnload d
  · cases hs

theorem Ranged.faultExport (h : Ranged e c) (op : ExportOp) : Ranged e (c.faultExport op) :=
  Ranged.mediaDone (c := { c with exportOp := none }) h _ _ _

theorem Ranged.exportStep (h : Ranged e c) {c' : Core} (hs : exportStep c = some c') : Ranged e c' := by
  unfold Machine.exportStep at hs
  split at hs
  · split at hs
    · cases hs
    · split at hs
      · cases hs
        exact h.faultExport _
      · exact h.beginExport hs
  · cases hs

/-! ### A face rebuilt (R161) -/

/-- The record rebuilt from a face is in keeping with its state. -/
theorem Scan.record_legal (s : Scan) : s.record.legal := by
  unfold Scan.record
  split
  · exact SideRecord.blank_legal
  · exact SideRecord.legal_suspect rfl nofun
  · unfold Scan.stateAndReason
    split
    · exact SideRecord.legal_suspect rfl nofun
    · split
      · simp [SideRecord.legal]
      · exact SideRecord.legal_suspect rfl nofun
      · simp [SideRecord.legal]
      · exact SideRecord.legal_suspect rfl nofun

/-- A side rebuilt as OPEN was found unsealed. -/
theorem Scan.unsealed_of_opened (s : Scan) (h : s.record.state = .opened) : s.unsealed = true := by
  unfold Scan.record at h
  unfold Scan.unsealed
  split at h
  · cases h
  · cases h
  · next hd hh =>
    simp only [hh]
    unfold Scan.stateAndReason at h
    split at h
    · cases h
    · split at h
      · cases h
      · cases h
      · next hb => simp [hb]
      · cases h

theorem Scan.face_legal (s : Scan) : FaceResult.legal { header := s.header, record := s.record, unsealed := s.unsealed } :=
  ⟨s.record_legal, s.unsealed_of_opened⟩

/-! ### The conflict of OPEN sides (R161 step 2) -/

theorem settleOpen_legal {r : SideRecord} (h : r.legal) (seq : Option Nat) : (settleOpen r seq).legal := by
  unfold settleOpen
  split
  · exact r.ended_legal
  · exact h

/-- A record that stays OPEN through its conflicts has yielded to none of them, and is what it was. -/
theorem settled_opened (seqs : List (Option Nat)) (r : SideRecord) (h : (seqs.foldl settleOpen r).state = .opened) :
    r.state = .opened ∧ ∀ s ∈ seqs, yields r s = false := by
  induction seqs generalizing r with
  | nil => exact ⟨h, by simp⟩
  | cons s seqs ih =>
    obtain ⟨ho, hs⟩ := ih _ h
    cases hy : yields r s with
    | true => simp [settleOpen, hy, SideRecord.ended] at ho
    | false =>
      rw [settleOpen, hy] at ho hs
      exact ⟨ho, List.forall_mem_cons.mpr ⟨hy, hs⟩⟩

theorem Core.settledRecord_legal (c : Core) {r : SideRecord} (h : r.legal) (other : FaceResult) :
    (c.settledRecord r other).legal :=
  settleOpen_legal (settleOpen_legal (settleOpen_legal h _) _) _

/-- A face left OPEN has yielded neither to the cartridge's other face nor to the map's OPEN side. -/
theorem Core.settledRecord_opened (c : Core) {r : SideRecord} {other : FaceResult}
    (h : (c.settledRecord r other).state = .opened) :
    r.state = .opened ∧ yields r other.unsealedSeq = false ∧ yields r (c.openSide.bind (·.2.openSeq)) = false := by
  obtain ⟨ho, hy⟩ := settled_opened _ _ h
  exact ⟨ho, hy _ (by simp), hy _ (by simp)⟩

theorem breakTie_legal {b : SideRecord} (h : b.legal) (a : SideRecord) : (breakTie b a).legal := by
  unfold breakTie
  split
  · exact b.ended_legal
  · exact h

/-- Face B left OPEN by the tie is what it was, and ties with no OPEN face A (notes/assumptions/32.md). -/
theorem breakTie_opened {a b : SideRecord} (h : (breakTie b a).state = .opened) :
    breakTie b a = b ∧ ¬(a.state = .opened ∧ b.openSeq = a.openSeq) := by
  unfold breakTie at *
  split at h
  · cases h
  · next hn =>
    rw [if_neg hn]
    exact ⟨rfl, fun ⟨ha, hs⟩ => hn ⟨h, ha, hs⟩⟩

/-- An OPEN face's open sequence is the one that its side was found unsealed with. -/
theorem FaceResult.legal.seq {r : FaceResult} (h : r.legal) (ho : r.record.state = .opened) :
    ∃ n, r.record.openSeq = some n ∧ r.unsealedSeq = some n := by
  obtain ⟨n, hn⟩ := Option.ne_none_iff_exists'.mp (h.1.2.2.2 ho)
  exact ⟨n, hn, by simp [FaceResult.unsealedSeq, h.2 ho, hn]⟩

/-- An OPEN record yields exactly to higher open sequences. -/
theorem yields_opened {r : SideRecord} (ho : r.state = .opened) {m : Nat} (hm : r.openSeq = some m) (n : Nat) :
    yields r (some n) = false ↔ n ≤ m := by simp [yields, ho, hm]

/-- The map's OPEN side is the one OPEN side of its table (R14). -/
theorem Ranged.openSide_of_opened (h : Ranged e c) {w : SlotId} {x : Volume} {g : Face} (hx : c.volumes[w] = some x)
    (ho : (x.side g).state = .opened) : c.openSide = some (⟨w, g⟩, x.side g) := by
  cases hq : c.openSide with
  | none => exact absurd ho ((Core.openSide_none c).mp hq w x g hx)
  | some q =>
    obtain ⟨⟨v, f⟩, r⟩ := q
    obtain ⟨y, hy, hyr, hr⟩ := Core.openSide_some hq
    obtain ⟨rfl, rfl⟩ := h.sides.1.2 v w y x f g hy hx (hyr ▸ hr) ho
    have hxy : x = y := Option.some.inj (hx.symm.trans hy)
    rw [hxy, ← show r = y.side f from hyr]

/-- Beside a face left OPEN, to which the map's OPEN side has not yielded and with which no side collides, no side is OPEN. -/
theorem Ranged.noneOpen_beside (h : Ranged e c) {r : FaceResult} (hl : r.legal) (ho : r.record.state = .opened)
    (hy : yields r.record (c.openSide.bind (·.2.openSeq)) = false)
    (hz : ∀ p, c.openSide = some p → yields p.2 r.unsealedSeq = false) (hc : c.collides r.record = false) :
    NoneOpen c.volumes := by
  intro w x g hx hg
  obtain ⟨n, hn, hu⟩ := hl.seq ho
  obtain ⟨m, hm⟩ := Option.ne_none_iff_exists'.mp ((h.sides.1.1 w x g hx).2.2.2 hg)
  have hq := h.openSide_of_opened hx hg
  have hmn : m ≤ n := by
    rw [hq] at hy
    simpa [hm, yields_opened ho hn] using hy
  have hnm : n ≤ m := (yields_opened hg hm n).mp (hu ▸ hz _ hq)
  have hmem : (⟨w, g⟩, x.side g) ∈ c.sides := (c.mem_sides _ _).mpr ⟨x, hx, rfl⟩
  have hno := (List.any_eq_false.mp hc) _ hmem
  simp [hn, hm, Nat.le_antisymm hmn hnm] at hno

/-! ### What the engine's letting go leaves of the sides -/

@[simp] theorem Core.setAlarm_volumes (c : Core) (a : Alarm) : (c.setAlarm a).volumes = c.volumes := by
  rw [Core.setAlarm_eq]

@[simp] theorem Core.setAlarm_selection (c : Core) (a : Alarm) : (c.setAlarm a).selection = c.selection := by
  rw [Core.setAlarm_eq]

@[simp] theorem Core.clearAlarm_volumes (c : Core) (a : Alarm) : (c.clearAlarm a).volumes = c.volumes := by
  rw [Core.clearAlarm_eq]

@[simp] theorem Core.clearAlarm_selection (c : Core) (a : Alarm) : (c.clearAlarm a).selection = c.selection := by
  rw [Core.clearAlarm_eq]

@[simp] theorem Core.evalSuspect_volumes (c : Core) : c.evalSuspect.volumes = c.volumes := by
  unfold Core.evalSuspect Core.evalAlarm
  split <;> simp

@[simp] theorem Core.evalSuspect_selection (c : Core) : c.evalSuspect.selection = c.selection := by
  unfold Core.evalSuspect Core.evalAlarm
  split <;> simp

@[simp] theorem Core.setHead_volumes (c : Core) (st : PendingState) : (c.setHead st).volumes = c.volumes := by
  unfold Core.setHead
  split <;> rfl

@[simp] theorem Core.setHead_selection (c : Core) (st : PendingState) : (c.setHead st).selection = c.selection := by
  unfold Core.setHead
  split <;> rfl

@[simp] theorem Core.stageHead_volumes (c : Core) : c.stageHead.volumes = c.volumes := by
  unfold Core.stageHead
  split <;> simp

@[simp] theorem Core.stageHead_selection (c : Core) : c.stageHead.selection = c.selection := by
  unfold Core.stageHead
  split <;> simp

@[simp] theorem Core.engineRelease_volumes (e : Fixed) (c : Core) : (c.engineRelease e).volumes = c.volumes := by
  unfold Core.engineRelease
  split <;> rfl

@[simp] theorem Core.engineRelease_selection (e : Fixed) (c : Core) : (c.engineRelease e).selection = c.selection := by
  unfold Core.engineRelease
  split <;> rfl

/-- A side's record replaced by one that is not OPEN leaves no side OPEN where none was. -/
theorem Core.onSide_noneOpen (c : Core) (sd : Side) {f : SideRecord → SideRecord} (hf : ∀ r, (f r).state ≠ .opened)
    (h : NoneOpen c.volumes) : NoneOpen (c.onSide sd f).volumes := by
  unfold Core.onSide
  split
  · intro w y g hy
    rw [Core.setVol_volumes, volumes_set] at hy
    split at hy
    · next x hx _ =>
      cases hy
      rw [Volume.side_setSide]
      split
      · exact hf _
      · exact h _ x g hx
    · exact h w y g hy
  · exact h

theorem Core.faultHeader_noneOpen (c : Core) (h : NoneOpen c.volumes) : NoneOpen c.faultHeader.volumes := by
  unfold Core.faultHeader
  split
  · rw [Core.evalSuspect_volumes]
    exact c.onSide_noneOpen _ (fun _ hf => nomatch (show SideState.suspect = .opened from hf)) h
  · exact h

theorem Core.faultHeader_selection (c : Core) : c.faultHeader.selection = none := by
  unfold Core.faultHeader
  split
  · rw [Core.evalSuspect_selection]
  · next hs => exact hs

theorem Core.dropSelection_noneOpen (c : Core) (h : NoneOpen c.volumes) : NoneOpen c.dropSelection.volumes := by
  unfold Core.dropSelection
  split
  · split
    · exact c.faultHeader_noneOpen h
    · exact h
  · exact h

theorem Core.dropSelection_selection (c : Core) : c.dropSelection.selection = none := by
  unfold Core.dropSelection
  split
  · split
    · exact c.faultHeader_selection
    · rfl
  · rfl

/-- The engine that lets go of its side opens none, and no side stays selected (R161; notes/assumptions/49.md). -/
theorem engineLetGo_noneOpen (e : Fixed) (c : Core) (h : NoneOpen c.volumes) : NoneOpen (engineLetGo e c).volumes := by
  have hv : (engineLetGo e c).volumes = c.dropSelection.volumes := by simp [engineLetGo, Core.dropRequester]
  rw [hv]
  exact c.dropSelection_noneOpen h

theorem engineLetGo_selection (e : Fixed) (c : Core) : (engineLetGo e c).selection = none := by
  simp [engineLetGo, Core.dropRequester, Core.dropSelection_selection]

/-! ### The enrolment of a rebuilt cartridge (R159 to R161) -/

/-- An OPEN side that has yielded leaves no side OPEN (R14). -/
theorem Ranged.demoteOpen_noneOpen (h : Ranged e c) : NoneOpen c.demoteOpen.volumes := by
  unfold Core.demoteOpen
  split
  · next sd r hq =>
    rcases sd with ⟨u, f⟩
    intro w y g hy hg
    obtain ⟨x, hx, -, -⟩ := Core.openSide_some hq
    have hset : (c.onSide ⟨u, f⟩ (·.ended)).volumes = c.volumes.set u (some (x.setSide f (x.side f).ended)) := by
      have hv : c.vol u = some x := hx
      unfold Core.onSide
      rw [hv]
      rfl
    replace hy : (c.onSide ⟨u, f⟩ (·.ended)).volumes[w] = some y := hy
    rw [hset, volumes_set] at hy
    split at hy
    · next hw =>
      cases hy
      rw [Volume.side_setSide] at hg
      split at hg
      · cases hg
      · next hf =>
        have := h.openSide_of_opened hx hg
        rw [hq] at this
        cases this
        exact hf rfl
    · next hw =>
      have := h.openSide_of_opened hy hg
      rw [hq] at this
      cases this
      exact hw rfl
  · next hq => exact (Core.openSide_none c).mp hq

theorem Ranged.demoteOpen (h : Ranged e c) : Ranged e c.demoteOpen := by
  unfold Core.demoteOpen
  split
  · next sd r hq =>
    have ended : Ranged e (c.onSide sd (·.ended)) := h.onOpenSide hq (fun r _ _ => r.ended_legal)
    refine ended.withDrives (fun d => ?_)
    have hd := h.2.1.2.1 d
    rw [Four.get_map]
    split <;> exact hd
  · exact h

theorem Core.demoteOpen_selection (c : Core) : c.demoteOpen.selection = c.selection := by
  unfold Core.demoteOpen
  split
  · unfold Core.onSide
    split <;> rfl
  · rfl

theorem openFace_isSome (v : SlotId) (a b : SideRecord) :
    (openFace v a b).isSome = true ↔ a.state = .opened ∨ b.state = .opened := by
  unfold openFace
  split
  · simp [*]
  · split <;> simp [*]

/-- The records put in the place of a slot's: at most one of them is OPEN, and beside it no other side is. -/
theorem Ranged.enrolRebuilt (h : Ranged e c) (d : DriveId) (v : SlotId) {a b : FaceResult} (ha : a.legal) (hb : b.legal)
    (hca : c.collides a.record = false) (hcb : c.collides b.record = false) : Ranged e (enrolRebuilt e c d v a b) := by
  unfold Machine.enrolRebuilt
  extract_lets ra rb label c0 c1 c2
  have h0 : Ranged e c0 := .ite h.engineLetGo h
  have h1 : Ranged e c1 := .ite h0.demoteOpen h0
  have hra : ra.state = .opened → a.record.state = .opened ∧ yields a.record b.unsealedSeq = false ∧
      yields a.record (c.openSide.bind (·.2.openSeq)) = false := c.settledRecord_opened
  have hrb : rb.state = .opened → (b.record.state = .opened ∧ yields b.record a.unsealedSeq = false ∧
      yields b.record (c.openSide.bind (·.2.openSeq)) = false) ∧
      ¬(a.record.state = .opened ∧ b.record.openSeq = a.record.openSeq) := by
    intro ho
    have hs := c.settledRecord_opened ho
    obtain ⟨heq, ht⟩ := breakTie_opened hs.1
    rw [heq] at hs
    exact ⟨hs, ht⟩
  have hone : ¬(ra.state = .opened ∧ rb.state = .opened) := by
    rintro ⟨hao, hbo⟩
    obtain ⟨hao, hay, -⟩ := hra hao
    obtain ⟨⟨hbo, hby, -⟩, ht⟩ := hrb hbo
    obtain ⟨n, hn, hnu⟩ := ha.seq hao
    obtain ⟨m, hm, hmu⟩ := hb.seq hbo
    rw [hmu, yields_opened hao hn] at hay
    rw [hnu, yields_opened hbo hm] at hby
    exact ht ⟨hao, by rw [hn, hm, Nat.le_antisymm hay hby]⟩
  have hopen : ra.state = .opened ∨ rb.state = .opened → c1.selection = none ∧ NoneOpen c1.volumes := by
    intro ho
    have hface := (openFace_isSome v ra rb).mpr ho
    have hc0 : c0 = Machine.engineLetGo e c := if_pos (by simp [hface])
    cases hyd : c.openYields a b with
    | true =>
      have hc1 : c1 = c0.demoteOpen := if_pos hyd
      rw [hc1]
      exact ⟨by rw [Core.demoteOpen_selection, hc0, engineLetGo_selection], h0.demoteOpen_noneOpen⟩
    | false =>
      have hc1 : c1 = c0 := if_neg (by simp [hyd])
      have hz : ∀ p, c.openSide = some p → yields p.2 a.unsealedSeq = false ∧ yields p.2 b.unsealedSeq = false := by
        intro p hp
        simpa [Core.openYields, hp] using hyd
      have hclosed : NoneOpen c.volumes := ho.elim
        (fun hao => h.noneOpen_beside ha (hra hao).1 (hra hao).2.2 (fun p hp => (hz p hp).1) hca)
        (fun hbo => h.noneOpen_beside hb (hrb hbo).1.1 (hrb hbo).1.2.2 (fun p hp => (hz p hp).2) hcb)
      rw [hc1, hc0]
      exact ⟨engineLetGo_selection e c, engineLetGo_noneOpen e c hclosed⟩
  have h2 : Ranged e c2 := by
    refine h1.withVolumes (h1.sides.setVolume v (fun f => ?_) (fun f hf => ?_))
    · cases f
      · exact c.settledRecord_legal ha.1 b
      · exact c.settledRecord_legal (breakTie_legal hb.1 _) a
    · obtain ⟨hsel, hclosed⟩ := hopen (by cases f <;> [exact .inl hf; exact .inr hf])
      refine ⟨hsel, fun g hg => ?_, fun w x g _ hx => hclosed w x g hx⟩
      cases f <;> cases g
      · rfl
      · exact absurd ⟨hf, hg⟩ hone
      · exact absurd ⟨hg, hf⟩ hone
      · rfl
  exact (h2.place d v).evalSuspect.onInventory (by exact fun _ hi => hi)

/-! ### Judging and settling (R159, R160) -/

theorem Ranged.setOut (h : Ranged e c) (d : DriveId) : Ranged e (c.setOut d) :=
  (h.onReading (by exact fun _ hr => hr)).beginUnload d

theorem Ranged.inventoryCourse (h : Ranged e c) (d : DriveId) (v : SlotId) : Ranged e (inventoryCourse e c d v) :=
  .ite (h.unbindReady d _).endReading ((h.onReading (by exact fun _ hr => hr)).beginUnload d)

theorem Ranged.placeLost (h : Ranged e c) (d : DriveId) (v : SlotId) : Ranged e (c.placeLost d v) :=
  (h.place d v).onInventory (by exact fun _ hi => hi)

theorem Ranged.makeOut (h : Ranged e c) (v : SlotId) : Ranged e (c.makeOut v) :=
  (h.setLoc v _).onInventory (by exact fun _ hi => hi)

theorem Ranged.settleVacant (h : Ranged e c) (v : SlotId) : Ranged e (c.settleVacant v) :=
  .ite ((h.makeVacant v).onInventory (by exact fun _ hi => hi)) h

theorem Ranged.judgeDrive (h : Ranged e c) (i : Inventory) (d : DriveId) {a b : FaceResult} (ha : a.legal) (hb : b.legal) :
    Ranged e (judgeDrive e c i d a b) := by
  unfold Machine.judgeDrive
  split
  · exact ((h.placeLost d _).unbindReady d _).endReading
  · split
    · exact h.setOut d
    · next hn =>
      simp only [Bool.or_eq_true, not_or, Bool.not_eq_true] at hn
      split
      · exact ((h.enrolRebuilt d _ ha hb hn.1.2 hn.2).unbindReady d _).endReading
      · exact h.setOut d

theorem Ranged.judgeSlot (h : Ranged e c) (d : DriveId) (v : SlotId) {a b : FaceResult} (ha : a.legal) (hb : b.legal) :
    Ranged e (judgeSlot e c d v a b) := by
  unfold Machine.judgeSlot
  split
  · split
    · exact .ite ((h.placeLost d v).inventoryCourse d v) ((h.makeOut v).setOut d)
    · exact h
  · split
    · split
      · exact (h.settleVacant v).setOut d
      · next hn =>
        simp only [Bool.or_eq_true, not_or, Bool.not_eq_true] at hn
        exact (h.enrolRebuilt d v ha hb hn.1.2 hn.2).inventoryCourse d v
    · exact h.setOut d

theorem Ranged.judgeCartridge (h : Ranged e c) (i : Inventory) (rd : Reading) (d : DriveId) {a b : FaceResult} (ha : a.legal)
    (hb : b.legal) : Ranged e (judgeCartridge e c i rd d a b) := by
  unfold Machine.judgeCartridge
  split
  · exact h.judgeSlot d _ ha hb
  · exact h.judgeDrive i d ha hb

/-! ### The operations of a face (R161) -/

theorem Ranged.issueScan (h : Ranged e c) (d : DriveId) (s : Scan) : Ranged e (c.issueScan d s) := by
  unfold Core.issueScan
  extract_lets c1
  have h1 : Ranged e c1 := h.onReading (by exact fun _ hr => hr)
  split <;> exact h1.issue d _ _

theorem Ranged.faceDone (h : Ranged e c) (i : Inventory) {rd : Reading} (hr : rd.FacesLegal) (d : DriveId) (s : Scan) :
    Ranged e (faceDone e c i rd d s) := by
  unfold Machine.faceDone
  extract_lets f res a b c1
  have ha : ∀ r, a = some r → r.legal := by
    intro r hra
    unfold a at hra
    split at hra
    · cases hra
      exact s.face_legal
    · exact hr.1 r hra
  have hb : ∀ r, b = some r → r.legal := by
    intro r hrb
    unfold b at hrb
    split at hrb
    · cases hrb
      exact s.face_legal
    · exact hr.2 r hrb
  have h1 : Ranged e c1 := h.onReading (fun _ _ => ⟨ha, hb⟩)
  clear_value a b c1
  have turned : Ranged e ((c1.onReading (fun r => { r with phase := .turning })).beginUnload d) :=
    (h1.onReading (by exact fun _ hr => hr)).beginUnload d
  cases a with
  | none => exact turned
  | some ra =>
    cases b with
    | none => exact turned
    | some rb => exact h1.judgeCartridge i rd d (ha ra rfl) (hb rb rfl)

theorem Ranged.scanNext (h : Ranged e c) (i : Inventory) {rd : Reading} (hr : rd.FacesLegal) (d : DriveId) (s : Scan) :
    Ranged e (scanNext e c i rd d s) := .ite (h.issueScan d _) (h.faceDone i hr d _)

theorem Ranged.scanHeader (h : Ranged e c) (i : Inventory) {rd : Reading} (hr : rd.FacesLegal) (d : DriveId) (r : ReadResult) :
    Ranged e (scanHeader e c i rd d r) := by
  unfold Machine.scanHeader
  extract_lets hd f c1
  have h1 : Ranged e c1 := h.onDrive d (by exact fun _ hx => hx)
  clear_value c1 f hd
  split
  · exact h1.faceDone i hr d _
  · exact h1.issueScan d _
  · exact h1.issueScan d _

theorem Ranged.scanSector (h : Ranged e c) (i : Inventory) {rd : Reading} (hr : rd.FacesLegal) (d : DriveId) (r : ReadResult) :
    Ranged e (scanSector e c i rd d r) := by
  unfold Machine.scanSector
  simp only
  split
  · exact h.scanNext i hr d _
  · exact .ite (h.scanNext i hr d _) (h.issueScan d _)

theorem Ranged.inventoryRead (h : Ranged e c) {i : Inventory} {rd : Reading} (hr : rd.FacesLegal) {d : DriveId} {r : ReadResult}
    {c' : Core} (hs : inventoryRead e c i rd d r = some c') : Ranged e c' := by
  unfold Machine.inventoryRead at hs
  split at hs <;> cases hs
  · exact h.scanHeader i hr d r
  · exact h.issueScan d _
  · exact h.scanSector i hr d r

theorem Ranged.inventoryFind (h : Ranged e c) {i : Inventory} {rd : Reading} (hr : rd.FacesLegal) {d : DriveId} {f : FindResult}
    {c' : Core} (hs : inventoryFind e c i rd d f = some c') : Ranged e c' := by
  unfold Machine.inventoryFind at hs
  simp only at hs
  split at hs <;> cases hs
  · exact .ite (h.faceDone i hr d _) (h.issueScan d _)
  · exact h.issueScan d _
  · exact h.scanNext i hr d _

/-! ### The course and the end of an inventory (R159, R160, R162) -/

theorem Ranged.recordProbe (h : Ranged e c) (v : SlotId) (occupied : Bool) : Ranged e (c.recordProbe v occupied) :=
  h.onInventory (by exact fun _ hi => hi)

theorem Ranged.inventoryLoad (h : Ranged e c) (d : DriveId) : Ranged e (c.inventoryLoad d) :=
  (h.onDrive d (by exact fun _ hx => hx.stopped rfl rfl)).beginLoad d

theorem Ranged.probeStep (h : Ranged e c) {i : Inventory} {c' : Core} (hs : probeStep c i = some c') : Ranged e c' := by
  unfold Machine.probeStep at hs
  split at hs
  · cases hs
  · split at hs <;> cases hs
    · exact h
    · exact h.onInventory (by exact fun _ hi => hi)

theorem Ranged.driveStep (h : Ranged e c) {c' : Core} (hs : driveStep c = some c') : Ranged e c' := by
  unfold Machine.driveStep at hs
  split at hs
  · simp only at hs
    split at hs <;> cases hs
    exact (h.beginReading _ _ _).inventoryLoad _
  · cases hs
    exact h.onInventory (by exact fun _ hi => hi)

theorem Ranged.settleEmpty (h : Ranged e c) (v : SlotId) : Ranged e (c.settleEmpty v) :=
  .ite (h.settleVacant v) (.ite (h.makeOut v) h)

theorem Ranged.slotStep (h : Ranged e c) {i : Inventory} {v : SlotId} {c' : Core} (hs : slotStep e c i v = some c') :
    Ranged e c' := by
  unfold Machine.slotStep at hs
  extract_lets c1 at hs
  have h1 : Ranged e c1 := h.onInventory (by exact fun _ hi => hi)
  clear_value c1
  split at hs
  · cases hs
    exact h1
  · split at hs
    · cases hs
      exact h1
    · cases hs
      exact h1.settleEmpty v
    · split at hs <;> cases hs
      exact (h1.beginReading _ _ _).newMount _ _ _ _ _ _ _ _

theorem Ranged.readAgain (h : Ranged e c) {rd : Reading} {c' : Core} (hs : readAgain c rd = some c') : Ranged e c' := by
  unfold Machine.readAgain at hs
  split at hs
  · simp only at hs
    split at hs <;> cases hs
    exact (h.onReading (fun _ _ => Reading.facesLegal_of_none rfl rfl)).inventoryLoad _
  · cases hs

theorem Core.sideRecord_some {c : Core} {sd : Side} {r : SideRecord} (h : c.sideRecord sd = some r) :
    ∃ x, c.volumes[sd.slot] = some x ∧ x.side sd.face = r := by
  simpa [Core.sideRecord, Core.vol] using h

theorem Ranged.giveSeq (h : Ranged e c) (sd : Side) : Ranged e (c.giveSeq sd) := by
  unfold Core.giveSeq
  split
  · next r hr =>
    split
    · next hn =>
      obtain ⟨x, hx, hxr⟩ := Core.sideRecord_some hr
      refine h.onSide sd (fun y hy hl => ?_)
      have hyr : y.side sd.face = r := by
        rw [← hxr, Option.some.inj (hx.symm.trans hy)]
      rw [hyr] at hl ⊢
      obtain ⟨-, h2, h3, -⟩ := hl
      exact ⟨⟨fun hb => absurd hb hn.1, h2, h3, fun _ => nofun⟩, id⟩
    · exact h
  · exact h

theorem Ranged.countBuffer (h : Ranged e c) (i : Inventory) : Ranged e (c.countBuffer i) := by
  unfold Core.countBuffer
  split
  · next p hq => exact .ite (h.onOpenSide hq (f := (·.withBuffer c.dirbuf)) (by exact fun _ ho hl => hl.stays ho rfl rfl rfl)) h
  · exact h

theorem Ranged.dropCommittedHead (h : Ranged e c) : Ranged e c.dropCommittedHead := by
  unfold Core.dropCommittedHead
  split
  · next q p ps _ hp =>
    have hr := h.receipts
    rw [hp] at hr
    split
    · exact .ite (h.withReceipts hr.dropHead) h
    · exact h
  · exact h

theorem facesLegal_none : FacesLegal none := fun _ hj => nomatch hj

/-- What the end of an inventory does after its sides have been settled (R87, R162). -/
theorem Ranged.inventoryOver (h : Ranged e c) : Ranged e (Machine.wakeJobs e { c with rebuilding := false, inventory := none }) :=
  Ranged.wakeJobs (Ranged.withInventory (c := { c with rebuilding := false }) h facesLegal_none)

theorem Ranged.endInventory (h : Ranged e c) (i : Inventory) : Ranged e (endInventory e c i) := by
  have given : Ranged e (allSides.foldl Core.giveSeq c) := h.foldl (f := Core.giveSeq) (fun _ sd hc => hc.giveSeq sd) allSides
  unfold Machine.endInventory
  generalize allSides.foldl Core.giveSeq c = c0 at given ⊢
  have counted : Ranged e (if i.afterLoss then (c0.countBuffer i).dropCommittedHead else c0.countBuffer i) :=
    .ite (given.countBuffer i).dropCommittedHead (given.countBuffer i)
  simp only
  generalize (if i.afterLoss then (c0.countBuffer i).dropCommittedHead else c0.countBuffer i) = c2 at counted ⊢
  have told := counted.inventoryOver.evalSuspect
  generalize (Machine.wakeJobs e { c2 with rebuilding := false, inventory := none }).evalSuspect = c4 at told ⊢
  have done : Ranged e (if c4.openSide.isSome then c4.clearAlarm .noBlank else c4.reselect) :=
    .ite (told.clearAlarm _) told.reselect
  split
  · exact done.emit _ _
  · exact done

theorem Ranged.inventoryStep (h : Ranged e c) {c' : Core} (hs : inventoryStep e c = some c') : Ranged e c' := by
  unfold Machine.inventoryStep at hs
  split at hs
  · cases hs
  · split at hs
    · cases hs
    · split at hs
      · exact h.readAgain hs
      · split at hs
        · exact h.probeStep hs
        · exact h.driveStep hs
        · split at hs
          · exact h.slotStep hs
          · cases hs
            exact h.endInventory _

end

end Sys2Proof.Machine
end

section
/-! SUPPORT. What Drive and Picker Control keeps of the ranges: mount requests, the arbiter, drive faults, probes, completions,
moves and recoveries (chapter 2), and with them all that the blocks do of themselves in an event. -/

namespace Sys2Proof.Machine

section
variable {e : Fixed} {c : Core}

/-! ### Mount requests (R30, R35) -/

theorem Ranged.grantSide (h : Ranged e c) (d : DriveId) (r : Requester) : Ranged e (c.grantSide d r) := by
  cases r with
  | engine => exact (h.takeClaim d).onEngine _
  | job id => exact h.claimJob d id

theorem Ranged.setWaiting (h : Ranged e c) (r : Requester) (st : JobState) : Ranged e (c.setWaiting r st) := by
  cases r <;> exact h

theorem Ranged.refuseMount (h : Ranged e c) (q : MountRequest) : Ranged e (c.refuseMount q) := by
  unfold Core.refuseMount
  split
  · exact h
  · exact h.placeJob _ _

theorem Ranged.act (h : Ranged e c) (q : MountRequest) (a : Answer) : Ranged e (c.act q a) := by
  have left : Ranged e { c with requests := c.requests.erase q } := h
  unfold Core.act
  split
  · exact left.grantSide _ _
  · exact (left.joinMount _ _).setWaiting _ _
  · exact (left.newMount _ _ _ _ _ _ _ _).setWaiting _ _
  · exact (left.newMount _ _ _ _ _ _ _ _).setWaiting _ _
  · exact left.refuseMount q
  · exact left

theorem Ranged.beginSpinUp (h : Ranged e c) (d : DriveId) : Ranged e (c.beginSpinUp d) :=
  (h.onDrive d (by exact fun _ hx => hx)).issue d _ _

theorem Ranged.serveRequest (h : Ranged e c) {q : MountRequest} {c' : Core} (hs : serveRequest e c q = some c') :
    Ranged e c' := by
  unfold Machine.serveRequest at hs
  split at hs
  · cases hs
    exact (h.beginSpinUp _).setWaiting _ _
  · split at hs <;> cases hs
    exact h.setWaiting _ _
  · split at hs <;> cases hs
    exact h.setWaiting _ _
  · cases hs
    exact h.act _ _

theorem Ranged.requestStep (h : Ranged e c) {c' : Core} (hs : requestStep e c = some c') : Ranged e c' := by
  obtain ⟨q, -, hq⟩ := List.exists_of_findSome?_eq_some hs
  exact h.serveRequest hq

/-! ### Mount operations whose cartridge has gone elsewhere, heads of the service orders -/

theorem Ranged.dropMountMove (h : Ranged e c) (n : Nat) : Ranged e (c.dropMountMove n) := h

theorem Ranged.dissolveMount (h : Ranged e c) (m : MountOp) : Ranged e (c.dissolveMount m) := by
  unfold Core.dissolveMount
  simp only
  split <;> exact h

theorem Ranged.replan (h : Ranged e c) (m : MountOp) (sd : Side) : Ranged e (c.replan m sd) := by
  unfold Core.replan
  extract_lets c1
  have h1 : Ranged e c1 := by
    unfold c1
    split
    · exact h.emptyDrive _
    · exact h
  clear_value c1
  split
  · exact (h1.onMountMove _ _).onMount _ _
  · exact h1.dissolveMount m

theorem Ranged.replanStep (h : Ranged e c) {c' : Core} (hs : replanStep c = some c') : Ranged e c' := by
  unfold Machine.replanStep at hs
  obtain ⟨m, -, hm⟩ := Option.bind_eq_some_iff.mp hs
  split at hm <;> cases hm
  exact h.replan _ _

theorem Ranged.headStep (h : Ranged e c) {d : DriveId} {c' : Core} (hs : headStep e c d = some c') : Ranged e c' := by
  unfold Machine.headStep at hs
  split at hs
  · split at hs
    · split at hs
      · split at hs <;> cases hs
        exact h
      · cases hs
        exact h.readEntry _ _
      · cases hs
    · cases hs
  · cases hs

theorem Ranged.headsStep (h : Ranged e c) {c' : Core} (hs : headsStep e c = some c') : Ranged e c' := by
  obtain ⟨d, -, hd⟩ := List.exists_of_findSome?_eq_some hs
  exact h.headStep hd

/-! ### The picker arbiter (R31, R34, R37) -/

theorem Ranged.startMove (h : Ranged e c) (m : Move) (dst : Position) : Ranged e (c.startMove m dst) := by
  have started := fun m' => (Ranged.depart (c := { c with moves := c.moves.erase m }) h m.src dst m.carries).beginMotion m'
  unfold Core.startMove
  simp only
  split
  · exact (started _).onMount _ _
  · exact started _

theorem Ranged.bindFree (h : Ranged e c) (m : Move) (n : Nat) (d : DriveId) (f : Face) : Ranged e (c.bindFree m n d f) :=
  ((h.onDrive d (by exact fun _ hx => hx)).onMount n _).startMove m _

theorem Ranged.bindEvict (h : Ranged e c) (m : Move) (n : Nat) (d : DriveId) (f : Face) : Ranged e (c.bindEvict m n d f) := by
  have bound : Ranged e (((c.onDrive d (fun x => { x with bound := some (.mount n) })).onMount n
    (fun op => { op with drive := some d, step := .evicting })).beginUnload d) :=
    ((h.onDrive d (by exact fun _ hx => hx)).onMount n _).beginUnload d
  exact bound

theorem Ranged.bindSwap (h : Ranged e c) (n : Nat) (d : DriveId) : Ranged e (c.bindSwap n d) :=
  ((h.onDrive d (by exact fun _ hx => hx)).onMount n _).beginUnload d

theorem Ranged.take (h : Ranged e c) (m : Move) : Ranged e (c.take m) := by
  unfold Core.take
  split
  · split
    · exact h.bindFree _ _ _ _
    · exact h.bindEvict _ _ _ _
    · exact h
  · exact .ite (h.bindSwap _ _) (h.startMove m _)
  · exact h.startMove m _
  · exact h

theorem Ranged.arbiterStep (h : Ranged e c) {c' : Core} (hs : arbiterStep e c = some c') : Ranged e c' := by
  unfold Machine.arbiterStep at hs
  split at hs
  · obtain ⟨m, -, rfl⟩ := Option.map_eq_some_iff.mp hs
    exact h.take m
  · cases hs

/-! ### All that the blocks do of themselves (notes/assumptions/8.md) -/

theorem Ranged.startStep (h : Ranged e c) {c' : Core} (hs : startStep e c = some c') : Ranged e c' := by
  unfold Machine.startStep at hs
  split at hs
  · cases hs
    have settled : Ranged e (Core.evalSuspect { c with startPhase := .settled }) :=
      Ranged.evalSuspect (c := { c with startPhase := .settled }) h
    exact .ite ((settled.withMailslot _).startInventory none) (settled.withMailslot _)
  · cases hs

theorem Ranged.wakeStep (h : Ranged e c) {c' : Core} (hs : wakeStep e c = some c') : Ranged e c' := by
  unfold Machine.wakeStep at hs
  split at hs <;> cases hs
  exact h.wakeJobs

theorem Ranged.reselectStep (h : Ranged e c) {c' : Core} (hs : reselectStep c = some c') : Ranged e c' := by
  unfold Machine.reselectStep at hs
  split at hs <;> cases hs
  exact h.reselect

theorem orElse_cases {α : Type} {a : Option α} {f : Unit → Option α} {x : α} (h : a.orElse f = some x) :
    a = some x ∨ f () = some x := by
  cases a with
  | none => exact .inr h
  | some y => exact .inl h

theorem Ranged.settleStep (h : Ranged e c) {c' : Core} (hs : settleStep e c = some c') : Ranged e c' := by
  have rule {a : Option Core} {f : Unit → Option Core} (ha : a = some c' → Ranged e c') (hf : f () = some c' → Ranged e c')
      (hs : a.orElse f = some c') : Ranged e c' := (orElse_cases hs).elim ha hf
  exact rule h.startStep (rule h.wakeStep (rule h.replanStep (rule h.reselectStep (rule h.importStep (rule h.exportStep
    (rule h.requestStep (rule h.headsStep (rule h.engineStep (rule h.inventoryStep h.arbiterStep))))))))) hs

theorem Ranged.settle (h : Ranged e c) (n : Nat) : Ranged e (settle n e c) :=
  settle_keeps (Ranged e) (fun _ _ hc hs => hc.settleStep hs) n c h

/-! ### Drive faults and start probes (R20, R25, R48) -/

theorem Ranged.faultJobs (h : Ranged e c) (d : DriveId) : Ranged e (faultJobs e c d) := h.foldl (fun _ j hc => hc.endFaulted j) _

theorem Ranged.giveUpMount (h : Ranged e c) (d : DriveId) (n : Nat) : Ranged e (c.giveUpMount d n) := by
  unfold Core.giveUpMount
  split
  · split
    · exact h
    · exact h
    · exact .ite (h.dissolveMount _) h
    · exact h
    · exact h
  · exact h

theorem Ranged.faultReading (h : Ranged e c) : Ranged e c.faultReading := by
  unfold Core.faultReading
  split
  · split
    · exact h.endReading
    · exact h.onReading (by exact fun _ hr => hr)
  · exact h

theorem Ranged.withImport (h : Ranged e c) (x : Option ImportOp) : Ranged e { c with importOp := x } := h

theorem Ranged.faultBinding (h : Ranged e c) (d : DriveId) : Ranged e (c.faultBinding d) := by
  unfold Core.faultBinding
  split
  · exact h.giveUpMount d _
  · exact h.mediaDone _ _ _
  · split
    · exact (h.withImport none).mediaDone _ _ _
    · exact h
  · split
    · exact h.faultExport _
    · exact h
  · exact h.faultReading
  · exact h

theorem Ranged.driveFault (h : Ranged e c) (d : DriveId) (user : Option OpUser) : Ranged e (driveFault e c d user) := by
  unfold Machine.driveFault
  extract_lets c1 c2 c3 c4
  have h1 : Ranged e c1 := h.onDrive d (fun _ _ => Drive.timed_of_none rfl rfl)
  have h3 : Ranged e c3 := ((h1.faultJobs d).engineFault d user _).faultBinding d
  have h4 : Ranged e c4 := by
    unfold c4
    split
    · exact h3.endBoundMount _
    · exact h3
  exact (h4.onDrive d (by exact fun _ hx => hx)).setAlarm _

theorem Ranged.unplace (h : Ranged e c) (d : DriveId) : Ranged e (c.unplace d) := by
  unfold Core.unplace
  split
  · exact h.setLoc _ _
  · exact h

theorem Ranged.endProbe (h : Ranged e c) (d : DriveId) (st : DriveState) (unnamed : Bool) : Ranged e (c.endProbe d st unnamed) :=
  h.onDrive d (by exact fun _ hx => hx)

theorem Ranged.probeRead (h : Ranged e c) (d : DriveId) (r : ReadResult) : Ranged e (c.probeRead d r) := by
  unfold Core.probeRead
  extract_lets _ c1
  have h1 : Ranged e c1 := by
    unfold c1
    split
    · exact h.seat d _
    · exact (h.unplace d).onDrive d (by exact fun _ hx => hx)
  exact (h1.onDrive d (by exact fun _ hx => hx)).issue d _ _

theorem Ranged.nameProbed (h : Ranged e c) (d : DriveId) : Ranged e (c.nameProbed d) := by
  unfold Core.nameProbed
  split
  · exact h
  · split
    · exact h.seat d _
    · exact h.onDrive d (by exact fun _ hx => hx)

theorem Ranged.probeFault (h : Ranged e c) (d : DriveId) : Ranged e (c.probeFault d) :=
  ((h.nameProbed d).onDrive d (by exact fun _ _ => Drive.timed_of_none rfl rfl)).setAlarm _

/-! ### Completions of drive operations (R24, R29, R32, R33) -/

theorem Ranged.mountReady (h : Ranged e c) (d : DriveId) (n : Nat) : Ranged e (mountReady e c d n) :=
  (((h.dropMount n).makeReady d).startIdle d).foldl (fun _ r hc => hc.grantSide d r) _

theorem Ranged.loadGood (h : Ranged e c) (d : DriveId) : Ranged e (loadGood e c d) := by
  unfold Machine.loadGood
  split
  · exact h.mountReady d _
  · exact ((h.makeReady d).startIdle d).mediaDone _ _ _
  · simp only
    split
    · exact (h.onDrive d (by exact fun _ hx => hx)).importReadHeader d _
    · exact (h.onDrive d (by exact fun _ hx => hx)).importReadHeader d _
  · exact (h.onDrive d (by exact fun _ hx => hx)).issueScan d _
  · exact (h.makeReady d).startIdle d

theorem Ranged.probeLoad (h : Ranged e c) (d : DriveId) (r : LoadResult) (second : Bool) : Ranged e (probeLoad c d r second) := by
  cases r with
  | good => exact (h.onDrive d (by exact fun _ hx => hx)).issue d _ _
  | noMedia => exact (h.unplace d).endProbe d _ _
  | notReady => exact .ite (h.probeFault d) (h.issue d _ _)

theorem Ranged.loadDone (h : Ranged e c) (d : DriveId) (r : LoadResult) (o : DriveOp) : Ranged e (loadDone e c d r o) := by
  unfold Machine.loadDone
  refine .ite (h.probeLoad d r _) ?_
  split
  · exact h.loadGood d
  · exact .ite (h.driveFault d none) (h.issue d _ _)

theorem Ranged.spinDownDone (h : Ranged e c) (d : DriveId) (o : DriveOp) : Ranged e (spinDownDone c d o) :=
  .ite (h.endProbe d _ _) (.ite (h.issue d _ _) (h.onDrive d (by exact fun _ hx => hx)))

theorem Ranged.joinReturn (h : Ranged e c) (d : DriveId) (n : Nat) : Ranged e (c.joinReturn d n) := by
  unfold Core.joinReturn
  split <;> exact h

theorem Ranged.ejectBound (h : Ranged e c) (d : DriveId) (b : Binding) : Ranged e (ejectBound c d b) := by
  unfold Machine.ejectBound
  simp only
  split
  · exact .ite (h.onMount _ _) (h.joinReturn d _)
  · exact h
  · split
    · split
      · exact h.joinBoundMove _ _ _ _ _ _
      · exact h.joinBoundMove _ _ _ _ _ _
      · exact h.joinBoundMove _ _ _ _ _ _
      · exact h
    · exact h
  · split <;> exact h
  · split
    · split
      · exact h.joinBoundMove _ _ _ _ _ _
      · exact h.joinBoundMove _ _ _ _ _ _
      · exact h.joinBoundMove _ _ _ _ _ _
      · exact h
    · exact h

theorem Ranged.ejectCleared (h : Ranged e c) (d : DriveId) (o : Orderer) : Ranged e (ejectCleared c d o) := by
  unfold Machine.ejectCleared
  split
  · exact ((h.onDrive d (by exact fun _ hx => hx)).clearAlarm _).joinMove _ _ _ _ _ _
  · exact ((h.onDrive d (by exact fun _ hx => hx)).clearAlarm _).mediaDone _ _ _

theorem Ranged.ejectDone (h : Ranged e c) (d : DriveId) : Ranged e (ejectDone c d) := by
  unfold Machine.ejectDone
  simp only
  split
  · exact h.ejectCleared d _
  · exact h.ejectBound d _
  · exact h

theorem Ranged.operationTimeout (h : Ranged e c) (d : DriveId) (o : DriveOp) : Ranged e (operationTimeout e c d o) := by
  unfold Machine.operationTimeout
  refine .ite (h.probeFault d) ?_
  split
  · exact (h.onDrive d (by exact fun _ hx => hx.ended rfl rfl)).mediaDone _ _ _
  · exact h.driveFault d _

/-! ### Completions of moves (R32 to R34, R39) -/

theorem Ranged.mountMoveDone (h : Ranged e c) (n : Nat) (d : DriveId) : Ranged e (mountMoveDone c n d) := by
  unfold Machine.mountMoveDone
  split
  · simp only
    split
    · exact (h.onMount n _).beginLoad d
    · exact (((h.onMount n _).onDrive d (by exact fun _ hx => hx)).onImport _).beginLoad d
    · exact (((h.onMount n _).onDrive d (by exact fun _ hx => hx)).onReading (by exact fun _ hr => hr)).beginLoad d
  · exact h

theorem Ranged.evictDone (h : Ranged e c) (d : DriveId) : Ranged e (evictDone c d) := by
  have loading : Ranged e (c.onDrive d (fun x => { x with state := .loading })) := h.onDrive d (by exact fun _ hx => hx)
  unfold Machine.evictDone
  simp only
  split
  · exact loading.onMount _ _
  · exact loading

theorem Ranged.rejectInto (h : Ranged e c) (d : DriveId) (outcome : MediaOutcome) : Ranged e (c.rejectInto d outcome) :=
  .ite (((h.emptyDrive d).withMailslot _).setAlarm _) ((h.emptyDrive d).withMailslot _)

theorem Ranged.moveServed (h : Ranged e c) (m : Move) (d : Option DriveId) : Ranged e (moveServed e c m d) := by
  unfold Machine.moveServed
  split
  · exact h.mountMoveDone _ _
  · exact h.evictDone _
  · exact .ite (h.beginLoad _) ((h.emptyDrive _).mediaDone _ _ _)
  · split
    · exact ((h.emptyDrive _).onDrive _ (by exact fun _ hx => hx)).mediaDone _ _ _
    · exact h.emptyDrive _
  · exact h.beginLoad _
  · next d _ =>
    have home := (h.endBoundMount .importing).emptyDrive d
    simp only
    split
    · split
      · exact (home.withImport none).mediaDone _ _ _
      · exact home
    · exact home
  · next o d _ =>
    have back := (h.endBoundMount .importing).rejectInto d o
    simp only
    split
    · exact (back.withImport none).mediaDone _ _ _
    · exact back
  · split
    · exact ((h.withImport none).wakeJobs.reselect).mediaDone _ _ _
    · exact h
  · extract_lets c1
    have h1 : Ranged e c1 := by
      unfold c1
      split
      · exact h.emptyDrive _
      · exact h
    clear_value c1
    split
    · exact ((h1.withExport none).withMailslot _).mediaDone _ _ _
    · exact h1
  · exact h.beginLoad _
  · exact ((h.endBoundMount _).emptyDrive _).endReading
  · exact ((h.endBoundMount _).rejectInto _ _).onInventory (by exact fun _ _ _ hrd => nomatch hrd)
  · exact h

theorem Ranged.moveDone (h : Ranged e c) (m : Move) : Ranged e (moveDone e c m) := by
  unfold Machine.moveDone
  split
  · exact (h.arrive _ _).moveServed m _
  · exact h

theorem Ranged.pickerFail (h : Ranged e c) (stalled : Bool) : Ranged e (c.pickerFail stalled) :=
  (((h.withPicker (Picker.timed_of_none rfl)).setAlarm _).recoveryDone _).grantHold

theorem Ranged.haltPicker (h : Ranged e c) : Ranged e c.haltPicker :=
  .ite ((h.withPicker (p := { c.picker with state := .halted }) h.picker).recoveryDone _).grantHold h

/-! ### Recoveries and the start of the mechanism (R19, R43, R44, R47, R155) -/

theorem Ranged.putBack (h : Ranged e c) (m : Move) : Ranged e (c.putBack m) := by
  unfold Core.putBack
  simp only
  split <;> exact h

theorem Ranged.failService (h : Ranged e c) (m : Move) (sv : ServiceMove) : Ranged e (c.failService m sv) := by
  unfold Core.failService
  simp only
  split
  · exact (h.onDrive _ (by exact fun _ hx => hx)).mediaDone _ _ _
  · exact (h.emptyDrive _).mediaDone _ _ _
  · exact h.mediaDone _ _ _

theorem Ranged.recovered (h : Ranged e c) (m : Move) : Ranged e (c.recovered m) := by
  unfold Core.recovered
  extract_lets c1 c2
  have h1 : Ranged e c1 := by
    unfold c1
    split
    · exact h.returnToSource _ _ _
    · exact h
  have h2 : Ranged e c2 := by
    unfold c2
    split
    · exact .ite (h1.failService m _) (h1.putBack m)
    · exact h1.putBack m
  exact ((h2.recoveryDone _).grantHold).pickerIdle

theorem Ranged.beginRecovery (h : Ranged e c) (o : Orderer) (clearing : Bool) (m : Motion) :
    Ranged e (c.beginRecovery o clearing m) :=
  (h.beginMotion (recoveryOf m)).withPicker (h.beginMotion (recoveryOf m)).picker

theorem Ranged.startMotion (h : Ranged e c) (m : StartMotion) : Ranged e (c.startMotion m) := h.withPicker h.picker

theorem Ranged.beginProbe (h : Ranged e c) (d : DriveId) : Ranged e (c.beginProbe d) :=
  (h.onDrive d (by exact fun _ hx => hx)).issue d _ _

theorem Ranged.withStartPhase (h : Ranged e c) (p : StartPhase) : Ranged e { c with startPhase := p } := h

theorem Ranged.endStart (h : Ranged e c) : Ranged e c.endStart :=
  (((h.recoveryDone _).grantHold.pickerIdle).withStartPhase .probing).foldl (fun _ d hc => hc.beginProbe d) _

theorem Ranged.startRehomed (h : Ranged e c) (holding : Bool) : Ranged e (startRehomed e c holding) := by
  unfold Machine.startRehomed
  split
  · exact h.startMotion _
  · exact .ite (h.pickerFail false) (h.startMotion _)
  · exact .ite (h.setLoc _ _).endStart (h.startMotion _)
  · exact h.endStart

theorem Ranged.startReturned (h : Ranged e c) : Ranged e (startReturned c) := by
  unfold Machine.startReturned
  split
  · next v src _ _ =>
    exact Ranged.endStart (.ite ((h.setLoc v src.location).withMailslot _) (h.setLoc v src.location))
  · exact (h.withMailslot _).endStart

theorem Ranged.startProbed (h : Ranged e c) (occupied : Bool) : Ranged e (startProbed c occupied) := by
  unfold Machine.startProbed
  split
  · exact (h.setLoc _ _).endStart
  · exact h.endStart

end

end Sys2Proof.Machine
end

section
/-! SUPPORT. What an event keeps of the ranges: the record of its updates, the check words, and the frame of a request. -/

namespace Sys2Proof.Machine

/-! ### The values of the store -/

/-- Where the state lies in its ranges, so do the values of its sections. -/
theorem Ranged.values {e : Fixed} {c : Core} (h : Ranged e c) : (valuesOf e c).legal := by
  obtain ⟨he, -, ⟨table, -, -⟩, ⟨tallies, courtesy⟩, pending, void, -⟩ := h
  exact ⟨⟨he.settings, he.schedule, he.counter, he.tallyDay⟩, fun st => ⟨tallies st, he.snapshot st⟩, courtesy, table,
    (legalPending_stored _).mpr pending, fun hv => List.map_eq_nil_iff.mpr (void hv)⟩

/-- An update of one section by legal values keeps the values of the nine sections legal. -/
theorem StoreValues.put_legal (a b : StoreValues) (sec : Section) (ha : a.legal) (hb : b.legal) : (a.put b sec).legal := by
  obtain ⟨⟨a1, a2, a3, a4⟩, a5, a6, a7, a8, a9⟩ := ha
  obtain ⟨⟨b1, b2, b3, b4⟩, b5, b6, b7, b8, b9⟩ := hb
  cases sec with
  | counter => exact ⟨⟨a1, a2, b3, a4⟩, a5, a6, a7, a8, a9⟩
  | volumes => exact ⟨⟨a1, a2, a3, a4⟩, a5, a6, b7, a8, a9⟩
  | pending => exact ⟨⟨a1, a2, a3, a4⟩, a5, a6, a7, b8, b9⟩
  | dirbuf => exact ⟨⟨a1, a2, a3, a4⟩, a5, a6, a7, a8, a9⟩
  | tallies => exact ⟨⟨a1, a2, a3, b4⟩, b5, a6, a7, a8, a9⟩
  | schedule => exact ⟨⟨a1, b2, a3, a4⟩, a5, a6, a7, a8, a9⟩
  | courtesy => exact ⟨⟨a1, a2, a3, a4⟩, a5, b6, a7, a8, a9⟩
  | settings => exact ⟨⟨b1, a2, a3, a4⟩, a5, a6, a7, a8, a9⟩
  | start => exact ⟨⟨a1, a2, a3, a4⟩, a5, a6, a7, a8, a9⟩

/-- Whether a section holds values follows from its contents. -/
theorem StoreValues.holds_of_contents {a b : StoreValues} {sec : Section} (h : a.contents sec = b.contents sec) :
    a.holds sec = b.holds sec := by
  cases sec with
  | counter => exact congrArg Option.isSome (SectionContents.counter.inj h)
  | pending => exact (SectionContents.pending.inj h).2
  | _ => rfl

/-! ### The record of the updates -/

/-- The updates that a section is missing from leave its contents. -/
theorem updates_contents (a : Retained) (b : StoreValues) (o : List Section) (sec : Section) (ho : sec ∈ o)
    (hu : sec ∉ (updates a b o).map (·.1)) : a.contents sec = b.contents sec := by
  induction o generalizing a with
  | nil => cases ho
  | cons x rest ih =>
    unfold updates at hu
    split at hu
    · next agrees =>
      rcases List.mem_cons.mp ho with rfl | hr
      · exact eq_of_beq agrees
      · exact ih a hr hu
    · simp only [List.map_cons, List.mem_cons, not_or] at hu
      have hr : sec ∈ rest := (List.mem_cons.mp ho).resolve_left hu.1
      exact (StoreValues.put_contents_other a.toStoreValues b x sec hu.1).symm.trans (ih (a.put b x) hr hu.2)

/-- The first update of a group is of the store that the group finds. -/
theorem updates_head (a : Retained) (b : StoreValues) (o : List Section) (p : Section × Retained)
    (h : (updates a b o).head? = some p) : p.2 = a := by
  induction o with
  | nil => cases h
  | cons x rest ih =>
    unfold updates at h
    split at h
    · exact ih h
    · cases h
      rfl

/-- Every section stands in the order of the updates of a group. -/
theorem mem_updateOrder (sec : Section) : sec ∈ updateOrder := by cases sec <;> decide

/-- The record of updates accounts for the way from some values to others: it begins with the contents of the first, and a section
that it does not name has the contents of the last from the start. -/
def Accounts (first last : StoreValues) (trace : List (Section × Retained)) : Prop :=
  (∀ sec, (storeBetween trace first).contents sec = first.contents sec) ∧
    ∀ sec, sec ∉ trace.map (·.1) → first.contents sec = last.contents sec

theorem storeBetween_cons (p : Section × Retained) (rest : List (Section × Retained)) (last : StoreValues) :
    storeBetween (p :: rest) last = p.2.toStoreValues := rfl

/-- A record accounts for the way from the values it begins with. -/
theorem Accounts.between {first last : StoreValues} {trace : List (Section × Retained)} (h : Accounts first last trace)
    (sec : Section) (hs : sec ∉ trace.map (·.1)) : (storeBetween trace last).contents sec = last.contents sec := by
  cases trace with
  | nil => rfl
  | cons p rest =>
    exact (h.1 sec).trans (h.2 sec hs)

/-- The work that follows an event is accounted for by its updates. -/
theorem settleUpdates_accounts (n : Nat) (e : Fixed) (c : Core) :
    Accounts (valuesOf e c) (valuesOf e (settle n e c)) (settleUpdates n e c) := by
  induction n generalizing c with
  | zero => exact ⟨fun _ => rfl, fun _ _ => rfl⟩
  | succ n ih =>
    unfold settleUpdates settle
    cases hs : settleStep e c with
    | none => exact ⟨fun _ => rfl, fun _ _ => rfl⟩
    | some c' =>
      obtain ⟨start, rest⟩ := ih c'
      have kept (sec : Section) (h : sec ∉ (updates (storeOf e c) (valuesOf e c') updateOrder).map (·.1)) :
          (valuesOf e c).contents sec = (valuesOf e c').contents sec :=
        updates_contents (storeOf e c) _ _ sec (mem_updateOrder sec) h
      simp only
      constructor
      · intro sec
        cases hu : updates (storeOf e c) (valuesOf e c') updateOrder with
        | nil =>
          cases ht : settleUpdates n e c' with
          | nil => rfl
          | cons p us =>
            rw [ht] at start
            exact (start sec).trans (kept sec (by simp [hu])).symm
        | cons p us =>
          have hp := updates_head (storeOf e c) (valuesOf e c') updateOrder p (by simp [hu])
          rw [List.cons_append, storeBetween_cons, hp]
          rfl
      · intro sec h
        simp only [List.map_append, List.mem_append, not_or] at h
        exact (kept sec h.1).trans (rest sec h.2)

/-- The updates of the work that follows are of legal values. -/
theorem settleUpdates_legal (n : Nat) (e : Fixed) (c : Core) (h : Ranged e c) :
    ∀ p ∈ settleUpdates n e c, p.2.toStoreValues.legal := by
  induction n generalizing c with
  | zero => simp [settleUpdates]
  | succ n ih =>
    intro p hp
    unfold settleUpdates at hp
    split at hp
    · next c' hs =>
      have h' := h.settleStep hs
      rcases List.mem_append.mp hp with hp | hp
      · exact updates_stores StoreValues.legal StoreValues.put_legal _ _ _ h.values h'.values p hp
      · exact ih c' h' p hp
    · cases hp

/-- The words after updates: a section updated has the word of the values at the end, and the others keep theirs (R190). -/
theorem wordsAfter_get (w : CheckWords) (us : List (Section × Retained)) (last : StoreValues) (sec : Section) :
    (wordsAfter w us last).get sec = if sec ∈ us.map (·.1) then last.checkWord sec else w.get sec := by
  induction us generalizing w with
  | nil => rfl
  | cons p us ih =>
    have step : wordsAfter w (p :: us) last = wordsAfter (w.set p.1 (last.checkWord p.1)) us last := rfl
    rw [step, ih]
    by_cases hp : sec = p.1
    · subst hp
      simp
    · simp only [List.map_cons, List.mem_cons, hp, false_or, CheckWords.get_set_other _ _ _ _ hp]

/-! ### Effects of a command -/

/-- `t` follows from `s` within an event, before any work that the blocks do of themselves: in its ranges, no update recorded. -/
structure Kept (s t : State) : Prop where
  journal : t.journal = s.journal
  words : t.words = s.words
  ranged : Ranged t.toFixed t.toCore

/-- `t` is what a command's effect makes of `s`: in its ranges, the updates of the work that followed recorded. -/
def Grown (s t : State) : Prop :=
  Ranged t.toFixed t.toCore ∧ t.words = s.words ∧ ∃ trace first, t.journal = s.journal ++ trace ∧
    (∀ p ∈ trace, p.2.legal) ∧ Accounts first (valuesOf t.toFixed t.toCore) trace

/-- A legal state follows from itself. -/
theorem State.legal.kept {s : State} (h : s.legal) : Kept s s := ⟨rfl, rfl, (s.legal_iff.mp h).1⟩

/-- An event whose effect grows from a legal state leads to a legal one. -/
theorem Grown.legal {s t : State} (hs : s.legal) (h : Grown s t) (o : List Section) (ho : ∀ sec, sec ∈ o) :
    (s.recordUpdates t o).legal := by
  obtain ⟨-, sound, record⟩ := s.legal_iff.mp hs
  obtain ⟨ranged, -, trace, first, journal, stores, accounts⟩ := h
  have hdrop : t.journal.drop s.journal.length = trace := by rw [journal, List.drop_left]
  have hlast := ranged.values
  have hmid : (storeBetween trace (valuesOf t.toFixed t.toCore)).legal := by
    cases trace with
    | nil => exact hlast
    | cons p rest => exact stores p (List.mem_cons_self ..)
  have hus : ∀ p ∈ updates s.retained (storeBetween trace (valuesOf t.toFixed t.toCore)) o ++ trace, p.2.legal := by
    intro p hp
    rcases List.mem_append.mp hp with hp | hp
    · exact updates_stores StoreValues.legal StoreValues.put_legal _ _ o (s.legal_iff.mp hs).1.values hmid p hp
    · exact stores p hp
  refine (State.legal_iff _).mpr ⟨ranged, ?_, ?_⟩
  · intro sec
    let us := updates s.retained (storeBetween trace (valuesOf t.toFixed t.toCore)) o ++ trace
    have hword : (s.recordUpdates t o).retained.words.get sec = (wordsAfter s.words us (valuesOf t.toFixed t.toCore)).get sec := by
      simp only [us, ← hdrop]
      rfl
    have hvalid : (s.recordUpdates t o).retained.valid sec = ((valuesOf t.toFixed t.toCore).holds sec &&
        (s.recordUpdates t o).retained.words.get sec == (valuesOf t.toFixed t.toCore).checkWord sec) := rfl
    have hholds : (s.recordUpdates t o).retained.holds sec = (valuesOf t.toFixed t.toCore).holds sec := rfl
    rw [hvalid, hholds, hword, wordsAfter_get]
    split
    · simp
    · next hsec =>
      simp only [us, List.map_append, List.mem_append, not_or] at hsec
      have same : s.retained.contents sec = (valuesOf t.toFixed t.toCore).contents sec :=
        (updates_contents s.retained _ o sec (ho sec) hsec.1).trans (accounts.between sec hsec.2)
      have word := sound sec
      simp only [Retained.valid, StoreValues.holds_of_contents same] at word
      simp only [StoreValues.checkWord, same] at word
      exact word
  · have hj : (s.recordUpdates t o).journal =
        let us := updates s.retained (storeBetween trace (valuesOf t.toFixed t.toCore)) o ++ trace
        if us.isEmpty then s.journal else us := by
      simp only [← hdrop]
      rfl
    intro p hp
    rw [hj] at hp
    simp only at hp
    split at hp
    · exact record p hp
    · exact hus p hp

/-- What is kept has grown: nothing has followed. -/
theorem Kept.grown {s t : State} (h : Kept s t) : Grown s t :=
  ⟨h.ranged, h.words, [], valuesOf t.toFixed t.toCore, by simp [h.journal], by simp, fun _ => rfl, fun _ _ => rfl⟩

/-- A frame in answer may follow the work of an event: it changes no value of the store and records no update. -/
theorem Grown.answer {s t : State} (h : Grown s t) (r : Request) (b : DoneBody) : Grown s (t.answer r b) := by
  obtain ⟨ranged, words, trace, first, journal, stores, accounts⟩ := h
  exact ⟨ranged.answer r b, words, trace, first, journal, stores, accounts⟩

section
variable {s t : State}

theorem Kept.onCore (h : Kept s t) (f : Core → Core) (hf : Ranged t.toFixed (f t.toCore)) : Kept s (t.onCore f) :=
  ⟨h.journal, h.words, hf⟩

theorem Kept.settled (h : Kept s t) : Grown s t.settled := by
  refine ⟨h.ranged.settle _, h.words, settleUpdates settleFuel t.toFixed t.toCore, valuesOf t.toFixed t.toCore, ?_, ?_, ?_⟩
  · exact congrArg (· ++ _) h.journal
  · exact settleUpdates_legal _ _ _ h.ranged
  · exact settleUpdates_accounts _ _ _

theorem Kept.act (h : Kept s t) (f : Fixed → Core → Core) (hf : Ranged t.toFixed (f t.toFixed t.toCore)) : Grown s (t.act f) :=
  (h.onCore (f t.toFixed) hf).settled

theorem Kept.refuse (h : Kept s t) (r : Request) (code : RefusalCode) : Kept s (t.refuse r code) :=
  h.onCore _ (h.ranged.refuse r code)

theorem Kept.answer (h : Kept s t) (r : Request) (b : DoneBody) : Kept s (t.answer r b) := h.onCore _ (h.ranged.answer r b)

theorem Kept.accept (h : Kept s t) (r : Request) (b : AcceptedBody) : Kept s (t.accept r b) :=
  h.onCore _ (h.ranged.accept r b)

theorem Kept.result (h : Kept s t) (r : Request) (b : ResultBody) : Kept s (t.result r b) := h.onCore _ (h.ranged.result r b)

theorem Kept.ite {p : Prop} [Decidable p] {u : State} (ht : Kept s t) (hu : Kept s u) : Kept s (if p then t else u) := by
  split
  · exact ht
  · exact hu

theorem Grown.ite {p : Prop} [Decidable p] {u : State} (ht : Grown s t) (hu : Grown s u) : Grown s (if p then t else u) := by
  split
  · exact ht
  · exact hu

end

end Sys2Proof.Machine
end

section
/-! SUPPORT. What the requests and the other commands keep of the ranges, those of a FILING link and the reset apart. -/

namespace Sys2Proof.Machine

/-! ### Fields of a body (12-1) -/

theorem beNat_lt (bs : List Byte) : beNat bs < 256 ^ bs.length := by
  induction bs with
  | nil => simp [beNat]
  | cons b bs ih =>
    rw [beNat_cons, List.length_cons, Nat.pow_succ]
    have hb : b.toNat + 1 ≤ 256 := b.isLt
    have := Nat.mul_le_mul_right (256 ^ bs.length) hb
    rw [Nat.add_mul, Nat.one_mul] at this
    omega

/-- A field of `n` bytes spells a number below 256 to the power `n`. -/
theorem fieldNat_lt (bytes : List Byte) (a n : Nat) : fieldNat bytes a n < 256 ^ n := by
  have hlen : (field bytes a n).length = n := by simp [field]
  have := beNat_lt (field bytes a n)
  rwa [hlen] at this

/-- A schedule that SET SCHEDULE spells is legal (R114, R115). -/
theorem Schedule.parse_legal {body : List Byte} {x : Schedule} (h : Schedule.parse body = some x) : x.legal := by
  unfold Schedule.parse at h
  simp only [Bool.and_eq_true, decide_eq_true_eq] at h
  split at h
  · next hr =>
    cases h
    exact ⟨hr.1.1.1, hr.1.1.2, hr.1.2, hr.2, nofun⟩
  · cases h

/-- Settings that SET CONFIG spells are legal (R186). -/
theorem Settings.parse_legal {body : List Byte} {x : Settings} (h : Settings.parse body = some x) : x.legal := by
  unfold Settings.parse at h
  simp only [Bool.and_eq_true, Bool.or_eq_true, decide_eq_true_eq, beq_iff_eq, inRange] at h
  split at h
  · next hr =>
    obtain ⟨⟨⟨⟨⟨h0, h1⟩, h2⟩, h3⟩, hd⟩, hlo, hhi⟩ := hr
    cases h
    have word (i : Nat) : fieldNat body i 2 ≤ 65535 := Nat.le_of_lt_succ (fieldNat_lt body i 2)
    refine ⟨fun l => ?_, or_assoc.mp hd, hlo, hhi, word _, word _, word _, word _, word _, word _⟩
    revert l
    exact Fin.forall_fin_succ.mpr ⟨h0, Fin.forall_fin_succ.mpr ⟨h1, Fin.forall_fin_succ.mpr ⟨h2,
      Fin.forall_fin_succ.mpr ⟨h3, nofun⟩⟩⟩⟩
  · cases h

/-- The fields of a RESTORE COUNTER make a legal COUNTER (R163). -/
theorem parseRestore_legal {body : List Byte} {n d : Nat} (h : parseRestore body = some (n, d)) : Counter.legal ⟨n, d⟩ := by
  unfold parseRestore at h
  simp only [Bool.and_eq_true, decide_eq_true_eq, inRange] at h
  split at h
  · next hr =>
    obtain ⟨h1, h2, h3⟩ := hr
    cases h
    exact ⟨h1, Nat.le_of_lt_succ (fieldNat_lt body 0 4), h2, h3⟩
  · cases h

theorem nextDay_legal (d : Nat) : legalDay (nextDay d) := by
  unfold nextDay legalDay Config.maxDay
  split <;> omega

theorem StationTally.zero_legal (st : Fin 16) : zeroTallies[st].legal := by
  have h : zeroTallies[st] = .zero := by simp [zeroTallies]
  rw [h]
  exact ⟨fun cls => by cases cls <;> exact ⟨Nat.zero_le _, Nat.zero_le _⟩, rfl⟩

/-! ### Links (R176, R183) -/

theorem LinkUnit.timed_of_timer {u : LinkUnit} {limit : Nat} (h : u.timer = timerOf limit) (hl : limit ≤ 60) : u.Timed := by
  intro n hn
  rw [h, timerOf] at hn
  split at hn
  · cases hn
  · cases hn
    exact hl

section
variable {s t : State}

theorem Kept.validFrame (h : Kept s t) (l : LinkId) : Kept s (t.validFrame l) :=
  h.onCore _ (h.ranged.onLink l (fun u _ => LinkUnit.timed_of_timer (u.validFrame_timer _) (h.ranged.fixed.settings.1 l)))

/-- A request grows from a legal state where what its owner makes of the examined frame does. -/
theorem Kept.examine (h : Kept s t) (k : RequestKind) (r : Request) {own : State → State}
    (hown : ∀ u, Kept s u → Grown s (own u)) : Grown s (examine k r own t) :=
  .ite ((h.validFrame r.link).refuse r .role).grown
    (.ite ((h.validFrame r.link).refuse r .format).grown (hown _ (h.validFrame r.link)))

/-! ### ACCOUNTS links -/

/-- The part of the state beside the core changes to another in its ranges, and the pending list keeps its bounds. -/
theorem Kept.setFixed (h : Kept s t) {u : State} (hc : u.toCore = t.toCore) (hf : u.toFixed.Ranged)
    (hr : ReceiptsKept u.toFixed t.pendingList t.blockMap) (hj : u.journal = t.journal) (hw : u.words = t.words) : Kept s u := by
  refine ⟨hj.trans h.journal, hw.trans h.words, ?_⟩
  rw [hc]
  exact ⟨hf, h.ranged.2.1, h.ranged.2.2.1, h.ranged.2.2.2.1, hr⟩

theorem Kept.takeSetSchedule (h : Kept s t) (r : Request) : Grown s (takeSetSchedule r t) := by
  unfold Machine.takeSetSchedule
  split
  · next sch hs =>
    exact ((h.setFixed (u := { t with schedule := sch }) rfl { h.ranged.1 with schedule := Schedule.parse_legal hs }
      h.ranged.receipts rfl rfl).answer r _).grown
  · exact (h.refuse r _).grown

theorem Kept.takeOpenReception (h : Kept s t) (r : Request) : Grown s (takeOpenReception r t) := by
  unfold Machine.takeOpenReception
  simp only
  split
  · next hm =>
    simp only [inRange, Bool.and_eq_true, decide_eq_true_eq] at hm
    have hw : ∀ n, some (fieldNat r.body 0 2 * 60) = some n → n ≤ 43200 := by
      rintro n ⟨⟩
      omega
    exact ((h.setFixed (u := { t with window := some (fieldNat r.body 0 2 * 60) }) rfl
      { h.ranged.1 with window := hw } h.ranged.receipts rfl rfl).answer r _).grown
  · exact (h.refuse r _).grown

theorem Kept.takeCloseReception (h : Kept s t) (r : Request) : Grown s (takeCloseReception r t) :=
  ((h.setFixed (u := { t with window := none }) rfl { h.ranged.1 with window := nofun } h.ranged.receipts rfl rfl).answer
    r _).grown

theorem Kept.takeSetClock (h : Kept s t) (r : Request) : Grown s (takeSetClock r t) := by
  unfold Machine.takeSetClock
  simp only
  split
  · next hm =>
    exact ((h.setFixed (u := { t with clock := some (fieldNat r.body 0 4) }) rfl
      { h.ranged.1 with clock := by rintro n ⟨⟩; exact hm } h.ranged.receipts rfl rfl).answer r _).grown
  · exact (h.refuse r _).grown

theorem Kept.takeReadTally (h : Kept s t) (r : Request) : Grown s (takeReadTally r t) :=
  .ite (h.result r _).grown (.ite (h.result r _).grown (h.refuse r _).grown)

theorem Kept.closeDay (h : Kept s t) (rs : List TillReport) : Kept s (t.closeDay rs) := by
  have he := h.ranged.1
  have hr := h.ranged.receipts
  have hday := nextDay_legal t.tallyDay
  have hcounter : ∀ k, t.counter.map (fun k : Counter => { k with day := nextDay t.tallyDay }) = some k →
      ∃ k', t.counter = some k' ∧ k.nextRn = k'.nextRn ∧ k.day = nextDay t.tallyDay := by
    intro k hk
    obtain ⟨k', hk', rfl⟩ := Option.map_eq_some_iff.mp hk
    exact ⟨k', hk', rfl, rfl⟩
  let e' : Fixed := { t.toFixed with
    closeResult := some (closeResultOf t.tallies t.tallyDay t.tallyLost t.clock rs)
    snapshot := { day := some t.tallyDay, tallyLost := t.tallyLost, stations := t.tallies }
    tallyLost := false, tallyDay := nextDay t.tallyDay
    counter := t.counter.map (fun k : Counter => { k with day := nextDay t.tallyDay }) }
  have fixed : e'.Ranged :=
    { he with
      tallyDay := hday
      snapshot := h.ranged.books.1
      counter := by
        intro k hk
        obtain ⟨k', hk', hn, hd⟩ := hcounter k hk
        obtain ⟨h1, h2, -⟩ := he.counter k' hk'
        exact ⟨hn ▸ h1, hn ▸ h2, hd ▸ hday⟩
      numbers := by
        intro k hk
        obtain ⟨k', hk', hn, -⟩ := hcounter k hk
        exact hn ▸ he.numbers k' hk'
      noTransfer := fun hl => he.noTransfer (hl.imp (fun hn => Option.map_eq_none_iff.mp hn) id) }
  have receipts : ReceiptsKept e' t.pendingList t.blockMap := by
    obtain ⟨pending, void, bound, below, map, unstaged⟩ := hr
    refine ⟨pending, void, bound, fun k hk p hp => ?_, map, unstaged⟩
    obtain ⟨k', hk', hn, -⟩ := hcounter k hk
    exact hn ▸ below k' hk' p hp
  have closed : Ranged e' { t.toCore with tallies := zeroTallies, courtesy := .empty } :=
    ⟨fixed, h.ranged.2.1, h.ranged.sides, ⟨StationTally.zero_legal, CourtesyList.legal_empty⟩, receipts⟩
  exact ⟨h.journal, h.words, closed.notifyRole _ _⟩

theorem Kept.takeCloseDay (h : Kept s t) (r : Request) : Grown s (takeCloseDay r t) := by
  unfold Machine.takeCloseDay
  split
  · exact (h.refuse r _).grown
  · split
    · exact (h.refuse r _).grown
    · exact ((h.closeDay _).result r _).grown

/-! ### Any link -/

theorem Kept.takeSetNoticeMask (h : Kept s t) (r : Request) : Grown s (takeSetNoticeMask r t) := by
  unfold Machine.takeSetNoticeMask
  split
  · next m _ =>
    have timed (u : LinkUnit) (hu : u.Timed) : (u.setMask r.tag m).Timed := by
      have masked : LinkUnit.Timed { u with mask := m } := hu
      exact masked.emit _
    exact (h.onCore _ (h.ranged.onLink r.link timed)).grown
  · exact (h.refuse r _).grown

theorem Kept.setResetDue (h : Kept s t) (b : Bool) : Kept s { t with resetDue := b } :=
  h.setFixed rfl { h.ranged.1 with } h.ranged.receipts rfl rfl

theorem Kept.takeFrameSent (h : Kept s t) (l : LinkId) : Grown s (takeFrameSent l t) :=
  ((h.onCore (·.onLink l (fun u => { u with out := u.out.drop 1 })) (h.ranged.onLink l (by exact fun _ hu => hu))).setResetDue
    _).grown

/-! ### COUNTER links -/

theorem Ranged.acceptJob {e : Fixed} {c : Core} (h : Ranged e c) (r : Request) (j : Job) : Ranged e (acceptJob r j e c) := by
  have joined : Ranged e ({ c with queue := c.queue ++ [j], nextAccept := c.nextAccept + 1 } : Core) := h
  unfold Machine.acceptJob Core.placeNew
  simp only
  split
  · exact (joined.accept r _).placeJob _ _
  · exact joined.accept r _

theorem Kept.takeFetch (h : Kept s t) (r : Request) : Grown s (takeFetch r t) := by
  unfold Machine.takeFetch
  split
  · exact (h.refuse r _).grown
  · split
    · exact (h.refuse r _).grown
    · exact h.act _ (h.ranged.acceptJob r _)

theorem Kept.takeWalk (h : Kept s t) (r : Request) : Grown s (takeWalk r t) := by
  unfold Machine.takeWalk
  split
  · exact (h.refuse r _).grown
  · split
    · exact (h.refuse r _).grown
    · exact h.act _ (h.ranged.acceptJob r _)

theorem Kept.takeCancel (h : Kept s t) (r : Request) : Grown s (takeCancel r t) := by
  unfold Machine.takeCancel
  split
  · exact (h.refuse r _).grown
  · next j _ => exact h.act _ (.ite ((h.ranged.accept r _).cancelJob j) ((h.ranged.answer r _).cancelJob j))

/-! ### SERVICE links -/

theorem Ranged.withHold {e : Fixed} {c : Core} (h : Ranged e c) (x : Hold) : Ranged e { c with hold := x } := h

theorem Ranged.holdRequest {e : Fixed} {c : Core} (h : Ranged e c) (r : Request) : Ranged e (holdRequest r e c) := by
  unfold Machine.holdRequest
  split
  · exact .ite (h.answer r _) (h.refuse r _)
  · exact .ite ((h.withHold _).accept r _) (h.refuse r _)
  · exact .ite ((h.withHold _).accept r _) ((h.withHold _).answer r _)

theorem Ranged.releaseRequest {e : Fixed} {c : Core} (h : Ranged e c) (r : Request) : Ranged e (releaseRequest r e c) := by
  unfold Machine.releaseRequest
  split
  · exact .ite ((h.withHold _).answer r _) (h.refuse r _)
  · exact .ite ((h.withHold _).answer r _) (h.refuse r _)
  · exact h.refuse r _

theorem Ranged.moveRequest {e : Fixed} {c : Core} (h : Ranged e c) (r : Request) (f : MoveFields) :
    Ranged e (moveRequest r f e c) := by
  unfold Machine.moveRequest
  simp only
  split
  · exact ((h.accept r _).onDrive _ (by exact fun _ hx => hx)).joinMove _ _ _ _ _ _
  · exact ((h.accept r _).onDrive _ (by exact fun _ hx => hx)).beginUnload _

theorem Kept.takeMove (h : Kept s t) (r : Request) : Grown s (takeMove r t) := by
  unfold Machine.takeMove
  split
  · exact (h.refuse r _).grown
  · split
    · exact (h.refuse r _).grown
    · exact h.act _ (h.ranged.moveRequest r _)

theorem Ranged.resumeRequest {e : Fixed} {c : Core} (h : Ranged e c) (r : Request) : Ranged e (resumeRequest r e c) := by
  unfold Machine.resumeRequest
  split
  · exact (h.accept r _).beginRecovery _ _ _
  · exact h.answer r _

theorem Kept.setPanel (h : Kept s t) {p : Panel} (hp : ∀ i n, p.timers.of i = some n → n ≤ 160) :
    Kept s { t with panel := p } :=
  h.setFixed rfl { h.ranged.1 with debounce := hp } h.ranged.receipts rfl rfl

theorem Kept.takeResume (h : Kept s t) (r : Request) : Grown s (takeResume r t) := by
  have cleared : Kept s { t with panel := { t.panel with stop := false } } := h.setPanel h.ranged.1.debounce
  unfold Machine.takeResume
  refine .ite (h.refuse r _).grown ?_
  simp only
  split
  · have told := cleared.onCore (·.notifyRole .service (Panel.notice { t.panel with stop := false } .stopCleared))
      (cleared.ranged.notifyRole _ _)
    exact told.act _ (told.ranged.resumeRequest r)
  · exact cleared.act _ (cleared.ranged.resumeRequest r)

theorem Ranged.clearDriveRequest {e : Fixed} {c : Core} (h : Ranged e c) (r : Request) (d : DriveId) :
    Ranged e (clearDriveRequest r d e c) :=
  .ite (h.refuse r _) (.ite (h.answer r _) (.ite (h.refuse r _)
    (.ite (((h.accept r _).onDrive d (by exact fun _ hx => hx)).issue d _ _)
      ((((h.accept r _).emptyDrive d).clearAlarm _).mediaDone _ _ _))))

theorem Ranged.lateProbed {e : Fixed} {c : Core} (h : Ranged e c) (m : Move) : Ranged e (c.lateProbed m) := by
  unfold Core.lateProbed
  split
  · exact h.recordProbe _ _
  · exact h

theorem Ranged.clearPickerRequest {e : Fixed} {c : Core} (h : Ranged e c) (r : Request) : Ranged e (clearPickerRequest r e c) := by
  refine .ite (h.refuse r _) ?_
  split
  · next m _ _ =>
    have alarm := (h.accept r .empty).clearAlarm .pickerFault
    unfold Machine.clearPicker
    simp only
    split
    · exact ((alarm.moveDone _).lateProbed _).beginRecovery _ _ _
    · exact alarm.beginRecovery _ _ _
  · exact h.answer r _

theorem Kept.takeClearFault (h : Kept s t) (r : Request) : Grown s (takeClearFault r t) := by
  unfold Machine.takeClearFault
  split
  · exact h.act _ (h.ranged.clearDriveRequest r _)
  · exact h.act _ (h.ranged.clearPickerRequest r)
  · exact (h.refuse r _).grown

theorem Ranged.importRequest {e : Fixed} {c : Core} (h : Ranged e c) (r : Request) : Ranged e (importRequest r e c) := by
  unfold Machine.importRequest
  simp only
  split
  · exact ((h.accept r _).withImport _).joinMove _ _ _ _ _ _
  · exact .ite ((h.accept r _).withImport _) ((h.accept r _).importMount _)

theorem Kept.takeImport (h : Kept s t) (r : Request) : Grown s (takeImport r t) := by
  unfold Machine.takeImport
  refine .ite (h.refuse r _).grown ?_
  split
  · exact (h.refuse r _).grown
  · exact h.act _ (h.ranged.importRequest r)

theorem Ranged.exportRequest {e : Fixed} {c : Core} (h : Ranged e c) (r : Request) (v : SlotId) :
    Ranged e (exportRequest r v e c) := by
  unfold Machine.exportRequest
  extract_lets c1 op
  have h1 : Ranged e c1 := h.accept r _
  cases hb : c1.beginExport op with
  | none => exact h1.withExport _
  | some c' => exact h1.beginExport hb

theorem Kept.takeExport (h : Kept s t) (r : Request) : Grown s (takeExport r t) := by
  unfold Machine.takeExport
  split
  · exact (h.refuse r _).grown
  · split
    · exact (h.refuse r _).grown
    · exact h.act _ (h.ranged.exportRequest r _)

theorem Kept.takeInventory (h : Kept s t) (r : Request) : Grown s (takeInventory r t) :=
  .ite (h.refuse r _).grown (.ite (h.refuse r _).grown (h.act _ ((h.ranged.accept r _).startInventory _)))

theorem Kept.takePanelAck (h : Kept s t) (r : Request) : Grown s (takePanelAck r t) :=
  ((h.setPanel (p := { t.panel with latches := .none }) h.ranged.1.debounce).answer r _).grown

theorem LinkUnit.Timed.newLimit {u : LinkUnit} (h : u.Timed) {limit : Nat} (hl : limit ≤ 60) : (u.newLimit limit).Timed := by
  unfold LinkUnit.newLimit
  split
  · exact LinkUnit.timed_of_timer rfl hl
  · exact h

theorem Kept.takeSetConfig (h : Kept s t) (r : Request) : Grown s (takeSetConfig r t) := by
  unfold Machine.takeSetConfig
  split
  · next st hs =>
    have legal := Settings.parse_legal hs
    have timed : ∀ l, ((reloadAll t.links st.silence).get l).Timed := by
      refine Fin.forall_fin_succ.mpr ⟨?_, Fin.forall_fin_succ.mpr ⟨?_,
        Fin.forall_fin_succ.mpr ⟨?_, Fin.forall_fin_succ.mpr ⟨?_, nofun⟩⟩⟩⟩
      · exact LinkUnit.Timed.newLimit (h.ranged.2.1.1 0) (legal.1 0)
      · exact LinkUnit.Timed.newLimit (h.ranged.2.1.1 1) (legal.1 1)
      · exact LinkUnit.Timed.newLimit (h.ranged.2.1.1 2) (legal.1 2)
      · exact LinkUnit.Timed.newLimit (h.ranged.2.1.1 3) (legal.1 3)
    have set : Kept s { t with settings := st } :=
      h.setFixed rfl { h.ranged.1 with settings := legal } h.ranged.receipts rfl rfl
    have reloaded : Kept s { t with settings := st, links := reloadAll t.links st.silence } :=
      ⟨set.journal, set.words, set.ranged.withLinks timed⟩
    exact (reloaded.answer r _).grown
  · exact (h.refuse r _).grown

theorem Kept.takeRestart (h : Kept s t) (r : Request) : Grown s (takeRestart r t) :=
  .ite (h.refuse r _).grown (h.answer r _).grown

/-! ### The panel -/

theorem InputTimers.put_of (x : InputTimers) (i j : Input) (n : Option Nat) : (x.put i n).of j = if j = i then n else x.of j := by
  cases i <;> cases j <;> rfl

theorem Kept.takeRawInput (h : Kept s t) (i : Input) (active : Bool) : Grown s (takeRawInput i active t) := by
  refine (h.setPanel (p := t.panel.rawChange t.settings.debounce i active) fun j n hn => ?_).grown
  have hwin : t.settings.debounce ≤ 160 := by
    rcases h.ranged.1.settings.2.1 with hw | hw | hw <;> omega
  rw [Panel.rawChange, InputTimers.put_of] at hn
  split at hn
  · unfold debounceTimer at hn
    split at hn
    · cases hn
    · split at hn
      · next m hm =>
        cases hn
        exact h.ranged.1.debounce i _ hm
      · cases hn
        exact hwin
  · exact h.ranged.1.debounce j n hn

theorem Ranged.takeEdge {e : Fixed} {c : Core} (h : Ranged e c) (i : Input) (active raised : Bool) :
    Ranged e (c.takeEdge i active raised) := by
  cases i with
  | frontDoor => exact .ite h.haltPicker h
  | cartridgePresent =>
    refine .ite (.ite (h.withMailslot _) h) (Ranged.clearAlarm (Ranged.withMailslot ?_ _) _)
    split
    · exact h.setLoc _ _
    · exact h
  | mailslotDoor => exact h
  | kLeft => exact .ite h.haltPicker h
  | kRight => exact .ite h.haltPicker h

theorem Ranged.panelEdge {e : Fixed} {c : Core} (h : Ranged e c) (p : Panel) (i : Input) : Ranged e (c.panelEdge p i) :=
  (h.foldl (fun _ n hc => hc.notifyRole .service n) _).takeEdge _ _ _

theorem Kept.takeEdge (h : Kept s t) (i : Input) : Grown s (takeEdge i t) := by
  unfold Machine.takeEdge
  split
  · exact h.grown
  · have edge : Kept s { t with panel := t.panel.edge i } := h.setPanel fun j n hn => by
      rw [Panel.edge, InputTimers.put_of] at hn
      split at hn
      · cases hn
      · exact h.ranged.1.debounce j n hn
    exact edge.act _ (edge.ranged.panelEdge t.panel i)

/-! ### The picker -/

theorem Ranged.recordLate {e : Fixed} {c : Core} (h : Ranged e c) : Ranged e c.recordLate :=
  .ite (h.withPicker h.picker) h

theorem Kept.takeMoveDone (h : Kept s t) : Grown s (takeMoveDone t) := by
  unfold Machine.takeMoveDone
  split
  · exact .ite h.grown (h.act _ ((h.ranged.pickerIdle.moveDone _).grantHold))
  · exact (h.onCore _ h.ranged.recordLate).grown

theorem Kept.takeMoveFailed (h : Kept s t) : Grown s (takeMoveFailed t) := .ite (h.act _ (h.ranged.pickerFail _)) h.grown

theorem Ranged.recordLateProbe {e : Fixed} {c : Core} (h : Ranged e c) (occupied : Bool) :
    Ranged e (c.recordLateProbe occupied) := by
  unfold Core.recordLateProbe
  split
  · exact .ite (h.withPicker h.picker) h
  · exact h

theorem Kept.takeProbeDone (h : Kept s t) (occupied : Bool) : Grown s (takeProbeDone occupied t) := by
  unfold Machine.takeProbeDone
  split
  · split
    · exact h.act _ ((h.ranged.pickerIdle.recordProbe _ _).grantHold)
    · exact h.grown
  · exact (h.onCore _ (h.ranged.recordLateProbe occupied)).grown

theorem Ranged.rehomed {e : Fixed} {c : Core} (h : Ranged e c) (gripped : Bool) : Ranged e (rehomed gripped e c) := by
  unfold Machine.rehomed
  split
  · exact .ite (h.withPicker h.picker) (h.recovered _)
  · exact ((h.recoveryDone _).grantHold).pickerIdle
  · exact h.startRehomed _
  · exact h

theorem Ranged.returned {e : Fixed} {c : Core} (h : Ranged e c) : Ranged e (returned e c) := by
  unfold Machine.returned
  split
  · exact h.recovered _
  · exact h.startReturned
  · exact h

theorem Ranged.destinationProbed {e : Fixed} {c : Core} (h : Ranged e c) (occupied : Bool) :
    Ranged e (destinationProbed occupied e c) := by
  unfold Machine.destinationProbed
  split
  · exact h.startProbed _
  · exact h

/-! ### The timebase -/

theorem countdown_le {x : Option Nat} {b : Nat} (h : ∀ n, x = some n → n ≤ b) : ∀ n, countdown x = some n → n ≤ b := by
  intro n hn
  obtain ⟨m, hm, rfl⟩ := Option.map_eq_some_iff.mp hn
  exact (Nat.sub_le m 1).trans (h m hm)

theorem LinkUnit.Timed.second {u : LinkUnit} (h : u.Timed) : u.second.Timed := by
  unfold LinkUnit.second
  split
  · exact countdown_le h
  · exact h

theorem Drive.Timed.second {x : Drive} (h : x.Timed) : x.second.Timed := by
  constructor
  · have hi : x.second.idle = if x.state = .ready ∧ x.claims = 0 then countdown x.idle else x.idle := rfl
    rw [hi]
    split
    · exact countdown_le h.1
    · exact h.1
  · intro o ho
    obtain ⟨o', ho', rfl⟩ := Option.map_eq_some_iff.mp ho
    exact (Nat.sub_le _ 1).trans (h.2 o' ho')

theorem Picker.Timed.second {p : Picker} (h : p.Timed) : p.second.Timed := by
  unfold Picker.second
  split
  · exact countdown_le h
  · exact h

theorem Kept.takeSecond (h : Kept s t) : Grown s (takeSecond t) := by
  have core : Ranged t.toFixed t.toCore.second :=
    ((h.ranged.mapLinks fun _ hu => hu.second).mapDrives fun _ hx => hx.second).withPicker h.ranged.picker.second
  have clock : ∀ n, clockAfter t.clock = some n → n ≤ 86399 := by
    intro n hn
    obtain ⟨m, -, rfl⟩ := Option.map_eq_some_iff.mp hn
    unfold Config.maxClock
    split <;> omega
  exact ((h.onCore Core.second core).setFixed (u := Machine.takeSecond t) rfl
    { h.ranged.1 with clock := clock, window := countdown_le h.ranged.1.window } h.ranged.receipts rfl rfl).grown

theorem Kept.takeWindowExpiry (h : Kept s t) : Grown s (takeWindowExpiry t) :=
  .ite (h.setFixed (u := { t with window := none }) rfl { h.ranged.1 with window := nofun } h.ranged.receipts rfl rfl).grown
    h.grown

theorem Ranged.silenceLink {e : Fixed} {c : Core} (h : Ranged e c) (l : LinkId) : Ranged e (silenceLink l e c) :=
  have silent (u : LinkUnit) (_ : u.Timed) : u.silence.Timed := fun n hn => nomatch (show (none : Option Nat) = some n from hn)
  ((h.onLink l silent).cancelJobsOf l).withHold _

theorem Ranged.idleExpiry {e : Fixed} {c : Core} (h : Ranged e c) (d : DriveId) : Ranged e (c.idleExpiry d) :=
  .ite (Ranged.issue (h.onDrive d (by exact fun _ hx => Drive.Timed.stopped hx rfl rfl)) d _ _) h

theorem Kept.takeOperationTimeout (h : Kept s t) (d : DriveId) : Grown s (takeOperationTimeout d t) := by
  unfold Machine.takeOperationTimeout
  split
  · exact .ite (h.act _ (h.ranged.operationTimeout d _)) h.grown
  · exact h.grown

theorem Kept.takeStall (h : Kept s t) : Grown s (takeStall t) := .ite (h.act _ (h.ranged.pickerFail _)) h.grown

/-! ### Completions of drive operations -/

/-- A completion grows from a legal state where the part that takes it keeps the ranges. -/
theorem Kept.completion (h : Kept s t) (d : DriveId) {f : Fixed → Core → DriveOp → Option Core}
    (hf : ∀ c o c', Ranged t.toFixed c → f t.toFixed c o = some c' → Ranged t.toFixed c') : Grown s (completion d f t) := by
  unfold Machine.completion
  split
  · split
    · next c hc => exact (h.onCore (fun _ => c) (hf _ _ _ (h.ranged.endOp d) hc)).settled
    · exact h.grown
  · exact h.grown

end

section
variable {e : Fixed} {c c' : Core} {o : DriveOp}

theorem Ranged.takeLoad (h : Ranged e c) (d : DriveId) (r : LoadResult) (hs : takeLoad d r e c o = some c') : Ranged e c' := by
  unfold Machine.takeLoad at hs
  split at hs
  · cases hs
    exact h.loadDone d r o
  · cases hs

theorem Ranged.takeSpinDown (h : Ranged e c) (d : DriveId) (hs : takeSpinDown d e c o = some c') : Ranged e c' := by
  unfold Machine.takeSpinDown at hs
  split at hs
  · cases hs
    exact h.spinDownDone d o
  · cases hs

theorem Ranged.takeEject (h : Ranged e c) (d : DriveId) (hs : takeEject d e c o = some c') : Ranged e c' := by
  unfold Machine.takeEject at hs
  split at hs
  · cases hs
    exact h.ejectDone d
  · cases hs

theorem Ranged.forEngine (h : Ranged e c) {u : OpUser} {d : DriveId} {f : Fixed → Core → Core} (hf : Ranged e (f e c))
    (hs : forEngine u d f e c o = some c') : Ranged e c' := by
  unfold Machine.forEngine at hs
  split at hs
  · cases hs
    exact .ite hf h
  · cases hs

theorem Ranged.takeFlush (h : Ranged e c) (d : DriveId) (r : FlushResult) (hs : takeFlush d r e c o = some c') : Ranged e c' := by
  unfold Machine.takeFlush at hs
  split at hs
  · split at hs
    · exact h.flushDone hs
    · cases hs
      exact h
  · cases hs

theorem Ranged.takeDirectoryRead (h : Ranged e c) (d : DriveId) (r : ReadResult) (hs : takeDirectoryRead d r e c o = some c') :
    Ranged e c' := by
  unfold Machine.takeDirectoryRead at hs
  split at hs
  · obtain ⟨j, -, rfl⟩ := Option.map_eq_some_iff.mp hs
    exact h.directoryRead d j _ r
  · cases hs

theorem Ranged.takeChunkRead (h : Ranged e c) (d : DriveId) (r : ReadResult) (hs : takeChunkRead d r e c o = some c') :
    Ranged e c' := by
  unfold Machine.takeChunkRead at hs
  split at hs
  · split at hs
    · obtain ⟨en, -, rfl⟩ := Option.map_eq_some_iff.mp hs
      exact h.chunkRead d _ en r
    · cases hs
  · cases hs

theorem Ranged.takeProbeRead (h : Ranged e c) (d : DriveId) (r : ReadResult) (hs : takeProbeRead d r e c o = some c') :
    Ranged e c' := by
  unfold Machine.takeProbeRead at hs
  split at hs
  · cases hs
    exact h.probeRead d r
  · cases hs

theorem Ranged.takeImportRead (h : Ranged e c) (d : DriveId) (r : ReadResult) (hs : takeImportRead d r e c o = some c') :
    Ranged e c' := by
  unfold Machine.takeImportRead at hs
  split at hs
  · obtain ⟨op, -, rfl⟩ := Option.map_eq_some_iff.mp hs
    exact h.importRead op d r
  · cases hs

/-- A completion of inventory's scan is taken for the inventory under way and the cartridge it reads. -/
theorem forScan_some {u : OpUser} {f : Inventory → Reading → Option Core} (hs : forScan u f c o = some c') :
    ∃ i rd, c.inventory = some i ∧ i.reading = some rd ∧ f i rd = some c' := by
  unfold forScan at hs
  split at hs
  · split at hs
    · next i hi =>
      obtain ⟨rd, hrd, hf⟩ := Option.bind_eq_some_iff.mp hs
      exact ⟨i, rd, hi, hrd, hf⟩
    · cases hs
  · cases hs

end

end Sys2Proof.Machine
end

section
/-! SUPPORT. What the requests of a FILING link keep of the ranges: the transfers with their staging blocks and pending slots (R51,
R52), the receipt and the resubmission (R55, R74); with them WITHDRAW and RESTORE COUNTER, which change the pending list too. -/

namespace Sys2Proof.Machine

/-! ### The four transfers (R51, R52) -/

theorem slotsTaken_set (ts : Four (Option Transfer)) (l : LinkId) (x : Option Transfer) :
    slotsTaken (ts.set l x) = slotsOf x + slotsTaken (ts.set l none) := by
  rcases ts with ⟨a, b, c, d⟩
  fin_cases l <;> simp [slotsTaken, Four.set, slotsOf] <;> omega

theorem transferBlocks_set (ts : Four (Option Transfer)) (l : LinkId) (x : Option Transfer) :
    (transferBlocks (ts.set l x)).Perm (heldBlocks x ++ transferBlocks (ts.set l none)) := by
  have front (xs ys zs : List Nat) : (xs ++ (ys ++ zs)).Perm (ys ++ (xs ++ zs)) := by
    simpa using (List.perm_append_comm (l₁ := xs) (l₂ := ys)).append_right zs
  rcases ts with ⟨a, b, c, d⟩
  fin_cases l
  · simp [transferBlocks, Four.set, Four.toList, heldBlocks]
  · simpa [transferBlocks, Four.set, Four.toList, heldBlocks] using front _ _ _
  · have := front (heldBlocks a ++ heldBlocks b) (heldBlocks x) (heldBlocks d)
    simpa [transferBlocks, Four.set, Four.toList, heldBlocks] using this
  · have := front (heldBlocks a ++ (heldBlocks b ++ heldBlocks c)) (heldBlocks x) []
    simpa [transferBlocks, Four.set, Four.toList, heldBlocks] using this

section
variable {ts : Four (Option Transfer)} {l : LinkId}

/-- The slots and blocks of the transfers, that of a link counted by itself. -/
theorem slotsTaken_get (ts : Four (Option Transfer)) (l : LinkId) :
    slotsTaken ts = slotsOf (ts.get l) + slotsTaken (ts.set l none) := by
  conv_lhs => rw [← Four.set_get_self ts l]
  exact slotsTaken_set ts l _

theorem transferBlocks_get (ts : Four (Option Transfer)) (l : LinkId) :
    (transferBlocks ts).Perm (heldBlocks (ts.get l) ++ transferBlocks (ts.set l none)) := by
  have h := transferBlocks_set ts l (ts.get l)
  rwa [Four.set_get_self] at h

end

/-! ### The number of entries and submissions -/

/-- The transfers change to some that hold no more pending slots. -/
theorem Fixed.Ranged.withTransfers {e : Fixed} (h : e.Ranged) {ts : Four (Option Transfer)}
    (hs : slotsTaken ts ≤ slotsTaken e.transfers) : Fixed.Ranged { e with transfers := ts } :=
  { h with
    numbers := fun k hk => (Nat.add_le_add_left hs _).trans (h.numbers k hk)
    noTransfer := fun hl => Nat.le_zero.mp ((h.noTransfer hl) ▸ hs) }

/-- The transfers and the block map change, the pending list stays. -/
theorem ReceiptsKept.withTransfers {e : Fixed} {ps : List PendingEntry} {map map' : List Bool} (h : ReceiptsKept e ps map)
    {ts : Four (Option Transfer)} (hs : slotsTaken ts ≤ slotsTaken e.transfers)
    (hm : MapOf map (entryBlocks ps ++ transferBlocks e.transfers) → MapOf map' (entryBlocks ps ++ transferBlocks ts)) :
    ReceiptsKept { e with transfers := ts } ps map' := by
  obtain ⟨pending, void, bound, below, map, unstaged⟩ := h
  exact ⟨pending, void, (Nat.add_le_add_left hs _).trans bound, below, hm map, unstaged⟩

/-- An entry in front of others is owned with its blocks in front. -/
theorem entryBlocks_split (pre : List PendingEntry) (p : PendingEntry) (post : List PendingEntry) (rest : List Nat) :
    (entryBlocks (pre ++ p :: post) ++ rest).Perm (p.blocks.getD [] ++ (entryBlocks (pre ++ post) ++ rest)) := by
  have := (List.perm_append_comm (l₁ := entryBlocks pre) (l₂ := p.blocks.getD [])).append_right (entryBlocks post ++ rest)
  simpa [entryBlocks] using this

/-- In an ascending list a change of the entry of one number is a change in one place. -/
theorem legalPending.map_entry {ps : List PendingEntry} (h : legalPending ps) {p : PendingEntry} (hp : p ∈ ps)
    {f : PendingEntry → PendingEntry} (hf : ∀ q, q.rn ≠ p.rn → f q = q) :
    ∃ pre post, ps = pre ++ p :: post ∧ ps.map f = pre ++ f p :: post := by
  obtain ⟨pre, post, rfl⟩ := List.append_of_mem hp
  obtain ⟨-, asc, -⟩ := h
  rw [List.pairwise_append, List.pairwise_cons] at asc
  obtain ⟨-, ⟨after, -⟩, before⟩ := asc
  have same (qs : List PendingEntry) (hqs : ∀ q ∈ qs, q.rn ≠ p.rn) : qs.map f = qs :=
    (List.map_congr_left fun q hq => hf q (hqs q hq)).trans (List.map_id _)
  refine ⟨pre, post, rfl, ?_⟩
  rw [List.map_append, List.map_cons, same pre (fun q hq => (before q hq p (List.mem_cons_self ..)).ne),
    same post (fun q hq => (after q hq).ne')]

/-- The rules of the pending list speak of its numbers only. -/
theorem legalPending.of_rns {ps qs : List PendingEntry} (h : legalPending ps) (hn : qs.map (·.rn) = ps.map (·.rn)) :
    legalPending qs := by
  obtain ⟨len, asc, rns⟩ := h
  have hlen : qs.length = ps.length := by simpa using congrArg List.length hn
  refine ⟨hlen ▸ len, ?_, ?_⟩
  · have rising : (ps.map (·.rn)).Pairwise (· < ·) := List.pairwise_map.mpr asc
    rw [← hn] at rising
    exact List.pairwise_map.mp rising
  · have all : ∀ n ∈ ps.map (·.rn), legalRn n := List.forall_mem_map.mpr rns
    rw [← hn] at all
    exact List.forall_mem_map.mp all

/-- One entry of the pending list changes, its number kept, with the transfers and the block map. -/
theorem ReceiptsKept.setEntry {e : Fixed} {ps : List PendingEntry} {map map' : List Bool} (h : ReceiptsKept e ps map)
    {p : PendingEntry} (hp : p ∈ ps) {f : PendingEntry → PendingEntry} (hf : ∀ q, q.rn ≠ p.rn → f q = q)
    (hrn : (f p).rn = p.rn) (hu : (f p).Unstaged) {ts : Four (Option Transfer)} (hs : slotsTaken ts ≤ slotsTaken e.transfers)
    (hm : ∀ rest, MapOf map (p.blocks.getD [] ++ (rest ++ transferBlocks e.transfers)) →
      MapOf map' ((f p).blocks.getD [] ++ (rest ++ transferBlocks ts))) :
    ReceiptsKept { e with transfers := ts } (ps.map f) map' := by
  obtain ⟨pending, void, bound, below, map, unstaged⟩ := h
  obtain ⟨pre, post, rfl, hmap⟩ := pending.map_entry hp hf
  rw [hmap]
  have hn : (pre ++ f p :: post).map (·.rn) = (pre ++ p :: post).map (·.rn) := by simp [hrn]
  have hlen : (pre ++ f p :: post).length = (pre ++ p :: post).length := by simp
  refine ⟨pending.of_rns hn, fun hv => absurd (void hv) (by simp), ?_, fun k hk => ?_, ?_, ?_⟩
  · rw [hlen]
    exact (Nat.add_le_add_left hs _).trans bound
  · have all : ∀ n ∈ (pre ++ p :: post).map (·.rn), n < k.nextRn := List.forall_mem_map.mpr (below k hk)
    rw [← hn] at all
    exact List.forall_mem_map.mp all
  · exact (hm _ (map.perm (entryBlocks_split pre p post _))).perm (entryBlocks_split pre (f p) post _).symm
  · intro q hq
    rcases List.mem_append.mp hq with hq | hq
    · exact unstaged q (List.mem_append_left _ hq)
    · rcases List.mem_cons.mp hq with rfl | hq
      · exact hu
      · exact unstaged q (List.mem_append_right _ (List.mem_cons_of_mem _ hq))

/-! ### The operations of a transfer (R52 to R55, R73, R74) -/

section
variable {s t : State}

/-- The transfers and the block map change. -/
theorem Kept.setTransfers (h : Kept s t) {ts : Four (Option Transfer)} {map : List Bool}
    (hf : Fixed.Ranged { t.toFixed with transfers := ts })
    (hr : ReceiptsKept { t.toFixed with transfers := ts } t.pendingList map) :
    Kept s { t with transfers := ts, blockMap := map } :=
  ⟨h.journal, h.words, hf, h.ranged.2.1, h.ranged.sides, h.ranged.books, hr⟩

/-- The transfers, the pending list and the block map change. -/
theorem Kept.setReceipts (h : Kept s t) {u : State} {ts : Four (Option Transfer)} {ps : List PendingEntry} {map : List Bool}
    {g : Engine} (hs : slotsTaken ts ≤ slotsTaken t.transfers) (hr : ReceiptsKept { t.toFixed with transfers := ts } ps map)
    (hu : u = { t with transfers := ts, pendingList := ps, blockMap := map, engine := g }) : Kept s u := by
  subst hu
  exact ⟨h.journal, h.words, h.ranged.1.withTransfers hs, h.ranged.2.1, h.ranged.sides, h.ranged.books, hr⟩

theorem slotsTaken_drop (ts : Four (Option Transfer)) (l : LinkId) : slotsTaken (ts.set l none) ≤ slotsTaken ts := by
  rw [slotsTaken_get ts l]
  exact Nat.le_add_left _ _

theorem Kept.dropTransfer (h : Kept s t) (l : LinkId) : Kept s (t.dropTransfer l) := by
  unfold State.dropTransfer
  split
  · next x hx =>
    have hs := slotsTaken_drop t.transfers l
    refine h.setReceipts (g := t.engine) hs (h.ranged.receipts.withTransfers hs fun hm => ?_) rfl
    have hx' : t.transfers.get l = some x := hx
    have hperm := transferBlocks_get t.transfers l
    rw [hx'] at hperm
    refine MapOf.free (hm.perm ?_)
    have := (hperm.append_left (entryBlocks t.pendingList)).trans (List.perm_append_comm_assoc _ _ _)
    simpa [heldBlocks] using this
  · exact h

/-- There is room for one more submission, and a counter to number it (R52). -/
def State.HasRoom (s : State) : Prop :=
  (∃ k, s.counter = some k ∧ k.nextRn + slotsTaken s.transfers < 4294967295) ∧ s.pendingValid = true ∧
    s.pendingList.length + slotsTaken s.transfers < 16

/-- A link without a transfer begins one: its slot is one more only where it is a submission's, for which there is room. -/
theorem slotsTaken_begin {l : LinkId} (free : t.transfers.get l = none) {x : Transfer}
    (room : ∀ d, x.kind = .submission d → t.HasRoom) :
    slotsTaken (t.transfers.set l (some x)) = slotsTaken t.transfers ∨
      slotsTaken (t.transfers.set l (some x)) = slotsTaken t.transfers + 1 ∧ t.HasRoom := by
  have hrest : t.transfers.set l none = t.transfers := by rw [← free, Four.set_get_self]
  rw [slotsTaken_set, hrest]
  cases hk : x.kind with
  | submission d => exact .inr ⟨by simp [slotsOf, hk, Nat.add_comm], room d hk⟩
  | resubmission rn => exact .inl (by simp [slotsOf, hk])

/-- The blocks that a transfer reserves are its own (R51, R52). -/
theorem MapOf.begin {l : LinkId} {map : List Bool} {owned : List Nat} {ts : Four (Option Transfer)}
    (h : MapOf map (owned ++ transferBlocks ts)) (free : ts.get l = none) {x : Transfer} {n : Nat}
    (hx : x.blocks = pickBlocks map n) : MapOf (Machine.reserve map x.blocks) (owned ++ transferBlocks (ts.set l (some x))) := by
  have hblocks : (transferBlocks (ts.set l (some x))).Perm (x.blocks ++ transferBlocks ts) := by
    have := transferBlocks_set ts l (some x)
    rwa [show ts.set l none = ts by rw [← free, Four.set_get_self]] at this
  obtain ⟨nodup, hfree⟩ := pickBlocks_free map n
  rw [← hx] at nodup hfree
  exact (h.reserve nodup hfree).perm ((List.perm_append_comm_assoc _ _ _).trans (hblocks.append_left owned).symm)

theorem Kept.beginTransfer (h : Kept s t) (r : Request) (kind : TransferKind) (size : Nat) (crc : Word)
    (free : t.transfers.get r.link = none) (room : ∀ d, kind = .submission d → t.HasRoom) :
    Kept s (t.beginTransfer r kind size crc) := by
  let x : Transfer :=
    { tag := r.tag, kind, size, crc, expected := sectorsOf size, nextSeq := 0, blocks := pickBlocks t.blockMap (blocksOf size),
      image := [] }
  have slots := slotsTaken_begin free (x := x) room
  obtain ⟨pending, void, bound, below, map, unstaged⟩ := h.ranged.receipts
  have hmap := map.begin free (x := x) (n := blocksOf size) rfl
  have numbers : ∀ k, t.counter = some k → k.nextRn + slotsTaken (t.transfers.set r.link (some x)) ≤ 4294967295 := by
    intro k hk
    have := h.ranged.1.numbers k hk
    rcases slots with hx | ⟨hx, ⟨k', hk', hlt⟩, -, -⟩
    · rwa [hx]
    · rw [hx]
      cases hk.symm.trans hk'
      exact hlt
  have noTransfer : t.counter = none ∨ t.pendingValid = false → slotsTaken (t.transfers.set r.link (some x)) = 0 := by
    intro hl
    rcases slots with hx | ⟨-, ⟨k', hk', -⟩, hv, -⟩
    · rw [hx]
      exact h.ranged.1.noTransfer hl
    · rcases hl with hl | hl
      · exact nomatch hk'.symm.trans hl
      · exact nomatch hv.symm.trans hl
  have entries : t.pendingList.length + slotsTaken (t.transfers.set r.link (some x)) ≤ 16 := by
    rcases slots with hx | ⟨hx, -, -, hlt⟩
    · rwa [hx]
    · rw [hx]
      exact hlt
  have begun := h.setTransfers (ts := t.transfers.set r.link (some x))
    { h.ranged.1 with numbers := numbers, noTransfer := noTransfer } ⟨pending, void, entries, below, hmap, unstaged⟩
  exact begun.accept r _

theorem submitRefusal_none {l : LinkId} {d : Descriptor} (h : submitRefusal t l d = none) :
    t.transfers.get l = none ∧ t.HasRoom := by
  unfold submitRefusal at h
  split at h
  · cases h
  · next k hk =>
    split at h
    · cases h
    · next hv =>
      split at h
      · cases h
      · split at h
        · cases h
        · next hb =>
          split at h
          · cases h
          · next room =>
            simp only [not_or, not_le, State.submissions_eq, Config.maxPending, Config.maxRn] at room
            obtain ⟨hlen, -, hrn⟩ := room
            exact ⟨by simpa [State.transfer] using hb, ⟨k, hk, by omega⟩, by simpa using hv, hlen⟩

theorem Kept.takeSubmit (h : Kept s t) (r : Request) : Grown s (takeSubmit r t) := by
  unfold Machine.takeSubmit
  split
  · exact (h.refuse r _).grown
  · split
    · exact (h.refuse r _).grown
    · next hr =>
      obtain ⟨free, room⟩ := submitRefusal_none hr
      exact (h.beginTransfer r _ _ _ free (fun _ _ => room)).grown

theorem resubmitRefusal_none {l : LinkId} {f : ResubmitFields} (h : resubmitRefusal t l f = none) :
    t.transfers.get l = none := by
  unfold resubmitRefusal at h
  split at h
  · cases h
  · next hb => simpa [State.transfer] using hb

theorem Kept.takeResubmit (h : Kept s t) (r : Request) : Grown s (takeResubmit r t) := by
  unfold Machine.takeResubmit
  split
  · exact (h.refuse r _).grown
  · next f _ =>
    split
    · exact (h.refuse r _).grown
    · next hr => exact (h.beginTransfer r (.resubmission f.rn) _ _ (resubmitRefusal_none hr) nofun).grown

theorem Kept.takeAbandon (h : Kept s t) (r : Request) : Grown s (takeAbandon r t) :=
  .ite ((h.dropTransfer _).answer r _).grown (h.refuse r _).grown

/-- A frame of a transfer is stored: the transfer keeps its kind and its blocks (R53). -/
theorem Kept.storeFrame (h : Kept s t) {l : LinkId} {x y : Transfer} (hx : t.transfers.get l = some x) (hk : y.kind = x.kind)
    (hb : y.blocks = x.blocks) : Kept s (t.setTransfer l (some y)) := by
  have hslots : slotsTaken (t.transfers.set l (some y)) = slotsTaken t.transfers := by
    rw [slotsTaken_set, slotsTaken_get t.transfers l, hx]
    simp [slotsOf, hk]
  have hblocks : (transferBlocks t.transfers).Perm (transferBlocks (t.transfers.set l (some y))) := by
    have before := transferBlocks_get t.transfers l
    have after := transferBlocks_set t.transfers l (some y)
    rw [hx] at before
    have hheld : heldBlocks (some y) = heldBlocks (some x) := hb
    rw [hheld] at after
    exact before.trans after.symm
  refine h.setReceipts (g := t.engine) hslots.le (h.ranged.receipts.withTransfers hslots.le fun hm => ?_) rfl
  exact hm.perm (hblocks.append_left _)

/-- A submission whose image has arrived is received: it holds a pending slot, so a number is left for it (R52, R55). -/
theorem Kept.receive (h : Kept s t) (r : Request) {x : Transfer} {d : Descriptor} {k : Counter}
    (hx : t.transfers.get r.link = some x) (hk : x.kind = .submission d) (hc : t.counter = some k) :
    Kept s (t.receive r x d k) := by
  let ts := t.transfers.set r.link none
  let p : PendingEntry :=
    { rn := k.nextRn, link := r.link, desc := d, day := k.day, time := t.clock, state := .staged, blocks := some x.blocks,
      image := x.image }
  have hslots : slotsTaken t.transfers = 1 + slotsTaken ts := by
    rw [slotsTaken_get t.transfers r.link, hx]
    simp [slotsOf, hk, ts]
  have hblocks : (transferBlocks t.transfers).Perm (x.blocks ++ transferBlocks ts) := by
    have := transferBlocks_get t.transfers r.link
    rwa [hx] at this
  have he := h.ranged.1
  obtain ⟨pending, void, bound, below, map, unstaged⟩ := h.ranged.receipts
  obtain ⟨len, asc, rns⟩ := pending
  have numbers : k.nextRn + slotsTaken t.transfers ≤ 4294967295 := he.numbers k hc
  obtain ⟨hlow, -, hday⟩ : k.legal := he.counter k hc
  have fixed : Fixed.Ranged { t.toFixed with transfers := ts, counter := some { k with nextRn := k.nextRn + 1 } } := by
    refine { he with counter := ?_, numbers := ?_, noTransfer := fun hl => ?_ }
    · rintro k' ⟨⟩
      exact ⟨Nat.le_add_left 1 _, by change k.nextRn + 1 ≤ _; omega, hday⟩
    · rintro k' ⟨⟩
      change k.nextRn + 1 + slotsTaken ts ≤ _
      omega
    · have := he.noTransfer (.inr (hl.resolve_left nofun))
      change slotsTaken ts = 0
      omega
  have receipts : ReceiptsKept { t.toFixed with transfers := ts, counter := some { k with nextRn := k.nextRn + 1 } }
      (t.pendingList ++ [p]) t.blockMap := by
    refine ⟨⟨?_, ?_, ?_⟩, fun hv => ?_, ?_, ?_, ?_, ?_⟩
    · rw [List.length_append, List.length_singleton]
      omega
    · rw [List.pairwise_append]
      exact ⟨asc, List.pairwise_singleton _ _, fun q hq p' hp' => by
        rw [List.mem_singleton.mp hp']
        exact below k hc q hq⟩
    · intro q hq
      rcases List.mem_append.mp hq with hq | hq
      · exact rns q hq
      · rw [List.mem_singleton.mp hq]
        exact ⟨hlow, by change k.nextRn ≤ _; omega⟩
    · have := he.noTransfer (.inr hv)
      omega
    · rw [List.length_append, List.length_singleton]
      change _ + slotsTaken ts ≤ 16
      omega
    · rintro k' ⟨⟩ q hq
      change q.rn < k.nextRn + 1
      rcases List.mem_append.mp hq with hq | hq
      · exact (below k hc q hq).trans (Nat.lt_succ_self _)
      · rw [List.mem_singleton.mp hq]
        exact Nat.lt_succ_self _
    · have owned : (entryBlocks (t.pendingList ++ [p]) ++ transferBlocks ts).Perm
          (x.blocks ++ (entryBlocks t.pendingList ++ transferBlocks ts)) := by
        have := entryBlocks_split t.pendingList p [] (transferBlocks ts)
        simpa [p] using this
      refine map.perm (((hblocks.append_left _).trans (List.perm_append_comm_assoc _ _ _)).trans owned.symm)
    · intro q hq
      rcases List.mem_append.mp hq with hq | hq
      · exact unstaged q hq
      · rw [List.mem_singleton.mp hq]
        rintro (hst | hst) <;> cases hst
  have received : Kept s { t with
      transfers := ts, counter := some { k with nextRn := k.nextRn + 1 }, pendingList := t.pendingList ++ [p]
      engine := t.engine.reached } :=
    ⟨h.journal, h.words, fixed, h.ranged.2.1, h.ranged.sides, h.ranged.books, receipts⟩
  exact received.answer r _

theorem restored_rn (l : LinkId) (x : Transfer) (rn : Nat) (p : PendingEntry) : (restored l x rn p).rn = p.rn := by
  unfold restored
  split <;> rfl

/-- The entry that waits takes the image of its resubmission (R74). -/
theorem Kept.restoreEntry (h : Kept s t) (r : Request) {x : Transfer} {rn : Nat} (hx : t.transfers.get r.link = some x) :
    Kept s (t.restoreEntry r x rn) := by
  unfold State.restoreEntry
  split
  · next p hp =>
    have hmem := List.mem_of_find?_eq_some hp
    have hfound := List.find?_some hp
    simp only [Bool.and_eq_true, beq_iff_eq] at hfound
    obtain ⟨rfl, hst⟩ := hfound
    have hself : restored r.link x p.rn p =
        { p with state := .staged, blocks := some x.blocks, image := x.image, link := r.link } := by simp [restored]
    have hnone : p.blocks = none := h.ranged.receipts.2.2.2.2.2 p hmem (.inl hst)
    have hs := slotsTaken_drop t.transfers r.link
    have receipts := h.ranged.receipts.setEntry (map' := t.blockMap) hmem (f := restored r.link x p.rn)
      (fun q hq => by simp [restored, hq]) (restored_rn _ _ _ _) (by rw [hself]; rintro (h | h) <;> cases h) hs
      (fun rest hm => by
        have held := transferBlocks_get t.transfers r.link
        rw [hx] at held
        rw [hnone] at hm
        rw [hself]
        exact hm.perm ((held.append_left rest).trans (List.perm_append_comm_assoc _ _ _)))
    have entered := h.setReceipts (g := t.engine.reached) hs receipts rfl
    exact entered.answer r _
  · exact (h.dropTransfer _).refuse r _

theorem Kept.endTransfer (h : Kept s t) (r : Request) {x : Transfer} (hx : t.transfers.get r.link = some x) :
    Grown s (t.endTransfer r x) := by
  unfold State.endTransfer
  refine .ite ((h.dropTransfer _).refuse r _).grown ?_
  split
  · exact (h.restoreEntry r hx).settled
  · next d hk =>
    split
    · next k _ hc => exact (h.receive r hx hk hc).settled
    · exact ((h.dropTransfer _).refuse r _).grown
    · exact ((h.dropTransfer _).refuse r _).grown

theorem Kept.takeData (h : Kept s t) (r : Request) : Grown s (takeData r t) := by
  unfold Machine.takeData
  split
  · exact (h.refuse r _).grown
  · next x hx =>
    extract_lets seq bytes y
    have stored : Kept s (t.setTransfer r.link (some y)) := h.storeFrame hx rfl rfl
    refine .ite (h.refuse r _).grown (.ite ((h.dropTransfer _).refuse r _).grown (.ite ?_ (stored.accept r _).grown))
    exact stored.endTransfer r (Four.get_set_same _ _ _)

theorem Kept.takeSilent (h : Kept s t) (l : LinkId) : Grown s (takeSilent l t) := by
  have dropped := (h.setResetDue (t.resetDue || (t.links.get l).discardsRestart)).dropTransfer l
  exact .ite (dropped.act _ (dropped.ranged.silenceLink l)) h.grown

/-! ### WITHDRAW and RESTORE COUNTER (R71, R163) -/

theorem withdrawn_rn (rn : Nat) (p : PendingEntry) : (withdrawn rn p).rn = p.rn := by
  unfold withdrawn
  split <;> rfl

theorem Ranged.withdrawRequest {e : Fixed} {c : Core} (h : Ranged e c) (r : Request) {p : PendingEntry}
    (hp : p ∈ c.pendingList) : Ranged e (withdrawRequest r p e c) := by
  have hself : withdrawn p.rn p = { p with state := .withdrawn, blocks := none, image := [] } := by simp [withdrawn]
  have receipts := h.receipts.setEntry (map' := freeBlocks c.blockMap (p.blocks.getD [])) hp (f := withdrawn p.rn)
    (fun q hq => by simp [withdrawn, hq]) (withdrawn_rn _ _) (by rw [hself]; exact fun _ => rfl) (Nat.le_refl _)
    (fun rest hm => by rw [hself]; exact hm.free)
  exact ((h.withReceipts receipts).onEngine Engine.reached).answer r .empty

theorem Kept.takeWithdraw (h : Kept s t) (r : Request) : Grown s (takeWithdraw r t) := by
  unfold Machine.takeWithdraw
  split
  · exact (h.refuse r _).grown
  · next p hp =>
    have taken := h.act _ (h.ranged.withdrawRequest r (List.mem_of_find?_eq_some hp))
    split
    · exact taken
    · exact .ite (h.refuse r _).grown taken
    · exact (h.refuse r _).grown

/-- A number above those of the pending entries restores COUNTER and PENDING, one of which was lost (R145, R163). -/
theorem Kept.restoreCounter (h : Kept s t) {n d : Nat} (hk : Counter.legal ⟨n, d⟩)
    (hlost : ¬(t.counter.isSome && t.pendingValid) = true) (hn : restorable t n = true) : Kept s (t.restoreCounter n d) := by
  have he := h.ranged.1
  obtain ⟨pending, void, bound, -, map, unstaged⟩ := h.ranged.receipts
  have hslots : slotsTaken t.transfers = 0 := he.noTransfer (by
    rcases hc : t.counter with _ | k
    · exact .inl rfl
    · exact .inr (by simpa [hc] using hlost))
  have above : ∀ p ∈ t.pendingList, p.rn < n := by
    cases hv : t.pendingValid with
    | false => simp [void hv]
    | true =>
      have all := (Bool.and_eq_true_iff.mp hn).2
      simpa [hv] using all
  let e' : Fixed := { t.toFixed with counter := some ⟨n, d⟩, pendingValid := true, tallyDay := d }
  have fixed : e'.Ranged :=
    { he with
      tallyDay := hk.2.2
      counter := by rintro k ⟨⟩; exact hk
      numbers := by
        rintro k ⟨⟩
        change n + slotsTaken t.transfers ≤ _
        rw [hslots]
        exact hk.2.1
      noTransfer := fun _ => hslots }
  have receipts : ReceiptsKept e' t.pendingList t.blockMap :=
    ⟨pending, nofun, bound, by rintro k ⟨⟩; exact above, map, unstaged⟩
  have counted : Ranged e' { t.toCore with courtesy := t.courtesy.settle d } :=
    ⟨fixed, h.ranged.2.1, h.ranged.sides, ⟨h.ranged.books.1, h.ranged.books.2.settle d⟩, receipts⟩
  exact ⟨h.journal, h.words, ((counted.clearAlarm _).clearAlarm _).onEngine _⟩

theorem Kept.takeRestoreCounter (h : Kept s t) (r : Request) : Grown s (takeRestoreCounter r t) := by
  unfold Machine.takeRestoreCounter
  split
  · exact (h.refuse r _).grown
  · next n d hp =>
    split
    · exact (h.refuse r _).grown
    · next hlost =>
      refine .ite (h.refuse r _).grown ?_
      split
      · next hn =>
        exact (h.restoreCounter (parseRestore_legal hp) hlost hn).settled.answer r .empty
      · exact (h.refuse r _).grown

end

end Sys2Proof.Machine
end

section
/-! SUPPORT. What a reset makes of the retained store (R192 to R197): the completions, the losses and the start values keep the
values legal, the check words come to match, and the entries left lie below next_rn. -/

namespace Sys2Proof.Machine

/-! ### The update of one section -/

/-- Values put into a section that has them change nothing. -/
theorem StoreValues.put_same {a b : StoreValues} {sec : Section} (h : a.contents sec = b.contents sec) : a.put b sec = a := by
  cases sec with
  | counter =>
    have h' := SectionContents.counter.inj h
    simp [StoreValues.put, ← h']
  | volumes =>
    have h' := SectionContents.volumes.inj h
    simp [StoreValues.put, ← h']
  | pending =>
    obtain ⟨h1, h2⟩ := SectionContents.pending.inj h
    simp [StoreValues.put, ← h1, ← h2]
  | dirbuf =>
    have h' := SectionContents.dirbuf.inj h
    simp [StoreValues.put, ← h']
  | tallies =>
    obtain ⟨h1, h2, h3, h4, h5⟩ := SectionContents.tallies.inj h
    simp [StoreValues.put, ← h1, ← h2, ← h3, ← h4, ← h5]
  | schedule =>
    have h' := SectionContents.schedule.inj h
    simp [StoreValues.put, ← h']
  | courtesy =>
    have h' := SectionContents.courtesy.inj h
    simp [StoreValues.put, ← h']
  | settings =>
    have h' := SectionContents.settings.inj h
    simp [StoreValues.put, ← h']
  | start =>
    have h' := SectionContents.start.inj h
    simp [StoreValues.put, ← h']

/-- The values of a store after an update of a section. -/
theorem StoreRun.update_values (x : StoreRun) (sec : Section) (f : StoreValues → StoreValues) :
    (x.update sec f).store.toStoreValues = x.store.toStoreValues.put (f x.store.toStoreValues) sec := by
  unfold StoreRun.update
  split
  · next agrees => exact (StoreValues.put_same (eq_of_beq agrees)).symm
  · rfl

/-! ### Check words that match but for some sections (R190) -/

/-- Every section but the stale ones is valid where it holds values. -/
def Retained.SoundBut (r : Retained) (stale : Section → Prop) : Prop := ∀ sec, ¬stale sec → r.valid sec = r.holds sec

section
variable {stale : Section → Prop}

theorem Retained.SoundBut.put {r : Retained} (h : r.SoundBut stale) (b : StoreValues) (sec : Section) :
    (r.put b sec).SoundBut (fun y => stale y ∧ y ≠ sec) := by
  intro y hy
  by_cases hs : y = sec
  · subst hs
    rw [Retained.put_valid]
    exact (StoreValues.put_holds r.toStoreValues b y).symm
  · rw [Retained.put_valid_other _ _ _ _ hs, h y fun hst => hy ⟨hst, hs⟩]
    exact (StoreValues.put_holds_other r.toStoreValues b sec y hs).symm

theorem Retained.SoundBut.mono {r : Retained} {more : Section → Prop} (h : r.SoundBut stale) (hm : ∀ y, stale y → more y) :
    r.SoundBut more := fun y hy => h y fun hs => hy (hm y hs)

theorem Retained.SoundBut.update {x : StoreRun} (h : x.store.SoundBut stale) (sec : Section)
    (f : StoreValues → StoreValues) : (x.update sec f).store.SoundBut stale := by
  unfold StoreRun.update
  split
  · exact h
  · exact (h.put _ sec).mono fun _ hy => hy.1

theorem Retained.SoundBut.complete {x : StoreRun} (h : x.store.SoundBut stale) (k : Completion) (sec : Section)
    (f : Option StoreValues) : (x.complete k sec f).store.SoundBut stale := by
  unfold StoreRun.complete
  split
  · exact h.update sec _
  · exact h

end

/-! ### Numbers below next_rn (R57, R192) -/

/-- The entries of PENDING lie below next_rn, where COUNTER holds it. -/
def StoreValues.Below (r : StoreValues) : Prop := ∀ k, r.counter = some k → ∀ p ∈ r.pendingList, p.rn < k.nextRn

/-- The values of a store in the course of a start, and those that its updates were made of. -/
def StoreRun.Fit (x : StoreRun) : Prop :=
  x.store.toStoreValues.legal ∧ x.store.toStoreValues.Below ∧ ∀ p ∈ x.journal, p.2.toStoreValues.legal

theorem StoreRun.rewrite_journal {x : StoreRun} (hx : x.store.toStoreValues.legal)
    (hj : ∀ p ∈ x.journal, p.2.toStoreValues.legal) (sec : Section) (f : StoreValues → StoreValues) :
    ∀ p ∈ (x.rewrite sec f).journal, p.2.toStoreValues.legal := by
  intro p hp
  rcases List.mem_append.mp hp with hp | hp
  · exact hj p hp
  · rw [List.mem_singleton.mp hp]
    exact hx

theorem StoreRun.update_journal {x : StoreRun} (hx : x.store.toStoreValues.legal)
    (hj : ∀ p ∈ x.journal, p.2.toStoreValues.legal) (sec : Section) (f : StoreValues → StoreValues) :
    ∀ p ∈ (x.update sec f).journal, p.2.toStoreValues.legal := by
  unfold StoreRun.update
  split
  · exact hj
  · exact rewrite_journal hx hj sec f

section
variable {x : StoreRun} {sec : Section} {f : StoreValues → StoreValues}

theorem StoreRun.Fit.rewrite (h : x.Fit) (hl : (f x.store.toStoreValues).legal)
    (hb : (x.store.toStoreValues.put (f x.store.toStoreValues) sec).Below) : (x.rewrite sec f).Fit :=
  ⟨StoreValues.put_legal _ _ _ h.1 hl, hb, rewrite_journal h.1 h.2.2 sec f⟩

theorem StoreRun.Fit.update (h : x.Fit) (hl : (f x.store.toStoreValues).legal)
    (hb : (x.store.toStoreValues.put (f x.store.toStoreValues) sec).Below) : (x.update sec f).Fit := by
  refine ⟨?_, ?_, update_journal h.1 h.2.2 sec f⟩ <;> rw [update_values]
  · exact StoreValues.put_legal _ _ _ h.1 hl
  · exact hb

/-- A completion of a store keeps it fit where the store it gives is legal and below next_rn. -/
theorem StoreRun.Fit.complete (h : x.Fit) {k : Completion} {g : Option StoreValues}
    (hg : ∀ r, g = some r → r.legal ∧ (x.store.toStoreValues.put r sec).Below) : (x.complete k sec g).Fit := by
  unfold StoreRun.complete
  split
  · next r =>
    obtain ⟨hl, hb⟩ := hg r rfl
    exact StoreRun.Fit.update (f := fun _ => r) h hl hb
  · exact h

end

/-! ### The OPEN side of a store -/

theorem openSideOf_some {vs : Vector (Option Volume) 64} {q : Side × SideRecord} (h : openSideOf vs = some q) :
    ∃ x, vs[q.1.slot] = some x ∧ q.2 = x.side q.1.face ∧ q.2.state = .opened := by
  obtain ⟨v, -, hv⟩ := List.exists_of_findSome?_eq_some h
  split at hv
  · next x hx =>
    split at hv
    · next ho =>
      cases hv
      exact ⟨x, hx, rfl, ho⟩
    · split at hv
      · next ho =>
        cases hv
        exact ⟨x, hx, rfl, ho⟩
      · cases hv
  · cases hv

/-- The OPEN side's record replaced by a legal one keeps the table legal. -/
theorem legalTable.putSide {vs : Vector (Option Volume) 64} (h : legalTable vs) {q : Side × SideRecord}
    (hq : openSideOf vs = some q) {r : SideRecord} (hr : q.2.legal → r.legal) : legalTable (putSide vs q.1 r) := by
  obtain ⟨x, hx, hrec, ho⟩ := openSideOf_some hq
  have kept : SidesKept vs none none := ⟨h, fun hs => absurd rfl hs, facesLegal_none⟩
  unfold Machine.putSide
  rw [hx]
  exact (kept.setSide hx q.1.face (hr (hrec ▸ h.1 _ x _ hx)) fun _ => hrec ▸ ho).1

/-! ### The completions (R192) -/

section
variable {r r' : StoreValues}

/-- Values with one section's changed are legal where that section's are. -/
theorem StoreValues.legal.withCounter (h : r.legal) {k : Option Counter} (hk : ∀ x, k = some x → x.legal) :
    StoreValues.legal { r with counter := k } := by
  obtain ⟨⟨h1, h2, -, h4⟩, rest⟩ := h
  exact ⟨⟨h1, h2, hk, h4⟩, rest⟩

theorem StoreValues.legal.withVolumes (h : r.legal) {vs : Vector (Option Volume) 64} (hv : legalTable vs) :
    StoreValues.legal { r with volumes := vs } := by
  obtain ⟨h1, h2, h3, -, h5⟩ := h
  exact ⟨h1, h2, h3, hv, h5⟩

theorem StoreValues.legal.withPending (h : r.legal) {ps : List PendingEntry} {b : Bool} (hp : legalPending ps)
    (hb : b = false → ps = []) : StoreValues.legal { r with pendingList := ps, pendingValid := b } := by
  obtain ⟨h1, h2, h3, h4, -⟩ := h
  exact ⟨h1, h2, h3, h4, hp, hb⟩

theorem StoreValues.legal.withTable (h : r.legal) {l : CourtesyList} (hl : l.legal) :
    StoreValues.legal { r with courtesy := l } := by
  obtain ⟨h1, h2, -, h4⟩ := h
  exact ⟨h1, h2, hl, h4⟩

theorem StoreValues.legal.counter (h : r.legal) : ∀ k, r.counter = some k → k.legal := h.1.2.2.1

theorem StoreValues.legal.pending (h : r.legal) : legalPending r.pendingList := h.2.2.2.2.1

theorem StoreValues.legal.void (h : r.legal) : r.pendingValid = false → r.pendingList = [] := h.2.2.2.2.2

theorem StoreValues.legal.table (h : r.legal) : legalTable r.volumes := h.2.2.2.1

theorem StoreValues.legal.mark (h : r.legal) : legalDay r.tallyDay := h.1.2.2.2

/-- A completion made gives the store that its finding asks for. -/
theorem ifValid_some {lost : List Section} {x y : Section} {g : Option StoreValues} (h : ifValid lost x y g = some r) :
    g = some r := by
  unfold ifValid at h
  split at h
  · cases h
  · exact h

/-- The last entry of an ascending list has the highest number. -/
theorem legalPending.le_last {ps : List PendingEntry} (h : legalPending ps) {p : PendingEntry} (hp : ps.getLast? = some p) :
    ∀ q ∈ ps, q.rn ≤ p.rn := by
  obtain ⟨pre, rfl⟩ := List.getLast?_eq_some_iff.mp hp
  intro q hq
  rcases List.mem_append.mp hq with hq | hq
  · exact ((List.pairwise_append.mp h.2.1).2.2 q hq p (List.mem_singleton_self p)).le
  · rw [List.mem_singleton.mp hq]

/-- A receipt cut between PENDING and COUNTER is completed: the entries lie below next_rn (R192). -/
theorem completeReceipt_some (h : r.legal) (hr : completeReceipt r = some r') :
    r'.legal ∧ (r.put r' .counter).Below := by
  unfold completeReceipt at hr
  split at hr
  · next k p hk hp =>
    split at hr
    · cases hr
      have hrn := h.pending.2.2 p (List.mem_of_getLast? hp)
      refine ⟨h.withCounter ?_, ?_⟩
      · rintro k' ⟨⟩
        exact ⟨Nat.le_add_left 1 _, Nat.succ_le_succ hrn.2, (h.counter k hk).2.2⟩
      · rintro k' ⟨⟩ q hq
        exact Nat.lt_succ_of_le (h.pending.le_last hp q hq)
    · cases hr
  · cases hr

/-- Where a receipt needs no completion, the entries lie below next_rn. -/
theorem completeReceipt_none (h : r.legal) (hr : completeReceipt r = none) : r.Below := by
  intro k hk q hq
  unfold completeReceipt at hr
  rw [hk] at hr
  cases hl : r.pendingList.getLast? with
  | none => simp [List.getLast?_eq_none_iff.mp hl] at hq
  | some p =>
    simp only [hl] at hr
    split at hr
    · cases hr
    · next hlt => exact (h.pending.le_last hl q hq).trans_lt (Nat.lt_of_not_le hlt)

theorem completeDirbuf_some (h : r.legal) (hb : r.Below) (hr : completeDirbuf r = some r') :
    r'.legal ∧ (r.put r' .volumes).Below := by
  unfold completeDirbuf at hr
  split at hr
  · next q en hq _ =>
    split at hr
    · cases hr
      obtain ⟨x, hx, hrec, ho⟩ := openSideOf_some hq
      exact ⟨h.withVolumes (h.table.putSide hq fun hl => hl.stays ho rfl rfl rfl), hb⟩
    · cases hr
  · cases hr

theorem completePending_some (h : r.legal) (hb : r.Below) (hr : completePending r = some r') :
    r'.legal ∧ (r.put r' .pending).Below := by
  unfold completePending at hr
  split at hr
  · next q p ps _ hps =>
    split at hr
    · split at hr
      · cases hr
        obtain ⟨len, asc, rns⟩ := h.pending
        rw [hps] at len asc rns
        refine ⟨h.withPending ⟨(Nat.le_succ _).trans len, (List.pairwise_cons.mp asc).2, fun p hp =>
          rns p (List.mem_cons_of_mem _ hp)⟩ fun hv => ?_, fun k hk p hp => hb k hk p ?_⟩
        · have := h.void hv
          rw [hps] at this
          cases this
        · rw [hps]
          exact List.mem_cons_of_mem _ hp
      · cases hr
    · cases hr
  · cases hr

theorem completeFlush_some (h : r.legal) (hb : r.Below) (hr : completeFlush r = some r') :
    r'.legal ∧ (r.put r' .dirbuf).Below := by
  unfold completeFlush at hr
  split at hr
  · split at hr
    · cases hr
      exact ⟨h, hb⟩
    · cases hr
  · cases hr

theorem completeClose_some (h : r.legal) (hb : r.Below) (hr : completeClose r = some r') :
    r'.legal ∧ (r.put r' .counter).Below := by
  unfold completeClose at hr
  split at hr
  · next k hk =>
    split at hr
    · cases hr
      obtain ⟨h1, h2, -⟩ := h.counter k hk
      refine ⟨h.withCounter ?_, ?_⟩
      · rintro k' ⟨⟩
        exact ⟨h1, h2, h.mark⟩
      · rintro k' ⟨⟩
        exact hb k hk
    · cases hr
  · cases hr

end

/-- What the check of a start judges: legal values, no number of COUNTER nor entry of PENDING where it is lost, and the words of the
sections that hold values matching, but for the lost ones that are to be rewritten (R190, R193). -/
structure Retained.Judged (r : Retained) (lost : List Section) : Prop where
  legal : r.toStoreValues.legal
  counter : lost.contains .counter = true → r.counter = none
  pending : lost.contains .pending = true → r.pendingList = []
  sound : r.SoundBut (fun sec => sec ∈ lost ∧ staysLost sec = false)

/-- The first completion of a start leaves the store fit, the entries below next_rn. -/
theorem receipt_fit {r : Retained} {lost : List Section} (h : r.Judged lost) :
    (StoreRun.complete { store := r, completions := [], journal := [] } .receipt .counter
      (ifValid lost .pending .counter (completeReceipt r.toStoreValues))).Fit := by
  have empty : ∀ p ∈ ([] : List (Section × Retained)), p.2.toStoreValues.legal := fun _ hp => nomatch hp
  cases hc : ifValid lost .pending .counter (completeReceipt r.toStoreValues) with
  | none =>
    refine ⟨h.legal, ?_, empty⟩
    change r.Below
    unfold ifValid at hc
    split at hc
    · next hl =>
      intro k hk p hp
      rcases Bool.or_eq_true_iff.mp hl with hl | hl
      · rw [h.pending hl] at hp
        cases hp
      · rw [h.counter hl] at hk
        cases hk
    · exact completeReceipt_none h.legal hc
  | some r' =>
    obtain ⟨hl, hb⟩ := completeReceipt_some h.legal (ifValid_some hc)
    have values := StoreRun.update_values { store := r, completions := [], journal := [] } .counter (fun _ => r')
    refine ⟨?_, ?_, StoreRun.update_journal h.legal empty _ _⟩ <;> simp only [StoreRun.complete, values]
    · exact StoreValues.put_legal _ _ _ h.legal hl
    · exact hb

/-- The completions of a start leave the store fit. -/
theorem completions_fit {r : Retained} {lost : List Section} (h : r.Judged lost) :
    (completions lost { store := r, completions := [], journal := [] }).Fit := by
  unfold completions
  extract_lets x1 x2 x3 x4
  have hx1 : x1.Fit := receipt_fit h
  have hx2 : x2.Fit := hx1.complete fun r hr => completeDirbuf_some hx1.1 hx1.2.1 (ifValid_some hr)
  have hx3 : x3.Fit := hx2.complete fun r hr => completePending_some hx2.1 hx2.2.1 (ifValid_some hr)
  have hx4 : x4.Fit := hx3.complete fun r hr => completeFlush_some hx3.1 hx3.2.1 (ifValid_some hr)
  exact hx4.complete fun r hr => completeClose_some hx4.1 hx4.2.1 (ifValid_some hr)

end Sys2Proof.Machine
end

section
/-! SUPPORT. What the start of the part keeps of the ranges (R193 to R197): the store it finds, the losses, the block start values
and the state that the reset leads to. -/

namespace Sys2Proof.Machine

/-! ### The store found and its losses (R190, R193, R194) -/

theorem Retained.foldl_spoil_values (r : Retained) (secs : List Section) :
    (secs.foldl Retained.spoil r).toStoreValues = r.toStoreValues := by
  induction secs generalizing r with
  | nil => rfl
  | cons sec secs ih => exact ih (r.spoil sec)

/-- The store that a reset finds holds legal values. -/
theorem State.legal.found {s : State} (h : s.legal) (cause : StartCause) (fate : StoreFate) :
    (s.storeFound cause fate).toStoreValues.legal := by
  obtain ⟨ranged, -, record⟩ := s.legal_iff.mp h
  have last : s.retained.toStoreValues.legal := ranged.values
  unfold State.storeFound
  extract_lets r
  rw [Retained.foldl_spoil_values]
  unfold r
  split
  · exact last
  · exact last
  · split
    · next sec r' hr =>
      have hlegal := record _ (List.mem_of_getElem? hr)
      split
      · exact hlegal
      · exact hlegal
    · exact last

theorem Schedule.unset_legal : Schedule.unset.legal := ⟨rfl, rfl, rfl, Nat.zero_le _, fun _ => rfl⟩

theorem Settings.default_legal : Settings.default.legal := by
  refine ⟨fun l => ?_, .inr (.inl rfl), ?_⟩
  · rw [show Settings.default.silence.get l = 10 from Four.get_all 10 l]
    decide
  · decide

theorem legalTable_replicate : legalTable (Vector.replicate 64 (some lostVolume)) := by
  have blank (v : SlotId) (x : Volume) (f : Face) (hx : (Vector.replicate 64 (some lostVolume))[v] = some x) :
      x.side f = .blank := by
    rw [Fin.getElem_fin, Vector.getElem_replicate] at hx
    cases hx
    cases f <;> rfl
  refine ⟨fun v x f hx => blank v x f hx ▸ SideRecord.blank_legal, fun v w x y f g hx _ hf => ?_⟩
  rw [blank v x f hx] at hf
  cases hf

theorem legalTable.endOpenSide {vs : Vector (Option Volume) 64} (h : legalTable vs) : legalTable (endOpenSide vs) := by
  unfold Machine.endOpenSide
  split
  · next q hq => exact h.putSide hq fun _ => SideRecord.ended_legal _
  · exact h

/-- The values taken for a lost section are legal (R193). -/
theorem StoreValues.legal.lose {r : StoreValues} (h : r.legal) (sec : Section) : (r.lose sec).legal := by
  obtain ⟨⟨h1, h2, h3, h4⟩, h5, h6, h7, h8, h9⟩ := h
  cases sec with
  | counter => exact ⟨⟨h1, h2, nofun, h4⟩, h5, h6, h7, h8, h9⟩
  | volumes => exact ⟨⟨h1, h2, h3, h4⟩, h5, h6, legalTable_replicate, h8, h9⟩
  | pending => exact ⟨⟨h1, h2, h3, h4⟩, h5, h6, h7, ⟨Nat.zero_le _, .nil, nofun⟩, fun _ => rfl⟩
  | dirbuf => exact ⟨⟨h1, h2, h3, h4⟩, h5, h6, h7, h8, h9⟩
  | tallies =>
    have day : legalDay (r.lose .tallies).tallyDay := by
      simp only [StoreValues.lose]
      split
      · next k hk => exact (h3 k hk).2.2
      · exact ⟨Nat.le_refl _, by decide⟩
    have zero (st : Fin 16) : DaySnapshot.empty.stations[st].legal := StationTally.zero_legal st
    exact ⟨⟨h1, h2, h3, day⟩, fun st => ⟨StationTally.zero_legal st, zero st⟩, h6, h7, h8, h9⟩
  | schedule => exact ⟨⟨h1, Schedule.unset_legal, h3, h4⟩, h5, h6, h7, h8, h9⟩
  | courtesy => exact ⟨⟨h1, h2, h3, h4⟩, h5, CourtesyList.legal_empty, h7, h8, h9⟩
  | settings => exact ⟨⟨Settings.default_legal, h2, h3, h4⟩, h5, h6, h7, h8, h9⟩
  | start => exact ⟨⟨h1, h2, h3, h4⟩, h5, h6, h7, h8, h9⟩

/-- A section that stays lost holds nothing, and the rest of the store is as it was (R193). -/
theorem Retained.void_self (r : Retained) {sec : Section} (hs : staysLost sec = true) :
    (r.void sec).valid sec = false ∧ (r.void sec).holds sec = false := by
  refine ⟨Retained.spoil_lost _ sec, ?_⟩
  cases sec with
  | counter | pending => rfl
  | _ => cases hs

theorem Retained.void_other (r : Retained) {sec y : Section} (hs : staysLost sec = true) (hy : y ≠ sec) :
    (r.void sec).valid y = r.valid y ∧ (r.void sec).holds y = r.holds y := by
  have contents : (r.toStoreValues.lose sec).contents y = r.toStoreValues.contents y := by
    cases sec with
    | counter => exact StoreValues.put_contents_other r.toStoreValues (r.toStoreValues.lose .counter) _ y hy
    | pending => exact StoreValues.put_contents_other r.toStoreValues (r.toStoreValues.lose .pending) _ y hy
    | _ => cases hs
  have holds := StoreValues.holds_of_contents contents
  refine ⟨?_, holds⟩
  unfold Retained.void
  rw [Retained.spoil_valid_other _ _ _ hy]
  simp only [Retained.valid, holds, StoreValues.checkWord, contents]

theorem Retained.foldl_void (secs : List Section) (hs : ∀ sec ∈ secs, staysLost sec = true) (r : Retained)
    (h : r.toStoreValues.legal) :
    (secs.foldl Retained.void r).toStoreValues.legal ∧
      ∀ y, if y ∈ secs then (secs.foldl Retained.void r).valid y = false ∧ (secs.foldl Retained.void r).holds y = false
        else (secs.foldl Retained.void r).valid y = r.valid y ∧ (secs.foldl Retained.void r).holds y = r.holds y := by
  induction secs generalizing r with
  | nil => exact ⟨h, fun y => by simp⟩
  | cons sec secs ih =>
    obtain ⟨hsec, hrest⟩ := List.forall_mem_cons.mp hs
    obtain ⟨legal, rest⟩ := ih hrest (r.void sec) (h.lose sec)
    refine ⟨legal, fun y => ?_⟩
    have hy := rest y
    rw [List.foldl_cons]
    by_cases hm : y ∈ secs
    · rw [if_pos hm] at hy
      rw [if_pos (List.mem_cons_of_mem _ hm)]
      exact hy
    · rw [if_neg hm] at hy
      by_cases he : y = sec
      · subst he
        rw [if_pos (List.mem_cons_self ..), hy.1, hy.2]
        exact r.void_self hsec
      · rw [if_neg (by simp [hm, he]), hy.1, hy.2]
        exact r.void_other hsec he

/-- The check of a start judges the store found (R190, R193). -/
theorem judged_of_found {found : Retained} (h : found.toStoreValues.legal) :
    (found.judged (lostSections found)).Judged (lostSections found) := by
  have mem (sec : Section) : sec ∈ (lostSections found).filter staysLost ↔ sec ∈ lostSections found ∧ staysLost sec = true :=
    List.mem_filter
  obtain ⟨legal, rest⟩ := Retained.foldl_void ((lostSections found).filter staysLost) (fun sec hs => ((mem sec).mp hs).2) found h
  have void (sec : Section) (hl : (lostSections found).contains sec = true) (hs : staysLost sec = true) :
      (found.judged (lostSections found)).valid sec = false ∧ (found.judged (lostSections found)).holds sec = false := by
    have := rest sec
    rwa [if_pos ((mem sec).mpr ⟨List.contains_iff_mem.mp hl, hs⟩)] at this
  refine ⟨legal, fun hl => ?_, fun hl => legal.void (void .pending hl rfl).2, fun sec hsec => ?_⟩
  · simpa [StoreValues.holds] using (void .counter hl rfl).2
  · by_cases hl : sec ∈ lostSections found
    · have hs : staysLost sec = true := by
        cases hst : staysLost sec with
        | true => rfl
        | false => exact absurd ⟨hl, hst⟩ hsec
      obtain ⟨hv, hh⟩ := void sec (List.contains_iff_mem.mpr hl) hs
      exact hv.trans hh.symm
    · have hsame := rest sec
      rw [if_neg (fun hm => hl ((mem sec).mp hm).1)] at hsame
      have hvalid : found.valid sec = true := by
        cases hv : found.valid sec with
        | true => rfl
        | false => exact absurd (List.mem_filter.mpr ⟨by cases sec <;> decide, by simp [hv]⟩) hl
      have hholds : found.holds sec = true := (Bool.and_eq_true_iff.mp hvalid).1
      exact (hsame.1.trans (hvalid.trans hholds.symm)).trans hsame.2.symm

/-! ### The store at the end of a start (R197) -/

theorem completions_sound {x : StoreRun} {stale : Section → Prop} (h : x.store.SoundBut stale) (lost : List Section) :
    (completions lost x).store.SoundBut stale :=
  ((((h.complete _ _ _).complete _ _ _).complete _ _ _).complete _ _ _).complete _ _ _

/-- Sections rewritten one after the other, none of them COUNTER or PENDING. -/
theorem foldl_lose {x : StoreRun} (h : x.Fit) (secs : List Section) (hs : ∀ sec ∈ secs, staysLost sec = false) :
    (secs.foldl (fun x sec => x.rewrite sec (·.lose sec)) x).Fit := by
  induction secs generalizing x with
  | nil => exact h
  | cons sec secs ih =>
    obtain ⟨hsec, hrest⟩ := List.forall_mem_cons.mp hs
    refine ih (h.rewrite (h.1.lose sec) ?_) hrest
    cases sec with
    | counter | pending => cases hsec
    | _ => exact h.2.1

theorem foldl_lose_sound {x : StoreRun} {stale : Section → Prop} (h : x.store.SoundBut stale) (secs : List Section) :
    (secs.foldl (fun x sec => x.rewrite sec (·.lose sec)) x).store.SoundBut (fun y => stale y ∧ y ∉ secs) := by
  induction secs generalizing x stale with
  | nil => exact h.mono fun y hy => ⟨hy, List.not_mem_nil⟩
  | cons sec secs ih =>
    refine (ih (h.put _ sec)).mono fun y hy => ?_
    obtain ⟨⟨hst, hne⟩, hout⟩ := hy
    exact ⟨hst, by simp [hne, hout]⟩

theorem losses_fit {x : StoreRun} (h : x.Fit) (lost : List Section) : (losses lost x).Fit := by
  unfold losses
  extract_lets x1
  have h1 : x1.Fit := foldl_lose h _ fun sec hs => by
    have := (List.mem_filter.mp hs).2
    simpa using (Bool.and_eq_true_iff.mp this).1
  split
  · exact h1.update (f := fun r => { r with volumes := endOpenSide r.volumes }) (h1.1.withVolumes h1.1.table.endOpenSide) h1.2.1
  · exact h1

theorem losses_sound {x : StoreRun} {lost : List Section}
    (h : x.store.SoundBut (fun sec => sec ∈ lost ∧ staysLost sec = false)) :
    (losses lost x).store.SoundBut (fun sec => sec = .start) := by
  unfold losses
  extract_lets x1
  have h1 : x1.store.SoundBut (fun sec => sec = .start) := (foldl_lose_sound h _).mono fun y hy => by
    obtain ⟨⟨hl, hs⟩, hout⟩ := hy
    by_contra hne
    exact hout (List.mem_filter.mpr ⟨hl, by simp [hs, hne]⟩)
  split
  · exact h1.update _ _
  · exact h1

theorem atStart_rns (ps : List PendingEntry) : (ps.map PendingEntry.atStart).map (·.rn) = ps.map (·.rn) := by
  rw [List.map_map]
  rfl

/-- The volume table settled on the mailslot sensor keeps the sides (R20). -/
theorem legalTable.mailslotSettled {vs : Vector (Option Volume) 64} (h : legalTable vs) (level : Bool) :
    legalTable (mailslotSettled level vs) := by
  unfold Machine.mailslotSettled
  split
  · exact h
  · have side (v : SlotId) (x : Volume) (f : Face)
        (hx : (vs.map (fun x => x.map (fun y : Volume => if y.loc = .inMailslot then { y with loc := .out } else y)))[v] = some x) :
        ∃ y, vs[v] = some y ∧ x.side f = y.side f := by
      rw [Fin.getElem_fin, Vector.getElem_map] at hx
      obtain ⟨y, hy, rfl⟩ := Option.map_eq_some_iff.mp hx
      refine ⟨y, hy, ?_⟩
      split
      · cases f <;> rfl
      · rfl
    refine ⟨fun v x f hx => ?_, fun v w x y f g hx hy hf hg => ?_⟩
    · obtain ⟨x', hx', hs⟩ := side v x f hx
      exact hs ▸ h.1 v x' f hx'
    · obtain ⟨x', hx', hs⟩ := side v x f hx
      obtain ⟨y', hy', hs'⟩ := side w y g hy
      exact h.2 v w x' y' f g hx' hy' (hs ▸ hf) (hs' ▸ hg)

/-- An entry as a start leaves it: without blocks and image, and not being written (R77). -/
theorem PendingEntry.atStart_stored (p : PendingEntry) : p.atStart.stored = p.atStart := by
  rcases p with ⟨_, _, _, _, _, st, _, _⟩
  cases st <;> rfl

/-- The store at the end of a start (R197): fit, sound, and with the entries as a start leaves them. -/
theorem startStore_kept {found : Retained} (h : found.toStoreValues.legal) (cause : StartCause) (level : Bool) :
    let x := startStore found cause (lostSections found) level
    x.Fit ∧ x.store.sound ∧ ∃ ps : List PendingEntry, x.store.pendingList = ps.map PendingEntry.atStart := by
  have judged := judged_of_found h
  unfold startStore
  extract_lets x n x1 x2 x3
  have hx : x.Fit := losses_fit (completions_fit judged) _
  have hxs : x.store.SoundBut (fun sec => sec = .start) := losses_sound (completions_sound judged.sound _)
  clear_value x n
  have hday : (x.update .counter StoreValues.settleDay).Fit := by
    have legal : x.store.toStoreValues.settleDay.legal := by
      unfold StoreValues.settleDay
      split
      · next k hk =>
        refine hx.1.withCounter ?_
        rintro k' ⟨⟩
        obtain ⟨h1, h2, -⟩ := hx.1.counter k hk
        exact ⟨h1, h2, hx.1.mark⟩
      · exact hx.1
    refine hx.update legal ?_
    intro k hk p hp
    have hk' : x.store.toStoreValues.settleDay.counter = some k := hk
    have hp' : p ∈ x.store.pendingList := hp
    unfold StoreValues.settleDay at hk'
    split at hk'
    · next k0 hk0 =>
      cases hk'
      exact hx.2.1 k0 hk0 p hp'
    · exact hx.2.1 k hk' p hp'
  have h1 : x1.Fit := by
    refine hday.update ?_ hday.2.1
    unfold StoreValues.settleCourtesy
    split
    · exact hday.1.withTable (hday.1.2.2.1.settle _)
    · exact hday.1
  have h2 : x2.Fit := by
    refine h1.update (h1.1.withPending (h1.1.pending.of_rns (atStart_rns _)) fun hv => by rw [h1.1.void hv]; rfl) ?_
    intro k hk p hp
    obtain ⟨q, hq, rfl⟩ := List.mem_map.mp hp
    exact h1.2.1 k hk q hq
  have h3 : x3.Fit := h2.rewrite (f := fun r => { r with startRecord := ⟨cause, lostSections found, x.completions, n⟩ }) h2.1 h2.2.1
  have hlast : (x3.update .volumes (fun r => { r with volumes := mailslotSettled level r.volumes })).Fit :=
    h3.update (h3.1.withVolumes (h3.1.table.mailslotSettled level)) h3.2.1
  have sound3 : x3.store.SoundBut (fun _ => False) :=
    ((((hxs.update _ _).update _ _).update _ _).put _ _).mono fun _ hy => hy.2 hy.1
  refine ⟨hlast, fun sec => (sound3.update _ _) sec id, x1.store.pendingList, ?_⟩
  have values2 : x2.store.toStoreValues = _ := x1.update_values .pending _
  have values3 := x3.update_values .volumes (fun r => { r with volumes := mailslotSettled level r.volumes })
  rw [values3]
  change x2.store.pendingList = _
  rw [values2]
  rfl

/-! ### The state that the reset leads to (R197) -/

theorem LinkUnit.atStart_timed (role : Role) {limit : Nat} (h : limit ≤ 60) : (LinkUnit.atStart role limit).Timed :=
  LinkUnit.timed_of_timer rfl h

theorem linksAtStart_timed (straps : Four (BitVec 2)) {silence : Four Nat} (h : ∀ l, silence.get l ≤ 60) (l : LinkId) :
    ((linksAtStart straps silence).get l).Timed := by
  revert l
  exact Fin.forall_fin_succ.mpr ⟨LinkUnit.atStart_timed _ (h 0), Fin.forall_fin_succ.mpr ⟨LinkUnit.atStart_timed _ (h 1),
    Fin.forall_fin_succ.mpr ⟨LinkUnit.atStart_timed _ (h 2), Fin.forall_fin_succ.mpr ⟨LinkUnit.atStart_timed _ (h 3), nofun⟩⟩⟩⟩

theorem Picker.atStart_timed (p : Panel) : (Picker.atStart p).Timed := by
  intro n hn
  have stall : (Picker.atStart p).stall = if p.level.frontDoor || p.stop then none else some Config.stallLimit := rfl
  rw [stall] at hn
  split at hn
  · cases hn
  · cases hn
    decide

theorem InputTimers.stopped_of (i : Input) : InputTimers.stopped.of i = none := by cases i <;> rfl

theorem entryBlocks_atStart (ps : List PendingEntry) : entryBlocks (ps.map PendingEntry.atStart) = [] := by
  induction ps with
  | nil => rfl
  | cons p ps ih => exact ih

/-- The blocks at their start values lie in their ranges (R197). -/
theorem startCore_ranged {x : StoreRun} (h : x.Fit) {ps : List PendingEntry}
    (hps : x.store.pendingList = ps.map PendingEntry.atStart) (straps : Four (BitVec 2)) (levels : Levels) (rebuilding : Bool) :
    Ranged (startFixed x straps levels) (startCore x straps levels rebuilding) := by
  obtain ⟨legal, below, -⟩ := h
  have settings : x.store.settings.legal := legal.1.1
  have slots : slotsTaken (startFixed x straps levels).transfers = 0 := rfl
  have fixed : (startFixed x straps levels).Ranged :=
    { settings := settings
      schedule := legal.1.2.1
      counter := legal.counter
      numbers := fun k hk => by
        rw [slots]
        exact (legal.counter k hk).2.1
      noTransfer := fun _ => slots
      tallyDay := legal.mark
      snapshot := fun st => (legal.2.1 st).2
      clock := nofun
      window := nofun
      debounce := fun i n hn => by
        have : (InputTimers.stopped.of i) = some n := hn
        rw [InputTimers.stopped_of] at this
        cases this }
  have drives (d : DriveId) : ((startCore x straps levels rebuilding).drives.get d).Timed := by
    have : (startCore x straps levels rebuilding).drives.get d = Drive.atStart := Four.get_all _ d
    rw [this]
    exact Drive.timed_of_none rfl rfl
  have receipts : ReceiptsKept (startFixed x straps levels) x.store.pendingList (List.replicate Config.stagingBlocks false) := by
    refine ⟨legal.pending, legal.void, ?_, below, ⟨by rw [List.length_replicate]; rfl, ?_, fun i => ?_⟩, fun p hp _ => ?_⟩
    · rw [slots]
      exact legal.pending.1
    · rw [hps, entryBlocks_atStart]
      exact List.nodup_nil
    · rw [hps, entryBlocks_atStart]
      have : transferBlocks (startFixed x straps levels).transfers = [] := rfl
      simp [this, List.getElem?_replicate]
    · rw [hps] at hp
      obtain ⟨q, -, rfl⟩ := List.mem_map.mp hp
      rfl
  exact ⟨fixed, ⟨linksAtStart_timed straps settings.1, drives, Picker.atStart_timed _⟩,
    ⟨legal.table, fun hs => absurd rfl hs, facesLegal_none⟩, ⟨fun st => (legal.2.1 st).1, legal.2.2.1⟩, receipts⟩

theorem Ranged.storeAlarms {e : Fixed} {c : Core} (h : Ranged e c) (lost : List Section) : Ranged e (c.storeAlarms lost) :=
  .ite (Ranged.setAlarm (.ite (h.setAlarm _) h) _) (.ite (h.setAlarm _) h)

theorem Ranged.resubmitNotice {e : Fixed} {c : Core} (h : Ranged e c) : Ranged e c.resubmitNotice := by
  unfold Core.resubmitNotice
  split
  · exact h
  · exact h.notifyRole _ _

theorem Ranged.startChoices {e : Fixed} {c : Core} (h : Ranged e c) : Ranged e (c.startChoices e) := h

theorem Core.setAlarm_values (e : Fixed) (c : Core) (a : Alarm) : valuesOf e (c.setAlarm a) = valuesOf e c := by
  rw [Core.setAlarm_eq]
  rfl

/-- The alarms, the notices and the engine's choice of a start leave the values of the store (R77, R195). -/
theorem Core.startReports_values (c : Core) (lost : List Section) (e : Fixed) :
    valuesOf e (((c.storeAlarms lost).resubmitNotice).startChoices e) = valuesOf e c := by
  have alarm (c : Core) (p : Prop) [Decidable p] (a : Alarm) : valuesOf e (if p then c.setAlarm a else c) = valuesOf e c := by
    split
    · exact c.setAlarm_values e a
    · rfl
  have notice (c : Core) : valuesOf e c.resubmitNotice = valuesOf e c := by
    unfold Core.resubmitNotice
    split <;> rfl
  exact (notice _).trans ((alarm _ _ _).trans (alarm c _ _))

/-- A reset leads from a legal state to a legal one (R197). -/
theorem State.legal.start {s : State} (h : s.legal) (cause : StartCause) (straps : Four (BitVec 2)) (levels : Levels)
    (fate : StoreFate) : (s.start cause straps levels fate).legal := by
  have kept := startStore_kept (h.found cause fate) cause levels.cartridgePresent
  unfold State.start State.startFrom
  extract_lets found x e c
  obtain ⟨fit, sound, ps, hps⟩ : x.Fit ∧ x.store.sound ∧
    ∃ ps : List PendingEntry, x.store.pendingList = ps.map PendingEntry.atStart := kept
  clear_value x
  have core := startCore_ranged fit hps straps levels ((lostSections found).contains .volumes)
  have ranged : Ranged e c := ((core.storeAlarms _).resubmitNotice).startChoices
  have stored : x.store.pendingList.map PendingEntry.stored = x.store.pendingList := by
    rw [hps, List.map_map]
    exact List.map_congr_left fun p _ => p.atStart_stored
  have values : valuesOf e c = x.store.toStoreValues := by
    refine (Core.startReports_values _ _ e).trans ?_
    have : valuesOf e (startCore x straps levels ((lostSections found).contains .volumes)) =
        { x.store.toStoreValues with pendingList := x.store.pendingList.map PendingEntry.stored } := rfl
    rw [this, stored]
  refine (State.legal_iff _).mpr ⟨ranged, ?_, fit.2.2⟩
  have retained : State.retained { toCore := c, toFixed := e, words := x.store.words, journal := x.journal, pending := s.pending } =
      { valuesOf e c with words := x.store.words } := rfl
  rw [retained, values]
  exact sound

end Sys2Proof.Machine
end

section
/-! SUPPORT. Every step keeps the ranges: command by command. -/

namespace Sys2Proof.Machine

theorem mem_flushOrder (sec : Section) : sec ∈ flushOrder := by cases sec <;> decide

theorem mem_itemOrder (sec : Section) : sec ∈ itemOrder := by cases sec <;> decide

section
variable {s t : State}

/-- An event whose effect grows from a legal state leads from a legal state to a legal one. -/
theorem State.legal.event (h : s.legal) {o : List Section} {f : State → State} (ht : event o s f = .next t)
    (ho : ∀ sec, sec ∈ o) (hf : Grown s (f s)) : t.legal := by
  rw [event_eq] at ht
  cases ht
  split
  · exact h
  · exact hf.legal h o ho

/-- So does a request where what its owner makes of the examined frame does. -/
theorem State.legal.request (h : s.legal) {k : RequestKind} {r : Request} {own : State → State}
    (hown : ∀ u, Kept s u → Grown s (own u)) (ht : request k r own s = .next t) : t.legal :=
  h.event ht mem_updateOrder (h.kept.examine k r hown)

/-- So does the completion of a drive operation where the part that takes it keeps the ranges. -/
theorem State.legal.completion (h : s.legal) {o : List Section} {d : DriveId} {f : Fixed → Core → DriveOp → Option Core}
    (ho : ∀ sec, sec ∈ o) (hf : ∀ c op c', Ranged s.toFixed c → f s.toFixed c op = some c' → Ranged s.toFixed c')
    (ht : Machine.event o s (completion d f) = .next t) : t.legal :=
  h.event ht ho (h.kept.completion d hf)

/-- The faces that an inventory reads are legal (R161). -/
theorem Ranged.scan {e : Fixed} {c c' : Core} {o : DriveOp} {u : OpUser} {f : Inventory → Reading → Option Core}
    (h : Ranged e c) (hf : ∀ i rd, rd.FacesLegal → f i rd = some c' → Ranged e c') (hs : forScan u f c o = some c') :
    Ranged e c' := by
  obtain ⟨i, rd, hi, hrd, hc⟩ := forScan_some hs
  exact hf i rd (h.sides.2.2 i hi rd hrd) hc

/-- Every command keeps the ranges. -/
theorem exec_legal (i : Instr) (h : s.legal) (ht : exec i s = .next t) : t.legal := by
  have kept := h.kept
  cases i with
  | fetch r => exact h.request (fun _ hu => hu.takeFetch r) ht
  | walk r => exact h.request (fun _ hu => hu.takeWalk r) ht
  | cancel r => exact h.request (fun _ hu => hu.takeCancel r) ht
  | submit r => exact h.request (fun _ hu => hu.takeSubmit r) ht
  | data r => exact h.request (fun _ hu => hu.takeData r) ht
  | abandon r => exact h.request (fun _ hu => hu.takeAbandon r) ht
  | resubmit r => exact h.request (fun _ hu => hu.takeResubmit r) ht
  | setSchedule r => exact h.request (fun _ hu => hu.takeSetSchedule r) ht
  | readSchedule r => exact h.request (fun _ hu => (hu.result r _).grown) ht
  | openReception r => exact h.request (fun _ hu => hu.takeOpenReception r) ht
  | closeReception r => exact h.request (fun _ hu => hu.takeCloseReception r) ht
  | setClock r => exact h.request (fun _ hu => hu.takeSetClock r) ht
  | readTally r => exact h.request (fun _ hu => hu.takeReadTally r) ht
  | closeDay r => exact h.request (fun _ hu => hu.takeCloseDay r) ht
  | readCloseResult r => exact h.request (fun _ hu => (hu.result r _).grown) ht
  | hold r => exact h.request (fun _ hu => hu.act _ (hu.ranged.holdRequest r)) ht
  | release r => exact h.request (fun _ hu => hu.act _ (hu.ranged.releaseRequest r)) ht
  | moveSlotToDrive r => exact h.request (fun _ hu => hu.takeMove r) ht
  | moveDriveToSlot r => exact h.request (fun _ hu => hu.takeMove r) ht
  | resumeMechanism r => exact h.request (fun _ hu => hu.takeResume r) ht
  | clearFaultDrive r => exact h.request (fun _ hu => hu.takeClearFault r) ht
  | clearFaultPicker r => exact h.request (fun _ hu => hu.takeClearFault r) ht
  | importCartridge r => exact h.request (fun _ hu => hu.takeImport r) ht
  | exportVolume r => exact h.request (fun _ hu => hu.takeExport r) ht
  | inventory r => exact h.request (fun _ hu => hu.takeInventory r) ht
  | withdraw r => exact h.request (fun _ hu => hu.takeWithdraw r) ht
  | restoreCounter r => exact h.request (fun _ hu => hu.takeRestoreCounter r) ht
  | panelAck r => exact h.request (fun _ hu => hu.takePanelAck r) ht
  | setConfig r => exact h.request (fun _ hu => hu.takeSetConfig r) ht
  | restart r => exact h.request (fun _ hu => hu.takeRestart r) ht
  | status r => exact h.request (fun _ hu => (hu.result r _).grown) ht
  | readStartRecord r => exact h.request (fun _ hu => (hu.result r _).grown) ht
  | setNoticeMask r => exact h.request (fun _ hu => hu.takeSetNoticeMask r) ht
  | unknownKindFrame kind r =>
    exact h.event (f := fun s => (s.validFrame r.link).refuse r .format) ht mem_updateOrder
      ((kept.validFrame r.link).refuse r _).grown
  | frameDiscarded link why => exact h.event ht mem_updateOrder kept.grown
  | frameSent link => exact h.event ht mem_updateOrder (kept.takeFrameSent link)
  | rawInputChange input active => exact h.event ht mem_updateOrder (kept.takeRawInput input active)
  | debouncedEdge input => exact h.event ht mem_updateOrder (kept.takeEdge input)
  | reset cause straps levels fate =>
    cases ht
    exact h.start cause straps levels fate
  | clockSecondTick => exact h.event ht mem_updateOrder kept.takeSecond
  | receptionWindowExpiry => exact h.event ht mem_updateOrder kept.takeWindowExpiry
  | silentEvent link => exact h.event ht mem_updateOrder (kept.takeSilent link)
  | idleTimerExpiry drive =>
    exact h.event (f := (·.onCore (·.idleExpiry drive))) ht mem_updateOrder (kept.onCore _ (kept.ranged.idleExpiry drive)).grown
  | driveOperationTimeout drive => exact h.event ht mem_updateOrder (kept.takeOperationTimeout drive)
  | pickerStall => exact h.event ht mem_updateOrder kept.takeStall
  | loadSpinUpComplete drive r => exact h.completion mem_updateOrder (fun _ _ _ hc => hc.takeLoad drive r) ht
  | spinDownComplete drive => exact h.completion mem_updateOrder (fun _ _ _ hc => hc.takeSpinDown drive) ht
  | ejectComplete drive => exact h.completion mem_updateOrder (fun _ _ _ hc => hc.takeEject drive) ht
  | instrumentWriteComplete drive r =>
    exact h.completion mem_updateOrder (fun _ _ _ hc => hc.forEngine (hc.instrumentWritten drive r)) ht
  | verifyReadComplete drive r =>
    exact h.completion mem_updateOrder (fun _ _ _ hc => hc.forEngine (hc.extentVerified drive r)) ht
  | headerWriteComplete drive r =>
    exact h.completion mem_updateOrder (fun _ _ _ hc => hc.forEngine (hc.headerWritten drive r)) ht
  | sealWriteComplete drive r => exact h.completion mem_updateOrder (fun _ _ _ hc => hc.forEngine (hc.sealWritten drive r)) ht
  | flushOperationComplete drive r => exact h.completion mem_flushOrder (fun _ _ _ hc => hc.takeFlush drive r) ht
  | directoryReadComplete drive r => exact h.completion mem_updateOrder (fun _ _ _ hc => hc.takeDirectoryRead drive r) ht
  | chunkReadComplete drive r => exact h.completion mem_itemOrder (fun _ _ _ hc => hc.takeChunkRead drive r) ht
  | probeReadComplete drive r => exact h.completion mem_updateOrder (fun _ _ _ hc => hc.takeProbeRead drive r) ht
  | importHeaderReadComplete drive r => exact h.completion mem_updateOrder (fun _ _ _ hc => hc.takeImportRead drive r) ht
  | inventoryReadComplete drive r =>
    exact h.completion mem_updateOrder (fun _ _ _ hc => hc.scan fun _ _ hrd => hc.inventoryRead hrd) ht
  | restartFindBlankComplete drive r => exact h.completion mem_updateOrder (fun _ _ _ hc => hc.forEngine (hc.restartFound r)) ht
  | inventoryFindBlankComplete drive r =>
    exact h.completion mem_updateOrder (fun _ _ _ hc => hc.scan fun _ _ hrd => hc.inventoryFind hrd) ht
  | pickerMoveDone => exact h.event ht mem_updateOrder kept.takeMoveDone
  | pickerMoveFailed => exact h.event ht mem_updateOrder kept.takeMoveFailed
  | lateMoveDone => exact h.event (f := (·.onCore Core.recordLate)) ht mem_updateOrder (kept.onCore _ kept.ranged.recordLate).grown
  | inventoryProbeDone occupied => exact h.event ht mem_updateOrder (kept.takeProbeDone occupied)
  | recoveryRehomeDone gripped =>
    exact h.event (f := (·.act (rehomed gripped))) ht mem_updateOrder (kept.act _ (kept.ranged.rehomed gripped))
  | recoveryReturnDone => exact h.event (f := (·.act returned)) ht mem_updateOrder (kept.act _ kept.ranged.returned)
  | startRecoveryRehomeDone gripped =>
    exact h.event (f := (·.act (rehomed gripped))) ht mem_updateOrder (kept.act _ (kept.ranged.rehomed gripped))
  | lateDriveCompletion drive => exact h.event ht mem_updateOrder kept.grown
  | startRecoveryDestinationProbeDone occupied =>
    exact h.event (f := (·.act (destinationProbed occupied))) ht mem_updateOrder
      (kept.act _ (kept.ranged.destinationProbed occupied))

end

end Sys2Proof.Machine

open Sys2Proof Sys2Proof.Machine

/-- Settles O18, command by command: what each keeps of the ranges is said once for each operation of the core (`Ranged.*`), the
settling work that follows is a sequence of such operations, and the record of updates is read back section by section. -/
theorem everyStepKeepsTheRanges : Obligations.EveryStepKeepsTheRanges := by
  intro s t legal ht
  unfold step at ht
  split at ht
  · cases ht
    exact legal
  · next i rest _ => exact exec_legal (s := { s with pending := rest }) i legal ht

end

section
/-! SUPPORT. The resolution of a reception number (R15): the sides of the range table, and the side that holds a number. -/

namespace Sys2Proof.Machine

/-- A side holds a number: it is not BLANK and its committed range reaches it, at an index from the range's first (R15). -/
def Core.Holds (c : Core) (n : Nat) (sd : Side) (i : Nat) : Prop :=
  ∃ r a b, (sd, r) ∈ c.sides ∧ r.state ≠ .blank ∧ r.firstRn = some a ∧ r.lastRn = some b ∧ a ≤ n ∧ n ≤ b ∧ i = n - a

theorem SideRecord.range_some {r : SideRecord} {a b : Nat} :
    r.range = some (a, b) ↔ r.state ≠ .blank ∧ r.firstRn = some a ∧ r.lastRn = some b := by
  unfold SideRecord.range
  by_cases hs : r.state = .blank
  · simp [hs]
  · rw [if_neg hs]
    cases hf : r.firstRn <;> cases hl : r.lastRn <;> simp [hs]

theorem SideRecord.indexOf_some {r : SideRecord} {n i : Nat} :
    r.indexOf n = some i ↔ ∃ a b, r.range = some (a, b) ∧ a ≤ n ∧ n ≤ b ∧ i = n - a := by
  unfold SideRecord.indexOf
  constructor
  · intro h
    split at h
    · next a b hr =>
      split at h
      · next hn =>
        cases h
        exact ⟨a, b, hr, hn.1, hn.2, rfl⟩
      · cases h
    · cases h
  · rintro ⟨a, b, hr, ha, hb, rfl⟩
    simp [hr, ha, hb]

/-- The range table lists the sides with a range (R15). -/
theorem Core.mem_rangeTable {c : Core} {p : Side × SideRecord} : p ∈ c.rangeTable ↔ p ∈ c.sides ∧ p.2.range.isSome = true := by
  simp [Core.rangeTable, List.mem_insertionSort]

/-- The index that a side's record gives a number is the one of a side that holds it. -/
theorem Core.holds_iff {c : Core} {n : Nat} {sd : Side} {i : Nat} :
    c.Holds n sd i ↔ ∃ r, (sd, r) ∈ c.rangeTable ∧ r.indexOf n = some i := by
  simp only [Core.Holds, Core.mem_rangeTable, SideRecord.indexOf_some]
  constructor
  · rintro ⟨r, a, b, hm, hs, ha, hb, h1, h2, rfl⟩
    have hr := SideRecord.range_some.mpr ⟨hs, ha, hb⟩
    exact ⟨r, ⟨hm, by simp [hr]⟩, a, b, hr, h1, h2, rfl⟩
  · rintro ⟨r, ⟨hm, -⟩, a, b, hr, h1, h2, rfl⟩
    obtain ⟨hs, ha, hb⟩ := SideRecord.range_some.mp hr
    exact ⟨r, a, b, hm, hs, ha, hb, h1, h2, rfl⟩

/-- The side found is one that holds the number. -/
theorem Core.sideHolding_some {c : Core} {n : Nat} {sd : Side} {i : Nat} (h : c.sideHolding n = some (sd, i)) : c.Holds n sd i := by
  obtain ⟨⟨sd', r⟩, hm, hf⟩ := List.exists_of_findSome?_eq_some h
  obtain ⟨j, hj, heq⟩ := Option.map_eq_some_iff.mp hf
  cases heq
  exact Core.holds_iff.mpr ⟨r, hm, hj⟩

/-- Where a side holds the number, one is found. -/
theorem Core.sideHolding_none {c : Core} {n : Nat} (h : c.sideHolding n = none) (sd : Side) (i : Nat) : ¬c.Holds n sd i := by
  intro hh
  obtain ⟨r, hm, hi⟩ := Core.holds_iff.mp hh
  have := List.findSome?_eq_none_iff.mp h _ hm
  simp [hi] at this

/-! ### The machine right after reset (R114, R131, R135, R197) -/

theorem StoreValues.manufactured_legal : StoreValues.manufactured.legal := by
  have vacant (v : SlotId) (x : Volume) : (Vector.replicate 64 (none : Option Volume))[v] ≠ some x := by
    rw [Fin.getElem_fin, Vector.getElem_replicate]
    exact nofun
  have counter (k : Counter) (hk : some ⟨1, 1⟩ = some k) : k.legal := by
    cases hk
    exact ⟨by decide, by decide, by decide, by decide⟩
  exact ⟨⟨Settings.default_legal, Schedule.unset_legal, counter, by decide, by decide⟩,
    fun st => ⟨StationTally.zero_legal st, StationTally.zero_legal st⟩, CourtesyList.legal_empty,
    ⟨fun v x _ hx => absurd hx (vacant v x), fun v _ x _ _ _ hx => absurd hx (vacant v x)⟩,
    ⟨Nat.zero_le _, .nil, fun _ hp => absurd hp List.not_mem_nil⟩, fun _ => rfl⟩

/-- The machine right after reset is one at its start values over the store as it left manufacture. -/
theorem reset_ranged : Ranged State.reset.toFixed State.reset.toCore := by
  let x : StoreRun :=
    { store := { StoreValues.manufactured with words := StoreValues.manufactured.words }, completions := [], journal := [] }
  have fit : x.Fit := ⟨StoreValues.manufactured_legal, fun _ _ _ hp => absurd hp List.not_mem_nil,
    fun _ hp => absurd hp List.not_mem_nil⟩
  exact startCore_ranged fit (ps := []) rfl ⟨0, 1, 2, 3⟩ levelsInactive false

theorem reset_legal : State.reset.legal :=
  (State.legal_iff _).mpr ⟨reset_ranged, reset_sound, fun _ hp => absurd hp List.not_mem_nil⟩

theorem LinkUnit.atStart_orderly (role : Role) (limit : Nat) : (LinkUnit.atStart role limit).orderly :=
  ⟨List.nil_sublist _, fun _ hn => absurd hn List.not_mem_nil⟩

theorem reset_orderly : State.reset.orderly :=
  ⟨Fin.forall_fin_succ.mpr ⟨LinkUnit.atStart_orderly _ _, Fin.forall_fin_succ.mpr ⟨LinkUnit.atStart_orderly _ _,
    Fin.forall_fin_succ.mpr ⟨LinkUnit.atStart_orderly _ _, Fin.forall_fin_succ.mpr ⟨LinkUnit.atStart_orderly _ _, nofun⟩⟩⟩⟩, .nil⟩

/-- An empty queue is in bounds (R80). -/
theorem State.queueBounded_of_nil {s : State} (h : s.queue = []) : s.queueBounded := by
  refine ⟨by simp [h], fun l => by simp [Core.jobsOf, h], by simp [h], by simp [h], by simp [h]⟩

/-- Drives at their start hold no claim, and where no job is queued and nothing waits, the claims are in order (R27, R28). -/
theorem State.claimsKept_of_idle {s : State} (hd : s.drives = Four.all .atStart) (hq : s.queue = []) (hr : s.requests = [])
    (hm : s.mounts = []) (he : s.engine.claim = none) : s.claimsKept := by
  have hreq : s.toCore.requesters = [] := by simp [Core.requesters, hr, hm]
  have none (id : JobId) (d : DriveId) : ¬s.holdsClaim id d := by simp [State.holdsClaim, hq]
  refine ⟨fun d => ?_, by simp [hq], by simp [hreq], by simp [hreq], fun _ => he, by simp [hm], by simp [hm]⟩
  rw [hd, Four.get_all]
  exact ⟨List.nodup_nil, fun id => ⟨fun h => absurd h List.not_mem_nil, fun h => absurd h (none id d)⟩, by simp [Drive.atStart, he],
    fun _ _ ho => nomatch ho⟩

end Sys2Proof.Machine

open Sys2Proof Sys2Proof.Machine

/-- Settles O6: the checks of `resolve` one after the other; the last reads the range table, which lists just the sides that have a
range, so the side it finds is one that holds the number. -/
theorem resolutionTakesTheFirstCheckThatApplies : Obligations.ResolutionTakesTheFirstCheckThatApplies := by
  intro e c k n hk beyond held listed
  have hheld : held ↔ c.pendingList.any (fun p => p.rn == n) = true := by simp [held]
  unfold resolve
  simp only [hk]
  refine ⟨fun hb => if_pos hb, fun hb hh => ?_, fun hb hh hr => ?_, fun hb hh hr => ?_⟩
  · rw [if_neg hb, if_pos (hheld.mp hh)]
  · rw [if_neg hb, if_neg (fun h => hh (hheld.mpr h)), if_pos hr]
  · rw [if_neg hb, if_neg (fun h => hh (hheld.mpr h)), if_neg (by simp [hr])]
    cases hf : c.sideHolding n with
    | none =>
      refine ⟨fun sd i h => (nomatch h), fun hl => ?_, fun _ => rfl⟩
      obtain ⟨sd, i, hl⟩ := hl
      exact absurd hl (Core.sideHolding_none hf sd i)
    | some p =>
      obtain ⟨sd, i⟩ := p
      have hl : listed sd i := Core.sideHolding_some hf
      refine ⟨fun sd' i' h => ?_, fun _ => ⟨sd, i, rfl⟩, fun hn => (hn ⟨sd, i, hl⟩).elim⟩
      cases h
      exact hl

/-- Settles O17: the machine right after reset is one at its start values over the store as it left manufacture, which O18's lemmas
put in its ranges; nothing is held, queued or claimed yet. -/
theorem resetMeetsTheInvariants : Obligations.ResetMeetsTheInvariants :=
  ⟨reset_legal, reset_orderly, State.queueBounded_of_nil rfl, State.claimsKept_of_idle rfl rfl rfl rfl rfl⟩

end

section
/-! SUPPORT. The start recovery (R19, R43, R47, R155): its end, the volume it finds in the gripper, and the three parts of its
motion. -/

namespace Sys2Proof.Machine

/-! ### Its end -/

/-- A drive whose start probe has begun (R48). -/
def Drive.probing (x : Drive) : Drive :=
  { x with state := .spinningUp, probe := .loading, op := issued (.loadSpinUp false) .probe }

/-- The start probes of the four drives begin together (R48). -/
theorem foldl_beginProbe (c : Core) : Four.indices.foldl Core.beginProbe c = { c with drives := c.drives.map Drive.probing } := by
  have one (c : Core) (d : DriveId) : c.beginProbe d = { c with drives := c.drives.set d (c.drives.get d).probing } := by
    simp only [Core.beginProbe, Core.issue, Core.onDrive, Four.set_set, Four.get_set_same]
    rfl
  simp only [Four.indices, List.foldl_cons, List.foldl_nil, one]
  rfl

/-- The state of a core at the end of its start recovery (R43, R47). -/
def Core.startEnded (c : Core) : Core :=
  let told := holdGranted c.hold (recoveryTold c.picker.by_ c.links .done)
  { c with
    picker := pickerFree, hold := told.1, links := told.2, startPhase := .probing, drives := c.drives.map Drive.probing }

theorem Core.endStart_eq (c : Core) : c.endStart = c.startEnded := by
  unfold Core.endStart
  simp only [foldl_beginProbe, Core.recoveryDone_eq, Core.grantHold_eq]
  rfl

/-! ### The volume in the gripper (R19) -/

/-- The one volume stored as IN_PICKER is the one gripped. -/
theorem Core.gripped_some {c : Core} {v : SlotId} {src dst : Position}
    (h : ∀ w a b, c.location w = some (.inPicker a b) ↔ w = v ∧ a = src ∧ b = dst) : c.gripped = some (v, src, dst) := by
  have hv : c.location v = some (.inPicker src dst) := (h v src dst).mpr ⟨rfl, rfl, rfl⟩
  unfold Core.gripped
  cases hg : allSlots.findSome? (fun v =>
      match c.location v with
      | some (.inPicker src dst) => some (v, src, dst)
      | _ => none) with
  | none =>
    have := List.findSome?_eq_none_iff.mp hg v (List.mem_finRange v)
    simp [hv] at this
  | some p =>
    obtain ⟨w, -, hw⟩ := List.exists_of_findSome?_eq_some hg
    split at hw
    · next a b hloc =>
      cases hw
      obtain ⟨rfl, rfl, rfl⟩ := (h w a b).mp hloc
      rfl
    · cases hw

theorem Core.gripped_none {c : Core} (h : ∀ w a b, c.location w ≠ some (.inPicker a b)) : c.gripped = none := by
  refine List.findSome?_eq_none_iff.mpr fun v _ => ?_
  split
  · next a b hloc => exact absurd hloc (h v a b)
  · rfl

theorem Position.location_inside (p : Position) : p.location ≠ .out := by cases p <;> nofun

/-- A volume IN_PICKER is put where the start recovery has found it or brought it (R19). -/
theorem Core.setLoc_gripped {c : Core} {v : SlotId} {src dst : Position} (h : c.location v = some (.inPicker src dst))
    {l : Location} (hl : l ≠ .out) : c.setLoc v l = { c with volumes := relocated c.volumes v l } :=
  c.setLoc_inside v _ l h nofun hl

/-! ### The parts of its motion (R38, R47) -/

section
variable {e : Fixed} {c : Core}

theorem rehomed_start (h : c.motionNow = some (.start .rehome)) (gripped : Bool) :
    rehomed gripped e c = startRehomed e c gripped := by
  unfold rehomed
  rw [h]

/-- The re-home that finds no cartridge, with no volume stored as IN_PICKER, and with one. -/
theorem startRehomed_nobody (h : c.gripped = none) : startRehomed e c false = c.endStart := by
  unfold startRehomed
  rw [h]

theorem startRehomed_empty {v : SlotId} {src dst : Position} (h : c.gripped = some (v, src, dst)) : startRehomed e c false =
    if dst = .mailslot then
      (c.setLoc v (if e.panel.level.cartridgePresent then .inMailslot else src.location)).endStart
    else c.startMotion .probing := by
  unfold startRehomed
  rw [h]

/-- The re-home that finds a cartridge, one that no record names, and one that a record names. -/
theorem startRehomed_unnamed (h : c.gripped = none) : startRehomed e c true =
    if e.panel.level.cartridgePresent then c.pickerFail false else c.startMotion .returning := by
  unfold startRehomed
  rw [h]

theorem startRehomed_named {v : SlotId} {src dst : Position} (h : c.gripped = some (v, src, dst)) :
    startRehomed e c true = c.startMotion .returning := by
  unfold startRehomed
  rw [h]

theorem returned_start (h : c.motionNow = some (.start .returning)) : returned e c = startReturned c := by
  unfold returned
  rw [h]

theorem destinationProbed_start (h : c.motionNow = some (.start .probing)) (occupied : Bool) :
    destinationProbed occupied e c = startProbed c occupied := by
  unfold destinationProbed
  rw [h]

end

/-- A report of the servo board leads to what its part makes of the core, and what follows. -/
theorem report_leads {s : State} (hd : s.resetDue = false) {f : Fixed → Core → Core} {c : Core}
    (hf : f s.toFixed s.toCore = c) :
    ∃ t, event updateOrder s (·.act f) = .next t ∧ ReachedThen t { s with toCore := c } := by
  refine event_acted (f := f) hd rfl ?_
  rw [← hf]
  rfl

end Sys2Proof.Machine

open Sys2Proof Sys2Proof.Machine

/-- Settles O51, by the parts of the motion: each is taken under way and halted under way alike (`Core.motionNow_eq`), finds the
volume IN_PICKER by `Core.gripped`, and ends as `Core.endStart_eq` says. -/
theorem startRecoverySettlesTheGripper : Obligations.StartRecoverySettlesTheGripper := by
  intro s hd hp probing told ended goesOn leads inPicker nobody
  have now := s.toCore.motionNow_eq hp
  have put {v src dst} (hv : inPicker v src dst) {l : Location} (hl : l ≠ .out) :
      (s.toCore.setLoc v l) = { s.toCore with volumes := relocated s.volumes v l } :=
    Core.setLoc_gripped ((hv v src dst).mpr ⟨rfl, rfl, rfl⟩) hl
  refine ⟨fun hm => ⟨fun hn => ⟨?_, fun hl => ?_⟩, fun v src dst hv => ⟨?_, fun hdst => ?_, fun hdst => ?_⟩⟩,
    fun hm => ⟨fun hn => ?_, fun v src dst hv => ?_⟩, fun hm v src dst occupied hv => ?_⟩
  · refine report_leads (f := rehomed false) hd ?_
    rw [rehomed_start (now.trans hm), startRehomed_nobody (Core.gripped_none hn)]
    exact Core.endStart_eq _
  · refine report_leads (f := rehomed true) hd ?_
    rw [rehomed_start (now.trans hm), startRehomed_unnamed (Core.gripped_none hn), hl]
    rfl
  · refine report_leads (f := rehomed true) hd ?_
    rw [rehomed_start (now.trans hm), startRehomed_named (Core.gripped_some hv)]
    rfl
  · refine report_leads (f := rehomed false) hd ?_
    rw [rehomed_start (now.trans hm), startRehomed_empty (Core.gripped_some hv), if_neg hdst]
    rfl
  · refine report_leads (f := rehomed false) hd ?_
    have inside : (if s.panel.level.cartridgePresent then Location.inMailslot else src.location) ≠ .out := by
      split
      · nofun
      · exact src.location_inside
    rw [rehomed_start (now.trans hm), startRehomed_empty (Core.gripped_some hv), if_pos hdst, put hv inside, Core.endStart_eq]
    rfl
  · refine report_leads (f := returned) hd ?_
    rw [returned_start (now.trans hm), startReturned, Core.gripped_none hn]
    exact Core.endStart_eq _
  · refine report_leads (f := returned) hd ?_
    rw [returned_start (now.trans hm), startReturned, Core.gripped_some hv]
    simp only [put hv src.location_inside, Core.endStart_eq]
    split <;> rfl
  · refine report_leads (f := destinationProbed occupied) hd ?_
    have inside : (if occupied then dst.location else src.location) ≠ .out := by
      split
      · exact dst.location_inside
      · exact src.location_inside
    rw [destinationProbed_start (now.trans hm), startProbed, Core.gripped_some hv]
    simp only
    rw [put hv inside, Core.endStart_eq]
    rfl

end

section
/-! SUPPORT. The Filing Engine's shared operations (R59 to R70), each said once in the terms of Sys2Proof/Safety.lean: the side
record it changes, its rest and its choice, a flush and a seal begun, the turn, and a completion for its use of a drive. -/

namespace Sys2Proof.Machine

/-! ### Side records and the evaluation of SIDE_SUSPECT -/

/-- The record of a side that is there is replaced by what `f` makes of it. -/
theorem Core.onSide_put {c : Core} {sd : Side} {r : SideRecord} (h : c.sideRecord sd = some r) (f : SideRecord → SideRecord) :
    c.onSide sd f = { c with volumes := putSide c.volumes sd (f r) } := by
  unfold Core.sideRecord Core.vol at h
  obtain ⟨x, hx, rfl⟩ := Option.map_eq_some_iff.mp h
  unfold Core.onSide Core.vol putSide
  rw [hx]
  rfl

theorem Core.openSide_record {c : Core} {sd : Side} {r : SideRecord} (h : c.openSide = some (sd, r)) :
    c.sideRecord sd = some r := by
  obtain ⟨x, hx, hr, -⟩ := Core.openSide_some h
  exact Option.map_eq_some_iff.mpr ⟨x, hx, hr.symm⟩

/-- All that the evaluation of SIDE_SUSPECT does (R13). -/
theorem Core.evalSuspect_eq (c : Core) : c.evalSuspect =
    let y := if c.suspectStands then alarmSet (c.alarms, c.links) .sideSuspect
      else alarmCleared (c.alarms, c.links) .sideSuspect
    { c with alarms := y.1, links := y.2 } := by
  unfold Core.evalSuspect Core.evalAlarm
  split
  · exact c.setAlarm_eq _
  · exact c.clearAlarm_eq _

/-! ### Rest and choice (R59, R60) -/

/-- What an action leads to, by what it makes of the core. -/
theorem State.onCore_of {s u : State} {f : Core → Core} {c : Core} (h : f s.toCore = c) (hu : { s with toCore := c } = u) :
    s.onCore f = u := by
  rw [← hu, ← h]
  rfl

theorem State.onCore_engineRest (s : State) (st : EngineState) : s.onCore (·.engineRest s.toFixed st) = engineRests s st := by
  have left {c : Core} (hc : s.toCore.engineRelease s.toFixed = c) : s.toCore.engineRest s.toFixed st =
      (c.dropRequester .engine).onEngine (fun g => { g with state := st }) := by
    rw [← hc]
    rfl
  unfold engineRests
  cases h : s.engine.claim with
  | some d => exact State.onCore_of (left (Core.engineRelease_eq s s.toCore d h)) rfl
  | none =>
    have kept : s.toCore.engineRelease s.toFixed = s.toCore := by
      unfold Core.engineRelease
      rw [h]
    refine State.onCore_of (left kept) ?_
    simp only [Core.onEngine, Core.dropRequester, h]

/-- COUNTER or PENDING is lost, and the engine has nothing to work with (R59). -/
theorem choose_lost {e : Fixed} {c : Core} (h : e.counter = none ∨ e.pendingValid = false) :
    choose e c = .rest (.stalled .storeLost) := by
  unfold choose
  rcases h with h | h <;> simp [h]

section
variable {e : Fixed} {c : Core}

theorem whole_test (h : ¬(e.counter = none ∨ e.pendingValid = false)) : ¬(e.counter.isNone || !e.pendingValid) = true := by
  simpa [not_or] using h

theorem choose_empty (h : ¬(e.counter = none ∨ e.pendingValid = false)) (hp : c.headState = none) :
    choose e c = .rest .idle := by
  unfold choose
  rw [if_neg (whole_test h), hp]

theorem choose_awaiting (h : ¬(e.counter = none ∨ e.pendingValid = false)) (hp : c.headState = some .awaitingResubmit) :
    choose e c = .rest (.stalled .headAwaiting) := by
  unfold choose
  rw [if_neg (whole_test h), hp]

theorem choose_withdrawn (h : ¬(e.counter = none ∨ e.pendingValid = false)) (hp : c.headState = some .withdrawn) :
    choose e c = if c.placeable then .placeholder else .mounting := by
  unfold choose
  rw [if_neg (whole_test h), hp]

theorem choose_mounting {st : PendingState} (h : ¬(e.counter = none ∨ e.pendingValid = false)) (hp : c.headState = some st)
    (ha : st ≠ .awaitingResubmit) (hw : st ≠ .withdrawn) : choose e c = .mounting := by
  unfold choose
  rw [if_neg (whole_test h), hp]
  cases st with
  | awaitingResubmit => exact absurd rfl ha
  | withdrawn => exact absurd rfl hw
  | staged | writing | verifying => rfl

/-- The state of the head of a list that is not empty. -/
theorem Core.headState_cons {p : PendingEntry} {ps : List PendingEntry} (h : c.pendingList = p :: ps) :
    c.headState = some p.state := by
  unfold Core.headState
  rw [h]
  rfl

theorem choose_staged {p : PendingEntry} {ps : List PendingEntry} (h : ¬(e.counter = none ∨ e.pendingValid = false))
    (hp : c.pendingList = p :: ps) (hs : p.state = .staged) : choose e c = .mounting := by
  have head := Core.headState_cons hp
  rw [hs] at head
  exact choose_mounting h head nofun nofun

end

theorem State.onCore_chooseAgain (s : State) : s.onCore (chooseAgain s.toFixed) = choosesAgain s := by
  have rests {st : EngineState} (h : choose s.toFixed s.toCore = .rest st) :
      s.onCore (chooseAgain s.toFixed) = engineRests s st := by
    rw [← s.onCore_engineRest]
    unfold State.onCore chooseAgain
    rw [h]
  have mounts (h : choose s.toFixed s.toCore = .placeholder ∨ choose s.toFixed s.toCore = .mounting) :
      s.onCore (chooseAgain s.toFixed) = { s with engine := { s.engine with state := .mounting } } := by
    unfold State.onCore chooseAgain
    rcases h with h | h <;> rw [h] <;> rfl
  unfold choosesAgain
  by_cases hl : s.counter = none ∨ s.pendingValid = false
  · rw [if_pos hl]
    exact rests (choose_lost hl)
  · rw [if_neg hl]
    split
    · next hp => exact rests (choose_empty hl (congrArg (fun l => l.head?.map (·.state)) hp))
    · next p ps hp =>
      have head := Core.headState_cons (c := s.toCore) hp
      split
      · next hs => exact rests (choose_awaiting hl (hs ▸ head))
      · next hs =>
        refine mounts ?_
        by_cases hw : p.state = .withdrawn
        · rw [choose_withdrawn hl (hw ▸ head)]
          cases s.toCore.placeable <;> simp
        · exact .inr (choose_mounting hl head hs hw)

/-! ### Flush and seal (R67, R69) -/

theorem State.onCore_beginFlush (s : State) (d : DriveId) (r : SideRecord) :
    s.onCore (·.beginFlush d r) = flushBegun s d (s.drives.get d) r := rfl

theorem State.onCore_writeSeal (s : State) (d : DriveId) (r : SideRecord) (why : SealReason) :
    s.onCore (·.writeSeal d r why) = sealBeingWritten s d (s.drives.get d) r why := rfl

/-- The head goes back to STAGED (R58). -/
theorem Core.stageHead_eq (c : Core) : c.stageHead =
    { c with pendingList := (c.pendingList.take 1).map (fun p =>
        if p.state = .writing ∨ p.state = .verifying then { p with state := .staged } else p) ++ c.pendingList.drop 1 } := by
  unfold Core.stageHead Core.headState Core.setHead
  cases h : c.pendingList with
  | nil =>
    simp only [List.head?_nil, Option.map_none, reduceCtorEq, or_self, if_false, List.take_nil, List.map_nil, List.drop_nil,
      List.append_nil]
    rw [← h]
  | cons p ps =>
    simp only [List.head?_cons, Option.map_some, Option.some.injEq, List.take_succ_cons, List.take_zero, List.map_cons,
      List.map_nil, List.drop_succ_cons, List.drop_zero, List.cons_append, List.nil_append]
    split
    · rfl
    · rw [← h]

theorem State.onCore_beginSeal (s : State) (d : DriveId) (r : SideRecord) (why : SealReason) :
    s.onCore (·.beginSeal d r why) = sealBegun s d (s.drives.get d) r why := by
  refine State.onCore_of (f := (·.beginSeal d r why)) rfl ?_
  unfold Core.beginSeal sealBegun
  simp only [Core.stageHead_eq, List.isEmpty_iff]
  split <;> rfl

/-! ### The turn, and what follows a commit (R66, R70) -/

theorem JobState.given_eq (st : JobState) : st.given = if st = .sending then .sending else .readingDirectory := by
  cases st <;> rfl

/-- The turn of the drive that takes turns. -/
theorem State.onCore_giveTurn (s : State) {d : DriveId} (h : s.toCore.turnDrive = some d) :
    s.onCore (giveTurn s.toFixed) = turnGiven s d := by
  unfold turnGiven State.onCore giveTurn
  rw [h]
  cases hs : (s.drives.get d).service with
  | nil =>
    simp only [Option.bind_some, Core.drv, hs, List.head?_nil]
    exact s.onCore_chooseAgain
  | cons id ids =>
    simp only [Option.bind_some, Core.drv, hs, List.head?_cons, JobState.given_eq]
    rfl

theorem State.onCore_giveTurn_none (s : State) (h : s.toCore.turnDrive = none) :
    s.onCore (giveTurn s.toFixed) = choosesAgain s := by
  rw [← s.onCore_chooseAgain]
  unfold State.onCore giveTurn
  rw [h]
  rfl

/-- Under its claim the engine takes turns on the drive of the claim. -/
theorem Core.turnDrive_claim {c : Core} {d : DriveId} (h : c.engine.claim = some d) : c.turnDrive = some d := by
  unfold Core.turnDrive
  rw [h]
  rfl

theorem State.onCore_afterCommit (s : State) {d : DriveId} {sd : Side} {r : SideRecord} (h : s.engine.claim = some d)
    (hr : s.toCore.sideRecord sd = some r) : s.onCore (afterCommit s.toFixed · sd) = commitFollowed s d r := by
  unfold commitFollowed
  split
  · next full =>
    refine State.onCore_of (c := s.toCore.beginFlush d r) ?_ rfl
    unfold afterCommit
    rw [if_pos (show Config.entriesPerSector ≤ s.toCore.dirbuf.length from full), h, hr]
  · next room =>
    rw [← s.onCore_giveTurn (Core.turnDrive_claim h)]
    exact State.onCore_of (if_neg room) rfl

/-! ### Completions for the engine (R24, R60) -/

/-- A state whose READ, WRITE or FIND BLANK on drive `d` has ended (R24). -/
def State.used (s : State) (d : DriveId) : State := { s with drives := s.drives.set d (afterUse s d) }

@[simp] theorem State.used_drive (s : State) (d : DriveId) : (s.used d).drives.get d = afterUse s d := by
  simp [State.used]

/-- A completion on the drive of the engine's claim leads to what the engine does, and what follows. -/
theorem engineDone_leads {ord : List Section} {user : OpUser} {kind : OpKind} {d : DriveId} {f : Fixed → Core → Core}
    {s u : State} (hd : s.resetDue = false) (hc : s.engine.claim = some d) (ho : InFlight s d kind user)
    (hk : kind.uses = true) (hu : (s.used d).onCore (f s.toFixed) = u) :
    ∃ t, event ord s (completion d (forEngine user d f)) = .next t ∧ ReachedThen t u := by
  obtain ⟨n, hn⟩ := ho
  refine completion_reached (c := f s.toFixed (s.used d).toCore) hd hn ?_ hu
  rw [endOp_use s d _ hn hk]
  unfold forEngine
  rw [if_pos rfl, if_pos hc]
  rfl

end Sys2Proof.Machine
end

section
/-! SUPPORT. The OPEN side from its selection to its seal (R7, R8, R12, R17): the choice of the side, the header fault, the end at
the seal write. -/

namespace Sys2Proof.Machine

/-! ### The choice of a side (R17) -/

/-- The largest of a list of numbers bounds them, and is one of them or 0. -/
theorem foldl_max_bounds (ns : List Nat) (a : Nat) :
    a ≤ ns.foldl max a ∧ (∀ n ∈ ns, n ≤ ns.foldl max a) ∧ (ns.foldl max a = a ∨ ns.foldl max a ∈ ns) := by
  induction ns generalizing a with
  | nil => simp
  | cons m ns ih =>
    obtain ⟨above, all, hit⟩ := ih (max a m)
    rw [List.foldl_cons]
    refine ⟨(Nat.le_max_left a m).trans above, ?_, ?_⟩
    · intro n hn
      rcases List.mem_cons.mp hn with rfl | hn
      · exact (Nat.le_max_right a n).trans above
      · exact all n hn
    · rcases hit with hit | hit
      · rw [hit]
        rcases Nat.le_total a m with h | h
        · exact .inr (by simp [Nat.max_eq_right h])
        · exact .inl (Nat.max_eq_left h)
      · exact .inr (List.mem_cons_of_mem m hit)

/-- A side record holds an open sequence (R17). -/
def Core.holdsSeq (c : Core) (n : Nat) : Prop := ∃ sd r, (sd, r) ∈ c.sides ∧ r.openSeq = some n

theorem Core.mem_seqs (c : Core) (n : Nat) : n ∈ c.sides.filterMap (fun p => p.2.openSeq) ↔ c.holdsSeq n := by
  simp [Core.holdsSeq, List.mem_filterMap]

theorem Core.le_highestSeq {c : Core} {n : Nat} (h : c.holdsSeq n) : n ≤ c.highestSeq :=
  (foldl_max_bounds _ 0).2.1 n ((c.mem_seqs n).mpr h)

theorem Core.highestSeq_held (c : Core) : c.highestSeq = 0 ∨ c.holdsSeq c.highestSeq :=
  (foldl_max_bounds _ 0).2.2.imp_right (c.mem_seqs _).mp

/-- The order of the slots, face A before face B. -/
def Side.before (a b : Side) : Prop := a.slot < b.slot ∨ (a.slot = b.slot ∧ a.face = .a ∧ b.face = .b)

/-- The sides of a core stand in ascending order. -/
theorem Core.sides_sorted (c : Core) : c.sides.Pairwise (fun p q => p.1.before q.1) := by
  have ofSlot {v : SlotId} {p : Side × SideRecord} (h : p ∈ (match c.vol v with
      | some x => [(⟨v, .a⟩, x.sideA), (⟨v, .b⟩, x.sideB)]
      | none => [] : List (Side × SideRecord))) : p.1.slot = v := by
    split at h
    · rcases List.mem_pair.mp h with rfl | rfl <;> rfl
    · cases h
  unfold Core.sides
  rw [List.pairwise_flatMap]
  constructor
  · intro v _
    split
    · exact List.pairwise_pair.mpr (.inr ⟨rfl, rfl, rfl⟩)
    · exact List.Pairwise.nil
  · refine (List.pairwise_lt_finRange 64).imp fun {a b} hab p hp q hq => .inl ?_
    rw [ofSlot hp, ofSlot hq]
    exact hab

/-- A side may be selected: it is BLANK, its volume is within reach and not being exported (R17, R157). -/
def Core.mayOpen (c : Core) (sd : Side) : Prop :=
  ∃ r loc, (sd, r) ∈ c.sides ∧ r.state = .blank ∧ c.location sd.slot = some loc ∧
    (loc = .home ∨ (∃ d f, loc = .inDrive d f) ∨ ∃ a b, loc = .inPicker a b) ∧ ∀ x, c.exportOp = some x → x.slot ≠ sd.slot

theorem Location.reachable_iff (loc : Location) :
    loc.offline = false ↔ loc = .home ∨ (∃ d f, loc = .inDrive d f) ∨ ∃ a b, loc = .inPicker a b := by
  cases loc <;> simp [Location.offline]

theorem Core.exportMarked_iff (c : Core) (v : SlotId) : c.exportMarked v = false ↔ ∀ x, c.exportOp = some x → x.slot ≠ v := by
  unfold Core.exportMarked
  cases c.exportOp <;> simp

theorem Core.mayOpen_iff (c : Core) (sd : Side) : c.mayOpen sd ↔ ∃ r, (sd, r) ∈ c.sides ∧ c.eligible (sd, r) = true := by
  have test (r : SideRecord) : c.eligible (sd, r) = true ↔ r.state = .blank ∧ ∃ loc, c.location sd.slot = some loc ∧
      loc.offline = false ∧ c.exportMarked sd.slot = false := by
    unfold Core.eligible
    cases c.location sd.slot <;> simp
  unfold Core.mayOpen
  simp only [test, ← Location.reachable_iff, ← Core.exportMarked_iff]
  constructor
  · rintro ⟨r, loc, hr, hb, hl, ho, hx⟩
    exact ⟨r, hr, hb, loc, hl, ho, hx⟩
  · rintro ⟨r, hr, hb, loc, hl, ho, hx⟩
    exact ⟨r, loc, hr, hb, hl, ho, hx⟩

/-- The selection takes the first side that may be opened, with the next open sequence (R17). -/
theorem Core.select_some {c : Core} {sel : Selection} (h : c.select = some sel) :
    c.highestSeq < 65535 ∧ sel.openSeq = c.highestSeq + 1 ∧ c.mayOpen sel.side ∧
      ∀ sd, c.mayOpen sd → sd = sel.side ∨ sel.side.before sd := by
  unfold Core.select at h
  split at h
  · next low =>
    obtain ⟨⟨sd, r⟩, hf, rfl⟩ := Option.map_eq_some_iff.mp h
    obtain ⟨he, before, after, hs, hb⟩ := List.find?_eq_some_iff_append.mp hf
    refine ⟨low, rfl, (c.mayOpen_iff sd).mpr ⟨r, List.mem_of_find?_eq_some hf, he⟩, fun sd' h' => ?_⟩
    obtain ⟨r', hr', he'⟩ := (c.mayOpen_iff sd').mp h'
    have sorted := c.sides_sorted
    rw [hs] at hr' sorted
    rcases List.mem_append.mp hr' with hr' | hr'
    · have := hb _ hr'
      rw [he'] at this
      cases this
    · rcases List.mem_cons.mp hr' with hr' | hr'
      · exact .inl (congrArg Prod.fst hr')
      · exact .inr ((List.pairwise_cons.mp (List.pairwise_append.mp sorted).2.1).1 _ hr')
  · cases h

theorem Core.select_none {c : Core} (h : c.select = none) : 65535 ≤ c.highestSeq ∨ ∀ sd, ¬c.mayOpen sd := by
  unfold Core.select at h
  split at h
  · refine .inr fun sd hsd => ?_
    obtain ⟨r, hr, he⟩ := (c.mayOpen_iff sd).mp hsd
    exact List.find?_eq_none.mp (Option.map_eq_none_iff.mp h) _ hr he
  · next high => exact .inl (Nat.le_of_not_lt high)

/-- With no side OPEN and the range table COMPLETE the Media Map may select (R17, R162). -/
theorem Core.selectSide_free {c : Core} (hr : c.rebuilding = false) (ho : c.openSide = none) : c.selectSide = c.select := by
  simp [Core.selectSide, hr, ho]

/-- With no side OPEN the engine, MOUNTING with no claim and no side selected, asks for a selection (R18, R61). -/
theorem engineStep_asks {e : Fixed} {c : Core} (ho : c.openSide = none) (hm : c.engine.state = .mounting)
    (hc : c.engine.claim = none) (hp : c.startPhase = .settled) (hs : c.selection = none) (ha : .noBlank ∉ c.alarms) :
    engineStep e c = some (askSelection e c) := by
  have filing : c.filingSide = none := by simp [Core.filingSide, ho]
  have unplaceable : c.placeable = false := by simp [Core.placeable, filing]
  have choice : choose e c ≠ .placeholder := by
    unfold choose
    rw [unplaceable]
    split
    · nofun
    · split <;> simp
  have side : c.engineSide = none := by simp [Core.engineSide, filing, hs]
  have unblocked : c.mountBlock = none := by simp [Core.mountBlock, side, ha]
  have settled : ¬c.startPhase ≠ .settled := by simp [hp]
  unfold engineStep
  simp only [hm]
  rw [if_neg settled]
  unfold mountingStep
  simp only [hc, unblocked, side]
  rw [if_neg (fun h => choice h.1)]

/-! ### Header fault and seal (R8, R12) -/

/-- A GOOD header WRITE opens the selected side (R7). -/
theorem headerWritten_good {e : Fixed} {c : Core} {d : DriveId} {sel : Selection} {p : PendingEntry} {ps : List PendingEntry}
    {r : SideRecord} (hs : c.selection = some sel) (hp : c.pendingList = p :: ps) (hr : c.sideRecord sel.side = some r) :
    headerWritten e c d .good = { c with
      volumes := putSide c.volumes sel.side (.opened sel.openSeq p.rn)
      drives := c.drives.set d { c.drives.get d with filingFlag := true }
      selection := none
      dirbuf := [] } := by
  unfold headerWritten
  simp only [hs, hp]
  rw [Core.onSide_put hr]
  rw [← hp]
  rfl

/-- One that is not GOOD ends the opening in a header fault (R8). -/
theorem headerWritten_failed {e : Fixed} {c : Core} {d : DriveId} {sel : Selection} {r : SideRecord}
    (hs : c.selection = some sel) (hr : c.sideRecord sel.side = some r) : headerWritten e c d .mediaError =
      (Core.evalSuspect { c with
        volumes := putSide c.volumes sel.side (.headerFault sel.openSeq)
        selection := none }).engineRelease e := by
  unfold headerWritten Core.faultHeader
  simp only [hs]
  rw [Core.onSide_put hr]

/-- The restart FIND BLANK has found the write pointer (R78). -/
theorem restartFound_eq {c : Core} {sd : Side} {r : SideRecord} (f : FindResult) (h : c.openSide = some (sd, r)) :
    restartFound c f = { c with
      volumes := putSide c.volumes sd (r.found f)
      engine := { c.engine with restartMark := false } } := by
  unfold restartFound
  rw [h]
  simp only
  rw [Core.onSide_put (Core.openSide_record h)]
  rfl

/-- All that the end of the OPEN side at its seal write does before the engine lets go of its claim (R12, R13, R69). -/
theorem Core.endSeal_eq {c : Core} {d : DriveId} {sd : Side} {r : SideRecord} {why : SealReason} (good : Bool)
    (ho : c.openSide = some (sd, r)) (hs : c.engine.sealing = some why) : c.endSeal d good =
      let volumes := putSide c.volumes sd (r.sealed why good)
      let y := if good = true ∧ why = .space then (c.alarms, c.links)
        else if Core.suspectStands { c with volumes := volumes } then alarmSet (c.alarms, c.links) .sideSuspect
        else alarmCleared (c.alarms, c.links) .sideSuspect
      { c with
        volumes := volumes
        alarms := y.1
        links := y.2
        drives := c.drives.set d { c.drives.get d with filingFlag := false }
        engine := { c.engine with
          sealing := none, restartSealMark := false, restartMark := false, flushRetryMark := false, attempts := 0 } } := by
  unfold Core.endSeal
  rw [ho, hs]
  simp only
  rw [Core.onSide_put (Core.openSide_record ho)]
  by_cases full : good = true ∧ why = .space
  · have : (r.sealed why good).state = .full := if_pos full
    rw [if_neg (by rw [this]; nofun), if_pos full]
    rfl
  · have : (r.sealed why good).state = .suspect := if_neg full
    rw [if_pos this, if_neg full, Core.evalSuspect_eq]
    rfl

end Sys2Proof.Machine

open Sys2Proof Sys2Proof.Machine

/-- Settles O54: the header and seal writes and the FIND BLANK by what they make of the OPEN side (`Core.faultHeader_eq`,
`Core.endSeal_eq`), the selection by the order of the sides (`Core.sides_sorted`). -/
theorem sideIsOpenedFoundAgainAndSealed : Obligations.SideIsOpenedFoundAgainAndSealed := by
  refine ⟨fun d s hd hc => ⟨fun a k bytes sel p ps hop hsel hpend hvol => ?_, fun lo hi sd rec f hop ho hlen => ?_⟩,
    fun d a k bytes why r sd rec s hd hop hwhy ho hc => ?_, fun s => ⟨fun sel hsel => ?_, fun hsel => ?_, ?_, ?_⟩⟩
  · obtain ⟨x, hx⟩ := Option.ne_none_iff_exists'.mp hvol
    have hrec : (s.used d).toCore.sideRecord sel.side = some (x.side sel.side.face) := congrArg (Option.map _) hx
    constructor
    · refine engineDone_leads (f := fun e c => headerWritten e c d .good) hd hc hop rfl (State.onCore_of ?_ rfl)
      rw [headerWritten_good (c := (s.used d).toCore) hsel hpend hrec]
      simp only [State.used, Four.set_set, Four.get_set_same]
      rfl
    · refine engineDone_leads (f := fun e c => headerWritten e c d .mediaError) hd hc hop rfl (State.onCore_of ?_ rfl)
      rw [headerWritten_failed (c := (s.used d).toCore) hsel hrec, Core.evalSuspect_eq, Core.engineRelease_eq s _ d]
      · simp only [State.used, Four.set_set, Four.get_set_same]
        rfl
      · exact hc
  · refine engineDone_leads (f := fun _ c => restartFound c f) hd hc hop rfl (State.onCore_of ?_ rfl)
    rw [restartFound_eq f (c := (s.used d).toCore) ho]
    simp only [SideRecord.found, unverifiedLength]
    rw [if_pos (by omega)]
    rfl
  · refine engineDone_leads (f := fun e c => sealWritten e c d r) hd hc hop rfl ?_
    rw [← State.onCore_chooseAgain]
    refine State.onCore_of (c := chooseAgain s.toFixed _) (congrArg (chooseAgain s.toFixed) ?_) rfl
    rw [Core.endSeal_eq (c := (s.used d).toCore) _ ho hwhy, Core.engineRelease_eq s _ d]
    · simp only [State.used, Four.set_set, Four.get_set_same, SideRecord.sealed, beq_iff_eq]
      rfl
    · exact hc
  · obtain ⟨low, seq, may, first⟩ := Core.select_some hsel
    refine ⟨may, first, fun n hn => ?_, ?_, ?_⟩
    · have := Core.le_highestSeq hn
      omega
    · rcases s.toCore.highestSeq_held with h | h
      · exact .inl (by omega)
      · exact .inr (by rw [seq]; exact h)
    · omega
  · refine (Core.select_none hsel).imp_left fun high => ?_
    rcases s.toCore.highestSeq_held with h | h
    · omega
    · exact ⟨_, h, high⟩
  · rintro ⟨hr, ho⟩ hm hc hp hs ha
    have asks := engineStep_asks (e := s.toFixed) ho hm hc hp hs ha
    refine ⟨fun sel hsel => ?_, fun hsel => ?_⟩
    · rw [asks, askSelection, Core.selectSide_free hr ho, hsel]
      simp only [Core.clearAlarm_eq, alarmCleared]
      rw [if_neg ha]
    · rw [asks, askSelection, Core.selectSide_free hr ho, hsel]
      simp only [Core.setAlarm_eq]
      let y := alarmSet (s.alarms, s.links) .noBlank
      exact congrArg (fun t => some t.toCore) (State.onCore_engineRest { s with alarms := y.1, links := y.2 } _)
  · rintro ⟨hr, ho⟩ ha sel hsel
    have found : s.toCore.selectSide = some sel := (Core.selectSide_free hr ho).trans hsel
    have stands : s.toCore.alarms.contains .noBlank = true := List.contains_iff_mem.mpr ha
    unfold reselectStep Core.reselect
    rw [if_pos (by rw [stands, ho, found]; rfl), if_pos stands, found]
    simp only [Core.clearAlarm_eq]

end

section
/-! SUPPORT. The four operations of a flush (R67, R68): the next of them, and the end with a copy verified or with neither. -/

namespace Sys2Proof.Machine

/-- A read-back compares equal where it gives the sector written (R67). -/
theorem compares_eq (c : Core) (r : ReadResult) : compares c r = (r == .good (directorySector c.dirbuf)) := by
  cases r with
  | good data => by_cases h : data = directorySector c.dirbuf <;> simp [compares, h]
  | _ => rfl

/-- The record of the buffer's end in a flush with a copy verified (R11, R67). -/
def State.flushedBuffer (s : State) (sd : Side) (r : SideRecord) : State :=
  let y := alarmCleared (s.alarms, s.links) .directoryFault
  { s with
    volumes := putSide s.volumes sd { r with flushed := r.flushed + 1 }
    dirbuf := []
    alarms := y.1
    links := y.2
    engine := { s.engine with flush := none, flushRetryMark := false } }

/-- The record of a flush whose copies both failed, before the engine rests (R58, R68). -/
def State.flushFailed (s : State) : State :=
  let y := alarmSet (s.alarms, s.links) .directoryFault
  { s with
    pendingList := s.toCore.stageHead.pendingList
    alarms := y.1
    links := y.2
    engine := { s.engine with flush := none, sealing := none } }

section
variable {s : State} {d : DriveId} {sd : Side} {r : SideRecord}

/-- What an end with a copy verified makes of the core is that of `flushedBuffer`. -/
theorem endFlush_verified (ho : s.toCore.openSide = some (sd, r)) : endFlush s.toFixed s.toCore d sd r true =
    match s.engine.sealing with
    | some why => (s.flushedBuffer sd r).toCore.writeSeal d { r with flushed := r.flushed + 1 } why
    | none => giveTurn s.toFixed (s.flushedBuffer sd r).toCore := by
  unfold endFlush
  rw [if_pos rfl]
  simp only
  rw [Core.onSide_put (Core.openSide_record ho), Core.clearAlarm_eq]
  rfl

/-- With a copy verified and no seal begun the first job has its turn (R70). -/
theorem endFlush_turn (ho : s.toCore.openSide = some (sd, r)) (hc : s.engine.claim = some d) (hs : s.engine.sealing = none) :
    s.onCore (endFlush s.toFixed · d sd r true) = turnGiven (s.flushedBuffer sd r) d := by
  have turn : (s.flushedBuffer sd r).toCore.turnDrive = some d := Core.turnDrive_claim hc
  rw [← State.onCore_giveTurn _ turn]
  refine State.onCore_of ((endFlush_verified ho).trans ?_) rfl
  rw [hs]
  rfl

/-- The partial flush of a seal is followed by the seal sector (R69). -/
theorem endFlush_seal {why : SealReason} (ho : s.toCore.openSide = some (sd, r)) (hs : s.engine.sealing = some why) :
    s.onCore (endFlush s.toFixed · d sd r true) =
      sealBeingWritten (s.flushedBuffer sd r) d (s.drives.get d) { r with flushed := r.flushed + 1 } why := by
  refine State.onCore_of ((endFlush_verified ho).trans ?_) rfl
  rw [hs]
  rfl

/-- With neither copy verified the engine is HALTED (R68). -/
theorem endFlush_failed : s.onCore (endFlush s.toFixed · d sd r false) = engineRests s.flushFailed .halted := by
  rw [← State.onCore_engineRest]
  refine State.onCore_of ?_ rfl
  unfold endFlush
  rw [if_neg nofun, Core.setAlarm_eq, Core.stageHead_eq]
  unfold State.flushFailed
  rw [Core.stageHead_eq]
  rfl

end

/-- A completion of a flush's operation leads to what `flushDone` makes of it, and what follows. -/
theorem flushDone_leads {s u : State} {d : DriveId} {kind : OpKind} {r : FlushResult} {c : Core} (hd : s.resetDue = false)
    (hc : s.engine.claim = some d) (ho : InFlight s d kind .engineFlush) (hk : kind.uses = true)
    (hf : flushDone s.toFixed (s.used d).toCore d r = some c) (hu : { s.used d with toCore := c } = u) :
    ∃ t, exec (.flushOperationComplete d r) s = .next t ∧ ReachedThen t u := by
  obtain ⟨n, hn⟩ := ho
  refine completion_reached (o := flushOrder) (f := takeFlush d r) hd hn ?_ hu
  rw [endOp_use s d _ hn hk]
  unfold takeFlush
  rw [if_pos rfl, if_pos hc]
  exact hf

end Sys2Proof.Machine

open Sys2Proof Sys2Proof.Machine

/-- Settles O55, by the step of the flush: each of the first three is followed by the next operation, and the end is
`endFlush_turn`, `endFlush_seal` or `endFlush_failed`. -/
theorem flushWritesBothCopies : Obligations.FlushWritesBothCopies := by
  intro d kind f sd rec s hd hc hop hk hf ho bytes a b leads next verified
  have hf' : (s.used d).toCore.engine.flush = some f := hf
  have ho' : (s.used d).toCore.openSide = some (sd, rec) := ho
  have goesOn {r : FlushResult} {step : FlushStep} {aOk : Bool} {k : OpKind}
      (h : flushDone s.toFixed (s.used d).toCore d r = some ((s.used d).toCore.flushNext d rec step aOk))
      (hn : { s.used d with toCore := (s.used d).toCore.flushNext d rec step aOk } = next step aOk k) :
      leads r (next step aOk k) := flushDone_leads hd hc hop hk h hn
  have started (k : OpKind) (step : FlushStep) (aOk : Bool) :
      ({ s.used d with
          toCore := ((s.used d).toCore.onEngine (fun g => { g with flush := some { step, aOk } })).issue d k .engineFlush } :
        State) = next step aOk k := by
    simp only [State.used, Core.issue, Core.onDrive, Core.onEngine, Four.set_set, Four.get_set_same]
    rfl
  refine ⟨fun hs => ⟨goesOn ?_ (started _ _ _), goesOn ?_ (started _ _ _)⟩, fun hs r => goesOn ?_ (started _ _ _),
    fun hs => goesOn ?_ (started _ _ _), fun r hr => ?_⟩
  · unfold flushDone
    simp only [hf', ho', hs]
  · unfold flushDone
    simp only [hf', ho', hs]
  · unfold flushDone
    simp only [hf', ho', hs, compares_eq]
    rfl
  · unfold flushDone
    simp only [hf', ho', hs]
  · intro ok
    have ends : flushDone s.toFixed (s.used d).toCore d r =
        some (endFlush s.toFixed (s.used d).toCore d sd rec (decide ok)) := by
      unfold flushDone
      rcases hr with ⟨hs, x, rfl⟩ | ⟨hs, rfl⟩
      · have hok : (f.aOk || x == .good bytes) = decide ok := by
          rw [Bool.eq_iff_iff]
          simp [ok]
        simp only [hf', ho', hs, compares_eq]
        rw [← hok]
        rfl
      · have hok : f.aOk = decide ok := by
          rw [Bool.eq_iff_iff]
          simp [ok]
        simp only [hf', ho', hs]
        rw [← hok]
    refine ⟨fun hok => ⟨fun hw => flushDone_leads hd hc hop hk ends ?_, fun why hw => flushDone_leads hd hc hop hk ends ?_⟩,
      fun hok => ?_⟩
    · rw [decide_eq_true hok]
      exact endFlush_turn (s := s.used d) ho' hc hw
    · rw [decide_eq_true hok]
      have sealing := endFlush_seal (s := s.used d) (d := d) ho' hw
      rw [State.used_drive] at sealing
      exact sealing
    · rw [decide_eq_false hok] at ends
      obtain ⟨t, ht, hu⟩ := flushDone_leads hd hc hop hk ends endFlush_failed
      have released : (engineRests (s.used d).flushFailed .halted).drives = s.drives.set d (unclaimed s (afterUse s d)) := by
        have held : (s.used d).flushFailed.engine.claim = some d := hc
        unfold engineRests
        rw [held]
        simp only [State.flushFailed, State.used, Four.set_set, Four.get_set_same]
        rfl
      exact ⟨t, _, ht, hu, rfl, rfl, released, rfl, rfl, rfl, rfl⟩

end

section
/-! SUPPORT. The head of the pending list (R57 to R66, R70, R72): an attempt to write it and its failure, its commit, and what the
engine does of itself before it. -/

namespace Sys2Proof.Machine

/-! ### An attempt to write the head (R62, R63, R65) -/

section
variable {s : State} {d : DriveId} {r : SideRecord} {p : PendingEntry} {ps : List PendingEntry}

/-- The head fits: its extent ends by the data limit, but for a placeholder, and the side holds room for an entry (R62). -/
theorem fitFails_false : fitFails r p = false ↔
    (p.state = .withdrawn ∨ r.writePtr + sectorsOf p.desc.size ≤ 310272) ∧ r.entryCount ≠ 16384 := by
  unfold fitFails
  rw [Bool.or_eq_false_iff, beq_eq_false_iff_ne, Bool.and_eq_false_iff, bne_eq_false_iff_eq, decide_eq_false_iff_not, Nat.not_lt]
  exact and_comm

/-- The WRITE of the head's extent, issued at the write pointer (R63). -/
def headWrite (r : SideRecord) (p : PendingEntry) : OpKind :=
  .write r.writePtr (sectorsOf p.desc.size) (padTo (1024 * sectorsOf p.desc.size) p.image)

/-- The state in which the head is being written on drive `d` (R63). -/
def headBeingWritten (s : State) (d : DriveId) (r : SideRecord) (p : PendingEntry) (ps : List PendingEntry) : State :=
  { s with
    pendingList := { p with state := .writing } :: ps
    engine := { s.engine with state := .writing }
    drives := s.drives.set d { s.drives.get d with op := issued (headWrite r p) .engineWrite } }

theorem Core.setHead_eq {c : Core} (h : c.pendingList = p :: ps) (st : PendingState) :
    c.setHead st = { c with pendingList := { p with state := st } :: ps } := by
  unfold Core.setHead
  rw [h]

theorem State.onCore_attempt (hp : s.pendingList = p :: ps) (hf : fitFails r p = false) :
    s.onCore (·.attempt d r p) = headBeingWritten s d r p ps := by
  refine State.onCore_of (c := _) ?_ rfl
  unfold Core.attempt
  rw [if_neg (by simp [hf]), Core.setHead_eq hp]
  rfl

theorem State.onCore_attempt_full (hf : fitFails r p = true) :
    s.onCore (·.attempt d r p) = sealBegun s d (s.drives.get d) r .space := by
  rw [← State.onCore_beginSeal]
  exact State.onCore_of (if_pos hf) rfl

/-- One more attempt is counted (R65). -/
def State.counted (s : State) : State := { s with engine := { s.engine with attempts := s.engine.attempts + 1 } }

/-- A failed attempt that is not the third is made again, or a seal for space begins; the third begins a seal for write failures
(R65). -/
theorem State.onCore_failAttempt_again (h : s.engine.attempts + 1 < 3) :
    s.onCore (·.failAttempt d r p) = s.counted.onCore (·.attempt d r p) := State.onCore_of (if_pos h) rfl

theorem State.onCore_failAttempt_third (h : 3 ≤ s.engine.attempts + 1) :
    s.onCore (·.failAttempt d r p) = sealBegun s.counted d (s.drives.get d) r .writeFailures := by
  refine Eq.trans ?_ (s.counted.onCore_beginSeal d r .writeFailures)
  exact State.onCore_of (if_neg (Nat.not_lt.mpr h)) rfl

end

/-! ### The commit (R66, R72) -/

/-- A side's record after it has been put there. -/
theorem Core.sideRecord_put {c c' : Core} {sd : Side} {r r' : SideRecord} (h : c.sideRecord sd = some r)
    (hc : c'.volumes = putSide c.volumes sd r') : c'.sideRecord sd = some r' := by
  obtain ⟨x, hx, -⟩ := Option.map_eq_some_iff.mp h
  have hx' : c.volumes[sd.slot] = some x := hx
  have put : c'.volumes[sd.slot] = some (x.setSide sd.face r') := by
    rw [hc]
    unfold putSide
    rw [hx']
    exact Vector.getElem_set_self _
  unfold Core.sideRecord Core.vol
  rw [put]
  cases sd.face <;> rfl

/-- The directory entry of a commit: that of its extent, or of a placeholder (R66, R72). -/
def committedEntry (p : PendingEntry) (start : Option Nat) : DirEntry := (start.map p.directoryEntry).getD p.placeholderEntry

/-- The head's entry in the buffer, the head off the list with its blocks (R66). -/
def Core.entered (c : Core) (p : PendingEntry) (ps : List PendingEntry) (start : Option Nat) : Core :=
  { c with
    dirbuf := c.dirbuf ++ [committedEntry p start]
    pendingList := ps
    blockMap := freeBlocks c.blockMap (p.blocks.getD []) }

/-- All that the commit event does (R66). -/
theorem Core.commit_eq {c : Core} {sd : Side} {r : SideRecord} {p : PendingEntry} {ps : List PendingEntry} (start : Option Nat)
    (hr : c.sideRecord sd = some r) (hp : c.pendingList = p :: ps) : c.commit sd p start =
      { c.entered p ps start with
        links := c.links.set p.link ((c.links.get p.link).deliver (.filed [{ rn := p.rn, side := sd, start }] false))
        volumes := putSide c.volumes sd (r.commit p.rn (committedEntry p start).sectors)
        engine := { c.engine with attempts := 0 } } := by
  have drop : c.pendingList.drop 1 = ps := by rw [hp]; rfl
  have split : c.commit sd p start =
      (((c.entered p (c.pendingList.drop 1) start).onSide sd (·.commit p.rn (committedEntry p start).sectors)).notify p.link
        (.filed [{ rn := p.rn, side := sd, start }] false)).onEngine (fun g => { g with attempts := 0 }) := by
    cases start <;> rfl
  rw [split, drop, Core.onSide_put (c := c.entered p ps start) hr]
  rfl

/-- A number received today joins the courtesy list (R66, R126). -/
theorem courtesyHandOver_eq (e : Fixed) (c : Core) (p : PendingEntry) : courtesyHandOver e c p = { c with
    courtesy := match e.counter with
      | some k => if p.day = k.day then c.courtesy.append p.rn k.day else c.courtesy
      | none => c.courtesy } := by
  unfold courtesyHandOver
  cases e.counter with
  | none => rfl
  | some k =>
    dsimp only
    split <;> rfl

/-- After a commit that leaves room in the buffer the turn follows, with a claim or without one (R70, R72). -/
theorem afterCommit_room {e : Fixed} {c : Core} {sd : Side} (h : c.dirbuf.length < 32) : afterCommit e c sd = giveTurn e c :=
  if_neg (Nat.not_le.mpr h)

/-- A buffer filled with no claim held leaves the engine MOUNTING (R72). -/
theorem afterCommit_unclaimed {e : Fixed} {c : Core} {sd : Side} (h : 32 ≤ c.dirbuf.length) (hc : c.engine.claim = none) :
    afterCommit e c sd = c.onEngine (fun g => { g with state := .mounting }) := by
  unfold afterCommit
  rw [if_pos (show Config.entriesPerSector ≤ c.dirbuf.length from h), hc]

/-! ### Completions on the head's extent (R63, R64) -/

section
variable {e : Fixed} {c : Core} {d : DriveId} {sd : Side} {r : SideRecord} {p : PendingEntry} {ps : List PendingEntry}
  (ho : c.openSide = some (sd, r)) (hp : c.pendingList = p :: ps)
include ho hp

theorem Core.openAndHead_eq : c.openAndHead = some (sd, r, p) := by
  unfold Core.openAndHead
  rw [ho, hp]

/-- The extent is written, and the verify read is issued (R63). -/
theorem instrumentWritten_good : instrumentWritten c d .good =
    let n := sectorsOf p.desc.size
    { c with
      volumes := putSide c.volumes sd (r.written n false)
      pendingList := { p with state := .verifying } :: ps
      engine := { c.engine with state := .verifying }
      drives := c.drives.set d { c.drives.get d with op := issued (.read r.writePtr n) .engineVerify } } := by
  unfold instrumentWritten
  rw [Core.openAndHead_eq ho hp]
  simp only
  rw [Core.onSide_put (Core.openSide_record ho), Core.setHead_eq (p := p) (ps := ps)]
  · rfl
  · exact hp

theorem instrumentWritten_failed : instrumentWritten c d .mediaError =
    let r' := r.written (sectorsOf p.desc.size) true
    Core.failAttempt { c with volumes := putSide c.volumes sd r' } d r' p := by
  unfold instrumentWritten
  rw [Core.openAndHead_eq ho hp]
  simp only
  rw [Core.onSide_put (Core.openSide_record ho)]

theorem extentVerified_rejected {x : ReadResult} (h : verifyAccepts p x = false) : extentVerified e c d x =
    let r' := r.rejected (sectorsOf p.desc.size)
    Core.failAttempt { c with volumes := putSide c.volumes sd r' } d r' p := by
  unfold extentVerified
  rw [Core.openAndHead_eq ho hp]
  simp only [h]
  rw [if_neg nofun, Core.onSide_put (Core.openSide_record ho)]

theorem extentVerified_accepted {x : ReadResult} (h : verifyAccepts p x = true) : extentVerified e c d x =
    let c1 := courtesyHandOver e (c.commit sd p (some (r.writePtr - sectorsOf p.desc.size))) p
    afterCommit e (c1.onEngine (fun g => { g with state := .committing })) sd := by
  unfold extentVerified
  rw [Core.openAndHead_eq ho hp]
  simp only [h]
  rfl

end

/-- A seal begun at a completion keeps the OPEN side's record as the completion has put it. -/
theorem sealBegun_used (s : State) (d : DriveId) (vs : Vector (Option Volume) 64) (r : SideRecord) (why : SealReason) :
    sealBegun { s.used d with volumes := vs } d (afterUse s d) r why =
      { sealBegun s d (afterUse s d) r why with volumes := vs } := by
  unfold sealBegun
  simp only
  split
  · next h =>
    rw [if_pos (show s.dirbuf = [] from h)]
    simp only [sealBeingWritten, State.used, Four.set_set]
  · next h =>
    rw [if_neg (show ¬s.dirbuf = [] from h)]
    simp only [flushBegun, State.used, Four.set_set]

end Sys2Proof.Machine
end

section
/-! SUPPORT. What the engine does of itself by its head (R59, R61, R62, R72): at rest, MOUNTING without a claim, and with its
claim on the OPEN side. -/

namespace Sys2Proof.Machine

section
variable {e : Fixed} {c : Core} {sd : Side} {r : SideRecord}

/-! ### The OPEN side as the engine has it -/

/-- With no inventory running the OPEN side is the engine's (R162). -/
theorem Core.filingSide_eq (hi : c.inventory = none) (ho : c.openSide = some (sd, r)) : c.filingSide = some (sd, r) := by
  unfold Core.filingSide
  rw [ho, hi]
  rfl

theorem Core.engineSide_eq (hf : c.filingSide = some (sd, r)) : c.engineSide = some sd := by
  unfold Core.engineSide
  rw [hf]

/-- An OPEN side that waits for the operator keeps the engine from mounting it (R61). -/
theorem Core.mountBlock_offline (hf : c.filingSide = some (sd, r)) (ho : c.offline sd.slot = true) :
    c.mountBlock = some .sideOffline := by
  unfold Core.mountBlock
  simp only [Core.engineSide_eq hf]
  exact if_pos ho

/-- One within reach and in no FAULTED drive may be mounted (R61, R75). -/
theorem Core.mountBlock_none (hf : c.filingSide = some (sd, r)) (ho : c.offline sd.slot = false)
    (hd : ∀ d f, c.location sd.slot = some (.inDrive d f) → (c.drives.get d).state ≠ .faulted) : c.mountBlock = none := by
  have sound : c.inFaultedDrive sd.slot = false := by
    unfold Core.inFaultedDrive
    split
    · next d f h => exact beq_eq_false_iff_ne.mpr (hd d f h)
    · rfl
  unfold Core.mountBlock
  simp only [Core.engineSide_eq hf, ho, sound]
  simp

/-! ### At rest (R59) -/

/-- What an IDLE engine goes to, with the mechanism started: the state its choice and what keeps it from mounting give. -/
theorem engineStep_idle (hi : c.engine.state = .idle) (hp : c.startPhase = .settled) : engineStep e c = restStep e c := by
  have settled : ¬c.startPhase ≠ .settled := by simp [hp]
  unfold engineStep
  simp only [hi]
  exact if_neg settled

theorem Core.stallStands_idle (hi : c.engine.state = .idle) : c.stallStands = false := by
  unfold Core.stallStands
  rw [hi]

theorem engineStep_stays (hi : c.engine.state = .idle) (hp : c.startPhase = .settled) (h : choose e c = .rest .idle) :
    engineStep e c = none := by
  rw [engineStep_idle hi hp]
  unfold restStep
  simp only [h]
  exact if_pos (.inr hi.symm)

theorem engineStep_stalls {why : StallReason} (hi : c.engine.state = .idle) (hp : c.startPhase = .settled)
    (h : choose e c = .rest (.stalled why) ∨ choose e c = .mounting ∧ c.mountBlock = some why) :
    engineStep e c = some (c.engineRest e (.stalled why)) := by
  have goes : ¬(c.stallStands = true ∨ EngineState.stalled why = c.engine.state) := by
    rw [Core.stallStands_idle hi, hi]
    simp
  rw [engineStep_idle hi hp]
  unfold restStep
  rcases h with h | ⟨h, hb⟩
  · simp only [h]
    exact if_neg goes
  · simp only [h, hb]
    exact if_neg goes

theorem engineStep_mounts (hi : c.engine.state = .idle) (hp : c.startPhase = .settled) (h : choose e c = .mounting)
    (hb : c.mountBlock = none) : engineStep e c = some (c.onEngine (fun g => { g with state := .mounting })) := by
  have goes : ¬(c.stallStands = true ∨ EngineState.mounting = c.engine.state) := by
    rw [Core.stallStands_idle hi, hi]
    simp
  rw [engineStep_idle hi hp]
  unfold restStep
  simp only [h, hb]
  exact if_neg goes

/-! ### MOUNTING (R61) -/

theorem engineStep_mounting (hm : c.engine.state = .mounting) (hp : c.startPhase = .settled) :
    engineStep e c = mountingStep e c := by
  have settled : ¬c.startPhase ≠ .settled := by simp [hp]
  unfold engineStep
  simp only [hm]
  exact if_neg settled

theorem Core.isRequester_false {q : Requester} (hr : ∀ x ∈ c.requests, x.who ≠ q) (hm : ∀ m ∈ c.mounts, q ∉ m.requesters) :
    c.isRequester q = false := by
  unfold Core.isRequester
  rw [Bool.or_eq_false_iff, List.any_eq_false, List.any_eq_false]
  exact ⟨fun x hx => by simpa using hr x hx, fun m h => by simpa using hm m h⟩

/-- With no claim and no request the engine asks for the OPEN side (R61). -/
theorem mountingStep_requests (hc : c.engine.claim = none) (hq : c.isRequester .engine = false)
    (hf : c.filingSide = some (sd, r)) (hb : c.mountBlock = none) (h : choose e c = .mounting) :
    mountingStep e c = some (c.request .engine sd) := by
  unfold mountingStep
  simp only [hc, h, hb, Core.engineSide_eq hf, hq]
  simp

/-- A WITHDRAWN head that needs no drive is committed at once (R72). -/
theorem mountingStep_places (hc : c.engine.claim = none) (hq : c.isRequester .engine = false) (h : choose e c = .placeholder) :
    mountingStep e c = some (placeholderCommit e c) := by
  unfold mountingStep
  simp only [hc]
  exact if_pos ⟨h, hq⟩

theorem placeholderCommit_eq {p : PendingEntry} {ps : List PendingEntry} (ho : c.openSide = some (sd, r))
    (hp : c.pendingList = p :: ps) : placeholderCommit e c = afterCommit e (c.commit sd p none) sd := by
  unfold placeholderCommit
  rw [ho, hp]

/-- No flush, restart seal or interrupted seal is due, and the buffer has room (R61, R72). -/
def Core.unmarked (c : Core) : Prop :=
  c.engine.flushRetryMark = false ∧ c.engine.restartSealMark = false ∧ c.engine.sealing = none ∧ c.dirbuf.length < 32

theorem Core.placeable_true (hf : c.filingSide = some (sd, r)) (hu : c.unmarked) (hn : r.entryCount < 16384) :
    c.placeable = true := by
  obtain ⟨flush, restart, sealing, room⟩ := hu
  unfold Core.placeable
  simp only [hf, flush, restart, sealing, Config.maxEntries, Config.entriesPerSector]
  simp [hn, room]

/-! ### With the claim held (R61, R62, R70) -/

theorem Core.unitUnderWay_false {d : DriveId} (h : ∀ id ids j, (c.drives.get d).service = id :: ids → c.job id = some j →
    j.state ≠ .readingDirectory ∧ j.state ≠ .sending) : c.unitUnderWay d = false := by
  unfold Core.unitUnderWay
  cases hh : c.head d with
  | none => rfl
  | some j =>
    unfold Core.head Core.drv at hh
    split at hh
    · cases hh
    · next id ids hs =>
      obtain ⟨reading, sending⟩ := h id ids j hs hh
      simp only
      cases hj : j.state <;> simp_all [JobState.reading]

/-- On its claim the engine serves the head where the OPEN side is loaded and nothing is due before it (R61). -/
theorem mountingStep_serves {d : DriveId} (hc : c.engine.claim = some d) (hop : (c.drives.get d).op = none)
    (hw : c.unitUnderWay d = false) (hl : (c.drives.get d).loaded = some sd) (hf : c.filingSide = some (sd, r))
    (hu : c.unmarked) (hr : c.engine.restartMark = false) : mountingStep e c = some (serveHead e c d sd r) := by
  obtain ⟨flush, restart, sealing, room⟩ := hu
  have served : serveOpen e c d sd r = serveHead e c d sd r := by
    unfold serveOpen
    simp only [flush, hr, restart, sealing, Config.entriesPerSector]
    simp only [Bool.false_eq_true, if_false]
    exact if_neg (Nat.not_le.mpr room)
  unfold mountingStep serveClaim
  simp only [hc]
  rw [if_neg (by simp [Core.drv, hop, hw]), if_neg (by simp [Core.drv, hl, Core.engineSide_eq hf])]
  simp only [hf]
  rw [served]

section
variable {d : DriveId} {p : PendingEntry} {ps : List PendingEntry}

theorem serveHead_staged (hp : c.pendingList = p :: ps) (hs : p.state = .staged) : serveHead e c d sd r = c.attempt d r p := by
  unfold serveHead
  simp only [hp, hs]

theorem serveHead_withdrawn (hp : c.pendingList = p :: ps) (hs : p.state = .withdrawn) : serveHead e c d sd r =
    if fitFails r p then c.beginSeal d r .space else afterCommit e (c.commit sd p none) sd := by
  unfold serveHead
  simp only [hp, hs]

end
end

/-! ### The filing drive (R70) -/

/-- The first filing drive takes the turn where the engine holds no claim. -/
theorem Core.turnDrive_filing {c : Core} {d : DriveId} (hc : c.engine.claim = none) (hd : (c.drives.get d).filingFlag = true)
    (hk : ∀ k, k < d → ¬(c.drives.get k).filingFlag = true) : c.turnDrive = some d := by
  unfold Core.turnDrive Core.findDrive Core.drv Four.indices
  rw [hc]
  fin_cases d <;> simp_all [Fin.forall_fin_succ]

theorem Core.turnDrive_none {c : Core} (hc : c.engine.claim = none) (hd : ∀ d, ¬(c.drives.get d).filingFlag = true) :
    c.turnDrive = none := by
  unfold Core.turnDrive Core.findDrive
  rw [hc]
  exact List.find?_eq_none.mpr fun d _ => hd d

end Sys2Proof.Machine
end

section
/-! SUPPORT. The statement of the head (R57 to R72): the failure of an attempt in its three cases, and a commit under a claim. -/

namespace Sys2Proof.Machine

/-- The state of the OPEN side's drive and record at the completion of an operation on the head's extent. -/
def State.onOpen (s : State) (d : DriveId) (sd : Side) (r : SideRecord) : State :=
  { s.used d with volumes := putSide s.volumes sd r }

section
variable {s : State} {d : DriveId} {sd : Side} {r : SideRecord} {p : PendingEntry} {ps : List PendingEntry}

/-- A failed attempt that is not the third, where the head still fits. -/
theorem failAttempt_again (hp : s.pendingList = p :: ps) (hn : s.engine.attempts + 1 < 3) (hf : fitFails r p = false) :
    (s.onOpen d sd r).onCore (·.failAttempt d r p) =
      { s with
        volumes := putSide s.volumes sd r
        pendingList := { p with state := .writing } :: ps
        engine := { s.engine with state := .writing, attempts := s.engine.attempts + 1 }
        drives := s.drives.set d { afterUse s d with op := issued (headWrite r p) .engineWrite } } := by
  rw [State.onCore_failAttempt_again (s := s.onOpen d sd r) hn, State.onCore_attempt (s := (s.onOpen d sd r).counted) hp hf]
  simp only [headBeingWritten, State.counted, State.onOpen, State.used, Four.set_set, Four.get_set_same]

/-- One where the head fits no longer, and the third: a seal begins. -/
theorem failAttempt_full (hn : s.engine.attempts + 1 < 3) (hf : fitFails r p = true) :
    (s.onOpen d sd r).onCore (·.failAttempt d r p) =
      { sealBegun s.counted d (afterUse s d) r .space with volumes := putSide s.volumes sd r } := by
  rw [State.onCore_failAttempt_again (s := s.onOpen d sd r) hn, State.onCore_attempt_full hf]
  simp only [State.counted, State.onOpen, State.used_drive]
  exact sealBegun_used s.counted d _ r .space

theorem failAttempt_third (hn : 3 ≤ s.engine.attempts + 1) :
    (s.onOpen d sd r).onCore (·.failAttempt d r p) =
      { sealBegun s.counted d (afterUse s d) r .writeFailures with volumes := putSide s.volumes sd r } := by
  rw [State.onCore_failAttempt_third (s := s.onOpen d sd r) hn]
  simp only [State.onOpen, State.used_drive]
  exact sealBegun_used s.counted d _ r .writeFailures

end
end Sys2Proof.Machine

open Sys2Proof Sys2Proof.Machine

/-- Settles O53: the completions on the head's extent by `instrumentWritten` and `extentVerified`, the engine's own steps by the
choice, the block of its mount and what is due before the head. -/
theorem headIsWrittenVerifiedAndCommitted : Obligations.HeadIsWrittenVerifiedAndCommitted := by
  refine ⟨fun d sd rec p ps s hd hc ho hp => ?_, fun s hphase hinv => ?_⟩
  · intro n x side leads passed counted again fails
    have ho' : (s.used d).toCore.openSide = some (sd, rec) := ho
    have hp' : (s.used d).toCore.pendingList = p :: ps := hp
    have failed {c : Instr} {r : SideRecord}
        (h : ∀ u, (s.onOpen d sd r).onCore (·.failAttempt d r p) = u → leads c u) : fails c r :=
      ⟨fun hn hfit => h _ (failAttempt_again hp hn (fitFails_false.mpr hfit)),
        fun hn hfit => h _ (failAttempt_full hn (Bool.eq_true_of_not_eq_false fun hf => hfit (fitFails_false.mp hf))),
        fun hn => h _ (failAttempt_third hn)⟩
    refine ⟨fun a k bytes hop => ⟨?_, failed fun u hu => ?_⟩, fun a k r hop => ⟨fun hv => failed fun u hu => ?_, fun hv => ?_⟩⟩
    · refine engineDone_leads (f := fun _ c => instrumentWritten c d .good) hd hc hop rfl (State.onCore_of ?_ rfl)
      rw [instrumentWritten_good ho' hp']
      simp only [State.used, Four.set_set, Four.get_set_same]
      rfl
    · refine engineDone_leads (f := fun _ c => instrumentWritten c d .mediaError) hd hc hop rfl (Eq.trans ?_ hu)
      exact State.onCore_of (instrumentWritten_failed ho' hp') rfl
    · refine engineDone_leads (f := fun e c => extentVerified e c d r) hd hc hop rfl (Eq.trans ?_ hu)
      exact State.onCore_of (extentVerified_rejected ho' hp' hv) rfl
    · intro start committed told
      refine engineDone_leads (f := fun e c => extentVerified e c d r) hd hc hop rfl ?_
      refine Eq.trans ?_ (State.onCore_afterCommit _ (sd := sd) ?_ ?_)
      · refine State.onCore_of (extentVerified_accepted ho' hp' hv) ?_
        rw [Core.commit_eq _ (Core.openSide_record ho') hp', courtesyHandOver_eq]
        rfl
      · exact hc
      · exact Core.sideRecord_put (Core.openSide_record ho) rfl
  · intro next whole
    have nextOf {c : Core} {u : State} (t : State) {f : Core → Core} (h : engineStep s.toFixed s.toCore = some c)
        (hc : c = f t.toCore) (hu : t.onCore f = u) : next u := by
      rw [← hu]
      exact h.trans (congrArg some hc)
    have unlost (hw : whole) : ¬(s.counter = none ∨ s.pendingValid = false) := by
      obtain ⟨hk, hv⟩ := hw
      simp [hk, hv]
    refine ⟨fun hi => ⟨fun hw => ?_, fun hw hp => ?_, fun hw p ps hp => ⟨fun ha => ?_,
        fun hs sd rec ho => ⟨fun off => ?_, fun on sound => ?_⟩⟩⟩,
      fun hm hw sd rec p ps ho hp => ?_⟩
    · refine nextOf s (engineStep_stalls hi hphase (.inl (choose_lost ?_))) rfl (s.onCore_engineRest _)
      by_contra hl
      rw [not_or, Bool.not_eq_false] at hl
      exact hw hl
    · exact engineStep_stays hi hphase (choose_empty (unlost hw) (congrArg (fun l => l.head?.map (·.state)) hp))
    · have head := Core.headState_cons (c := s.toCore) hp
      exact nextOf s (engineStep_stalls hi hphase (.inl (choose_awaiting (unlost hw) (ha ▸ head)))) rfl (s.onCore_engineRest _)
    · have mounts := choose_staged (c := s.toCore) (unlost hw) hp hs
      exact nextOf s (engineStep_stalls hi hphase (.inr ⟨mounts, Core.mountBlock_offline (Core.filingSide_eq hinv ho) off⟩)) rfl
        (s.onCore_engineRest _)
    · have mounts := choose_staged (c := s.toCore) (unlost hw) hp hs
      exact engineStep_mounts hi hphase mounts (Core.mountBlock_none (Core.filingSide_eq hinv ho) on sound)
    · intro n placed placeholder unmarked
      have filing := Core.filingSide_eq hinv ho
      have mounting {c : Core} (h : mountingStep s.toFixed s.toCore = some c) : engineStep s.toFixed s.toCore = some c :=
        (engineStep_mounting hm hphase).trans h
      have committed : s.toCore.commit sd p none = placeholder.toCore := by
        rw [Core.commit_eq none (Core.openSide_record ho) hp]
        rfl
      refine ⟨fun hc hq hn => ?_, fun d hc hop hl hj hu hr => ?_⟩
      · have free := Core.isRequester_false hq hn
        refine ⟨fun hs on sound => ?_, fun hs hu hn => ?_⟩
        · exact mounting (mountingStep_requests hc free filing (Core.mountBlock_none filing on sound)
            (choose_staged (unlost hw) hp hs))
        · have place : engineStep s.toFixed s.toCore = some (afterCommit s.toFixed placeholder.toCore sd) := by
            have head := Core.headState_cons (c := s.toCore) hp
            have placed : choose s.toFixed s.toCore = .placeholder := by
              rw [choose_withdrawn (unlost hw) (hs ▸ head), if_pos (Core.placeable_true filing hu hn)]
            rw [mounting (mountingStep_places hc free placed), placeholderCommit_eq ho hp, committed]
          have length : placeholder.dirbuf.length = s.dirbuf.length + 1 := List.length_append
          refine ⟨fun room => ⟨fun d hd hk => ?_, fun hd => ?_⟩, fun full => ?_⟩
          · exact nextOf placeholder place (afterCommit_room (length ▸ room))
              (placeholder.onCore_giveTurn (Core.turnDrive_filing (c := placeholder.toCore) hc hd hk))
          · exact nextOf placeholder place (afterCommit_room (length ▸ room))
              (placeholder.onCore_giveTurn_none (Core.turnDrive_none (c := placeholder.toCore) hc hd))
          · exact place.trans (congrArg some (afterCommit_unclaimed (length ▸ full) hc))
      · have serves := mounting (mountingStep_serves hc hop (Core.unitUnderWay_false hj) hl filing hu hr)
        refine ⟨fun hs => ?_, fun hs => ?_⟩
        · have fits : fitFails rec p = false ↔ rec.writePtr + n ≤ 310272 ∧ rec.entryCount ≠ 16384 := by
            rw [fitFails_false, hs]
            exact and_congr_left' (or_iff_right nofun)
          rw [serveHead_staged hp hs] at serves
          refine ⟨fun hf => ?_, fun hf => ?_⟩
          · exact nextOf s serves rfl (State.onCore_attempt hp (fits.mpr hf))
          · refine nextOf s serves rfl (State.onCore_attempt_full (Bool.eq_true_of_not_eq_false fun h => ?_))
            have := fits.mp h
            omega
        · have fits : fitFails rec p = false ↔ rec.entryCount ≠ 16384 := by
            rw [fitFails_false, hs]
            simp
          rw [serveHead_withdrawn hp hs, committed] at serves
          refine ⟨fun hf => ?_, fun hf => ?_⟩
          · rw [fits.mpr hf] at serves
            exact nextOf placeholder serves rfl
              (State.onCore_afterCommit placeholder hc (Core.sideRecord_put (Core.openSide_record ho) rfl))
          · rw [Bool.eq_true_of_not_eq_false fun h => fits.mp h hf] at serves
            exact nextOf s serves rfl (s.onCore_beginSeal d rec .space)

end

section
/-! SUPPORT. A cartridge in a drive (R3, R13, R23, R32) and the jobs that waited for it (R86): its unloading begins, its volume is
placed, and the jobs are placed again. -/

namespace Sys2Proof.Machine

/-! ### Its unloading (R32) -/

/-- A drive record whose unloading has begun by SPIN DOWN. -/
def Drive.unloadingNow (x : Drive) : Drive := { x with state := .unloading, idle := none, op := issued .spinDown .mechanism }

/-- On a READY drive with no operation in flight the unloading begins with SPIN DOWN. -/
theorem Core.beginUnload_ready {c : Core} {d : DriveId} (hs : (c.drives.get d).state = .ready) (ho : (c.drives.get d).op = none) :
    c.beginUnload d = { c with drives := c.drives.set d (c.drives.get d).unloadingNow } := by
  have quiet : (c.drives.get d).idleSpinDown = false := by
    unfold Drive.idleSpinDown
    rw [ho]
  have spinning : ¬(c.drives.get d).state = .spunDown := by
    rw [hs]
    nofun
  unfold Core.beginUnload Core.drv
  simp only [quiet]
  rw [if_neg nofun, if_neg spinning]
  unfold Core.issue Core.onDrive
  simp only [Four.set_set, Four.get_set_same]
  rfl

/-! ### Its volume (R3, R13, R23) -/

section
variable {c : Core} {v : SlotId} {l0 l : Location}

/-- A change to or from OUT evaluates SIDE_SUSPECT (R13). -/
theorem Core.setLoc_across (h : c.location v = some l0) (hx : ((l0 == .out) != (l == .out)) = true) :
    c.setLoc v l = Core.evalSuspect { c with volumes := relocated c.volumes v l } := by
  unfold Core.location Core.vol at h
  obtain ⟨x, hv, rfl⟩ := Option.map_eq_some_iff.mp h
  unfold Core.setLoc Core.vol relocated
  rw [hv]
  simp only
  rw [if_pos hx]
  rfl

theorem Core.sideRecord_relocated (c : Core) (v : SlotId) (l : Location) (sd : Side) :
    Core.sideRecord { c with volumes := relocated c.volumes v l } sd = c.sideRecord sd := by
  unfold Core.sideRecord Core.vol relocated
  by_cases h : sd.slot = v
  · subst h
    have : (c.volumes.set sd.slot (c.volumes[sd.slot].map (fun x => { x with loc := l })))[sd.slot] =
        c.volumes[sd.slot].map (fun x => { x with loc := l }) := Vector.getElem_set_self _
    simp only [this]
    cases c.volumes[sd.slot] with
    | none => rfl
    | some x => cases sd.face <;> rfl
  · have : (c.volumes.set v (c.volumes[v].map (fun x => { x with loc := l })))[sd.slot] = c.volumes[sd.slot] :=
      Vector.getElem_set_ne _ _ (fun e => h (Fin.ext e.symm))
    simp only [this]

theorem Core.isOpen_relocated (c : Core) (v : SlotId) (l : Location) (sd : Side) :
    Core.isOpen { c with volumes := relocated c.volumes v l } sd = c.isOpen sd := by
  unfold Core.isOpen
  rw [Core.sideRecord_relocated]

/-- A side OPEN after a change of locations was OPEN before. -/
theorem Core.openSide_relocated (h : c.openSide = none) (v : SlotId) (l : Location) :
    Core.openSide { c with volumes := relocated c.volumes v l } = none := by
  rw [Core.openSide_none, Core.noneOpen_iff] at h ⊢
  rintro ⟨sd, r⟩ hr
  have record {c : Core} {r : SideRecord} : (sd, r) ∈ c.sides ↔ c.sideRecord sd = some r := by
    rw [Core.mem_sides, Core.sideRecord, Option.map_eq_some_iff]
    exact exists_congr fun x => and_congr_right' eq_comm
  rw [record, Core.sideRecord_relocated] at hr
  exact h _ (record.mpr hr)

end

/-! ### The alarm of its sides -/

/-- NO_BLANK stands as it did before an evaluation of SIDE_SUSPECT. -/
theorem noBlank_evaluated (x : List Alarm × Four LinkUnit) (suspect : Bool) :
    .noBlank ∈ (if suspect then alarmSet x .sideSuspect else alarmCleared x .sideSuspect).1 ↔ .noBlank ∈ x.1 := by
  cases suspect with
  | true =>
    simp only [if_true, alarmSet]
    split
    · rfl
    · simp only [withAlarm, List.mem_append, List.mem_filter, List.mem_singleton]
      simp [Alarm.rank]
  | false =>
    simp only [Bool.false_eq_true, if_false, alarmCleared]
    split
    · simp [withoutAlarm]
    · rfl

end Sys2Proof.Machine
end

section
/-! SUPPORT. The jobs that waited for the operator are placed again (R85, R86), one after the other in the order of the queue. -/

namespace Sys2Proof.Machine

/-! ### One job -/

/-- Whether a job waits for the operator on a volume (R86). -/
def Job.waitsOn (v : SlotId) (j : Job) : Bool := decide (j.state = .waitOperator ∧ j.side.map (·.slot) = some v)

theorem waitingOn_eq (s : State) (v : SlotId) : waitingOn s v = s.queue.filter (Job.waitsOn v) := rfl

theorem Job.waitsOn_iff {v : SlotId} {j : Job} :
    j.waitsOn v = true ↔ j.state = .waitOperator ∧ ∃ sd, j.side = some sd ∧ sd.slot = v := by
  simp [Job.waitsOn]

/-- The jobs that wait on a volume, counted and listed. -/
theorem Core.waitingFor_eq (c : Core) (v : SlotId) : c.waitingFor v = (c.queue.filter (Job.waitsOn v)).length := by
  have test (j : Job) : (j.state == .waitOperator && j.side.map (·.slot) == some v) = j.waitsOn v := by
    rw [Bool.eq_iff_iff]
    simp [Job.waitsOn]
  simp only [Core.waitingFor, test]

/-- Once the job of an id waits no longer, the others are left (R86). -/
theorem waitsOn_filter_onJob (q : List Job) (id : JobId) (v : SlotId) (f : Job → Job) (hf : ∀ j, (f j).waitsOn v = false) :
    ((q.map (fun k => if k.id = id then f k else k)).filter (Job.waitsOn v)).length =
      ((q.filter (Job.waitsOn v)).filter (fun k => k.id ≠ id)).length := by
  induction q with
  | nil => rfl
  | cons k q ih =>
    simp only [List.map_cons, List.filter_cons]
    by_cases hk : k.id = id
    · rw [if_pos hk, hf k]
      cases k.waitsOn v <;> simp_all
    · rw [if_neg hk]
      cases k.waitsOn v <;> simp_all

/-- A job known by its id that waits for the operator on a volume no longer off-line is placed again. -/
theorem wakeJob_waiting {s : State} {j : Job} {sd : Side} (hj : s.toCore.job j.id = some j) (hst : j.state = .waitOperator)
    (hs : j.side = some sd) (hv : s.toCore.vol sd.slot ≠ none) (hon : s.toCore.offline sd.slot = false) :
    s.onCore (wakeJob s.toFixed · j.id) = placedAgain s j := by
  obtain ⟨x, hx⟩ := Option.ne_none_iff_exists'.mp hv
  have wakes : s.toCore.wakes j = true := by
    unfold Core.wakes
    rw [hs]
    simp only [hx, hst, hon]
    rfl
  let left := s.toCore.onJob j.id (fun k => { k with state := .queued })
  have count : left.waitingFor sd.slot = ((waitingOn s sd.slot).filter (fun k => k.id ≠ j.id)).length := by
    rw [Core.waitingFor_eq]
    exact waitsOn_filter_onJob s.queue j.id sd.slot _ (fun k => by simp [Job.waitsOn])
  have leaves : s.toCore.leaveOperator j = left.operatorNotice sd.slot := by
    unfold Core.leaveOperator
    rw [hst, hs]
  have placed : wakeJob s.toFixed s.toCore j.id =
      ((left.operatorNotice sd.slot).dropRequester (.job j.id)).placeJob j.id sd := by
    unfold wakeJob
    rw [hj]
    simp only
    rw [if_pos wakes, hs]
    simp only [leaves]
    exact if_neg (by rw [show Core.vol _ sd.slot = some x from hx]; nofun)
  have queue : left.queue.map (fun k => if k.id = j.id then { k with state := .waitMount } else k) =
      s.queue.map (fun k => if k.id = j.id then { k with state := .waitMount } else k) := by
    simp only [left, Core.onJob, List.map_map]
    refine List.map_congr_left fun k _ => ?_
    by_cases h : k.id = j.id <;> simp [h]
  have on : ((left.operatorNotice sd.slot).dropRequester (.job j.id)).offline sd.slot = false := hon
  refine State.onCore_of placed ?_
  unfold placedAgain Core.placeJob
  rw [hs, if_neg (by simp [on])]
  simp only [Core.operatorNotice, Core.notifyRole_eq, count, Core.dropRequester, Core.request, Core.onJob]
  rw [queue]
  rfl

/-! ### All of them -/

/-- The jobs of a list are known by their ids, and each waits for the operator on a volume or is not to be placed again. -/
def State.listed (s : State) (v : SlotId) (l : List Job) : Prop :=
  ∀ j ∈ l, s.toCore.job j.id = some j ∧ (j.waitsOn v = true ∨ s.toCore.wakes j = false)

/-- A change of the jobs of one id, but for their id, is not seen by those of another. -/
theorem find_onJob_other (q : List Job) {id k : JobId} (h : k ≠ id) (f : Job → Job) (hf : ∀ j, (f j).id = j.id) :
    (q.map (fun j => if j.id = id then f j else j)).find? (fun j => j.id == k) = q.find? (fun j => j.id == k) := by
  induction q with
  | nil => rfl
  | cons a q ih =>
    simp only [List.map_cons, List.find?_cons]
    by_cases ha : a.id = id
    · have other : (a.id == k) = false := by simpa [ha] using h.symm
      rw [if_pos ha, hf a, other]
      exact ih
    · rw [if_neg ha, ih]

/-- A job placed again leaves the others as they are, and what wakes them. -/
theorem placedAgain_keeps (s : State) (j : Job) :
    (∀ k : Job, k.id ≠ j.id → (placedAgain s j).toCore.job k.id = s.toCore.job k.id) ∧
      (∀ k, (placedAgain s j).toCore.wakes k = s.toCore.wakes k) ∧ (placedAgain s j).volumes = s.volumes ∧
      (∀ v, (placedAgain s j).toCore.offline v = s.toCore.offline v) ∧ (placedAgain s j).toFixed = s.toFixed ∧
      (placedAgain s j).alarms = s.alarms := by
  unfold placedAgain
  cases j.side with
  | none => exact ⟨fun _ _ => rfl, fun _ => rfl, rfl, fun _ => rfl, rfl, rfl⟩
  | some sd => exact ⟨fun k h => find_onJob_other _ h _ (fun _ => rfl), fun _ => rfl, rfl, fun _ => rfl, rfl, rfl⟩

/-- The jobs of a list that wait on a volume within reach are placed again, in its order; the others are passed over. -/
theorem foldl_wakeJob {v : SlotId} (l : List Job) : ∀ s : State, (l.map (·.id)).Nodup → s.listed v l →
    s.toCore.vol v ≠ none → s.toCore.offline v = false →
    s.onCore (fun c => l.foldl (fun c j => wakeJob s.toFixed c j.id) c) = (l.filter (Job.waitsOn v)).foldl placedAgain s := by
  induction l with
  | nil => intro s _ _ _ _; rfl
  | cons j l ih =>
    intro s hn hl hv hon
    rw [List.map_cons, List.nodup_cons] at hn
    obtain ⟨fresh, hn⟩ := hn
    obtain ⟨hj, hw⟩ := hl j (List.mem_cons_self ..)
    have rest : s.listed v l := fun k hk => hl k (List.mem_cons_of_mem j hk)
    rw [List.filter_cons]
    by_cases waits : j.waitsOn v = true
    · rw [if_pos waits, List.foldl_cons]
      obtain ⟨hst, sd, hs, hsd⟩ := Job.waitsOn_iff.mp waits
      subst hsd
      obtain ⟨jobs, wake, volumes, offline, fixed, -⟩ := placedAgain_keeps s j
      have others (k : Job) (hk : k ∈ l) : k.id ≠ j.id := fun h => fresh (h ▸ List.mem_map_of_mem hk)
      have step := wakeJob_waiting hj hst hs hv hon
      have listed : (placedAgain s j).listed sd.slot l := fun k hk =>
        let ⟨hk', hw'⟩ := rest k hk
        ⟨(jobs k (others k hk)).trans hk', hw'.imp_right (wake k).trans⟩
      have present : (placedAgain s j).toCore.vol sd.slot ≠ none := by
        unfold Core.vol
        rw [volumes]
        exact hv
      rw [← ih (placedAgain s j) hn listed present ((offline sd.slot).trans hon), ← step]
      rfl
    · have asleep := hw.resolve_left waits
      have stays : wakeJob s.toFixed s.toCore j.id = s.toCore := by
        unfold wakeJob
        rw [hj]
        exact if_neg (by rw [asleep]; nofun)
      rw [if_neg waits, ← ih s hn rest hv hon]
      exact State.onCore_of (congrArg (fun c => l.foldl (fun c j => wakeJob s.toFixed c j.id) c) stays) rfl

/-- In a queue in bounds each job is known by its id (R80). -/
theorem job_of_mem {q : List Job} (hn : (q.map (·.id)).Nodup) {j : Job} (hj : j ∈ q) :
    q.find? (fun k => k.id == j.id) = some j := by
  induction q with
  | nil => cases hj
  | cons a q ih =>
    rw [List.map_cons, List.nodup_cons] at hn
    obtain ⟨fresh, hn⟩ := hn
    rw [List.find?_cons]
    rcases List.mem_cons.mp hj with rfl | hj
    · simp
    · have other : (a.id == j.id) = false := by
        refine beq_eq_false_iff_ne.mpr fun h => fresh ?_
        rw [h]
        exact List.mem_map_of_mem hj
      rw [other]
      exact ih hn hj

/-- The jobs that waited on a volume are placed again where no other is to be (R85, R86). -/
theorem onCore_wakeJobs {s : State} {v : SlotId} (hn : (s.queue.map (·.id)).Nodup)
    (hw : ∀ j ∈ s.queue, j ∉ waitingOn s v → s.toCore.wakes j = false) (hv : s.toCore.vol v ≠ none)
    (hon : s.toCore.offline v = false) : s.onCore (wakeJobs s.toFixed) = (waitingOn s v).foldl placedAgain s := by
  refine foldl_wakeJob s.queue s hn (fun j hj => ⟨job_of_mem hn hj, ?_⟩) hv hon
  by_cases waits : j.waitsOn v = true
  · exact .inl waits
  · exact .inr (hw j hj fun h => waits (List.mem_filter.mp h).2)

/-- With no job to be placed again nothing changes. -/
theorem wakeJobs_none {e : Fixed} {c : Core} (h : ∀ j ∈ c.queue, c.wakes j = false) : wakeJobs e c = c := by
  have asleep (id : JobId) : wakeJob e c id = c := by
    unfold wakeJob
    cases hj : c.job id with
    | none => rfl
    | some j => exact if_neg (by rw [h j (List.mem_of_find?_eq_some hj)]; nofun)
  unfold wakeJobs
  induction c.queue with
  | nil => rfl
  | cons j q ih => rw [List.foldl_cons, asleep, ih]

end Sys2Proof.Machine
end

section
/-! SUPPORT. An import's cartridge (R151 to R154): its judgement, its place in the drive, and its course. -/

namespace Sys2Proof.Machine

/-! ### The judgement (R151) -/

/-- Only a blank cartridge is enrolled, in the lowest vacant slot (R151, R153). -/
theorem Core.judge_enrolled {c : Core} {label : Label} {a : HeaderRead} {b : Option HeaderRead} {v : SlotId}
    (h : c.judge label a b = some (.enrolled v)) : c.lowestVacant = some v := by
  have notByHeader (f : Face) (hd : Header) : c.judgeByHeader f hd ≠ .enrolled v := by
    unfold Core.judgeByHeader
    split <;> nofun
  unfold Core.judge at h
  split at h
  · exact absurd (Option.some.inj h) (notByHeader _ _)
  · cases h
  · exact absurd (Option.some.inj h) (notByHeader _ _)
  · replace h := Option.some.inj h
    unfold Core.judgeBlank at h
    split at h
    · cases h
    · split at h
      · cases h
      · split at h
        · next w hw =>
          cases h
          exact hw
        · cases h
  · cases h

theorem Core.lowestVacant_some {c : Core} {v : SlotId} (h : c.lowestVacant = some v) :
    c.vol v = none ∧ ∀ w, w < v → c.vol w ≠ none := by
  obtain ⟨hv, before, after, hs, hb⟩ := List.find?_eq_some_iff_append.mp h
  refine ⟨Option.isNone_iff_eq_none.mp hv, fun w hw => ?_⟩
  have sorted : allSlots.Pairwise (· < ·) := List.pairwise_lt_finRange 64
  have hmem : w ∈ allSlots := List.mem_finRange w
  rw [hs] at sorted hmem
  rcases List.mem_append.mp hmem with hmem | hmem
  · exact Option.isSome_iff_ne_none.mp (by simpa using hb w hmem)
  · rcases List.mem_cons.mp hmem with rfl | hmem
    · exact absurd hw (lt_irrefl _)
    · exact absurd hw (lt_asymm ((List.pairwise_cons.mp (List.pairwise_append.mp sorted).2.1).1 w hmem))

/-- A header read of an import that is judged is carried out (R151). -/
theorem importRead_judged {e : Fixed} {c : Core} {op : ImportOp} {d : DriveId} {r : ReadResult} {j : Judgement}
    (h : (if op.phase = .readingB then c.judge op.label op.faceA (some (headerRead (some .b) r))
      else c.judge op.label (headerRead (some .a) r) none) = some j) : importRead e c op d r = importJudged e c op d j := by
  unfold importRead
  split at h
  · next hb => rw [if_pos hb, h]
  · next ha =>
    rw [if_neg ha]
    simp only [h]

/-- An import's unloading begins (R151, R154). -/
theorem importUnloads {c : Core} {op : ImportOp} {d : DriveId} (hi : c.importOp = some op) (hr : (c.drives.get d).state = .ready)
    (ho : (c.drives.get d).op = none) (f : ImportOp → ImportOp) : (c.onImport f).beginUnload d =
      { c with importOp := some (f op), drives := c.drives.set d (c.drives.get d).unloadingNow } := by
  have unloads := Core.beginUnload_ready (c := c.onImport f) hr ho
  rw [unloads]
  unfold Core.onImport
  rw [hi]
  rfl

/-- Face A without a readable header is followed by the turn to face B (R151). -/
theorem importRead_turns {e : Fixed} {c : Core} {op : ImportOp} {d : DriveId} {r : ReadResult} (hp : op.phase ≠ .readingB)
    (hr : ∀ h, headerRead (some .a) r ≠ .header h) : importRead e c op d r =
      (c.onImport (fun o => { o with phase := .turning, faceA := headerRead (some .a) r })).beginUnload d := by
  have undecided : c.judge op.label (headerRead (some .a) r) none = none := by
    unfold Core.judge
    cases ha : headerRead (some .a) r with
    | header h => exact absurd ha (hr h)
    | blank | unreadable => rfl
  unfold importRead
  rw [if_neg hp]
  simp only [undecided]

/-! ### Its place in the drive (R152, R153) -/

section
variable {c : Core} {d : DriveId} {v : SlotId} {f : Face}

theorem Core.seat_eq (c : Core) (d : DriveId) (sd : Side) :
    c.seat d sd = { c with drives := c.drives.set d (seated (c.drives.get d) sd (c.isOpen sd)) } := rfl

/-- A volume that was OUT stands in the drive, and SIDE_SUSPECT is evaluated (R13, R152). -/
theorem Core.place_out (hf : (c.drives.get d).presented = some f) (h : c.location v = some .out) :
    let volumes := relocated c.volumes v (.inDrive d f)
    let y := if Core.suspectStands { c with volumes := volumes } then alarmSet (c.alarms, c.links) .sideSuspect
      else alarmCleared (c.alarms, c.links) .sideSuspect
    c.place d v = { c with
      volumes := volumes
      alarms := y.1
      links := y.2
      drives := c.drives.set d (seated (c.drives.get d) ⟨v, f⟩ (c.isOpen ⟨v, f⟩)) } := by
  intro volumes y
  have face : (c.drv d).face = f := congrArg (·.getD .a) hf
  have flag : (Core.evalSuspect { c with volumes := volumes }).isOpen ⟨v, f⟩ = c.isOpen ⟨v, f⟩ := by
    rw [Core.evalSuspect_eq]
    exact c.isOpen_relocated v _ _
  unfold Core.place
  simp only [face]
  rw [Core.setLoc_across h rfl, Core.seat_eq, flag, Core.evalSuspect_eq]

/-- A volume that was not OUT stands in the drive (R160). -/
theorem Core.place_inside {l : Location} (hf : (c.drives.get d).presented = some f) (h : c.location v = some l) (hl : l ≠ .out) :
    c.place d v = { c with
      volumes := relocated c.volumes v (.inDrive d f)
      drives := c.drives.set d (seated (c.drives.get d) ⟨v, f⟩ (c.isOpen ⟨v, f⟩)) } := by
  have face : (c.drv d).face = f := congrArg (·.getD .a) hf
  unfold Core.place
  simp only [face]
  rw [Core.setLoc_inside c v l (.inDrive d f) h hl nofun, Core.seat_eq, c.isOpen_relocated v]

/-- A blank cartridge enrolled in a vacant slot stands in the drive (R153). -/
theorem Core.place_enrolled {x : Volume} (hf : (c.drives.get d).presented = some f) (h : c.vol v = none)
    (hx : x.loc = .unknown) (hs : ∀ f, (x.side f).state ≠ .opened) : (c.setVol v (some x)).place d v = { c with
      volumes := c.volumes.set v (some { x with loc := .inDrive d f })
      drives := c.drives.set d (seated (c.drives.get d) ⟨v, f⟩ (c.isOpen ⟨v, f⟩)) } := by
  have set : (c.volumes.set v (some x))[v] = some x := Vector.getElem_set_self _
  have loc : (c.setVol v (some x)).location v = some .unknown := by
    unfold Core.location Core.vol Core.setVol
    simp only [set, Option.map_some, hx]
  have moved : relocated (c.volumes.set v (some x)) v (.inDrive d f) =
      c.volumes.set v (some { x with loc := .inDrive d f }) := by
    unfold relocated
    rw [set]
    exact Vector.set_set ..
  have closed : (c.setVol v (some x)).isOpen ⟨v, f⟩ = c.isOpen ⟨v, f⟩ := by
    have vacant : c.isOpen ⟨v, f⟩ = false := by
      unfold Core.isOpen Core.sideRecord
      simp only [h]
      rfl
    rw [vacant]
    unfold Core.isOpen Core.sideRecord Core.vol Core.setVol
    simp only [set, Option.map_some]
    simpa using hs f
  rw [Core.place_inside (c := c.setVol v (some x)) hf loc (by simp), closed,
    show (c.setVol v (some x)).volumes = c.volumes.set v (some x) from rfl, moved]
  rfl

end

/-! ### Its course (R154) -/

/-- A volume stays where a job waits for it, or where NO_BLANK stands and it has a BLANK side. -/
theorem Core.stays_iff (c : Core) (v : SlotId) : c.stays v = true ↔ c.queue.filter (Job.waitsOn v) ≠ [] ∨
    .noBlank ∈ c.alarms ∧ ∃ z, c.volumes[v] = some z ∧ (z.sideA.state = .blank ∨ z.sideB.state = .blank) := by
  unfold Core.stays
  rw [Core.waitingFor_eq, Bool.or_eq_true, decide_eq_true_eq, List.length_pos_iff, Bool.and_eq_true, List.contains_iff_mem]
  refine or_congr_right (and_congr_right' ?_)
  unfold Core.vol
  cases c.volumes[v] <;> simp

/-- The end of an import whose volume stays: its binding and its mount operation end (R154). -/
def State.importEnded (s : State) (d : DriveId) : State :=
  let x := s.drives.get d
  { s with
    importOp := none
    mounts := s.mounts.filter (fun k => k.target ≠ .importing)
    drives := s.drives.set d { x with bound := none, idle := if x.claims = 0 then some s.settings.idle else x.idle } }

/-- An IMPORT is answered (R154). -/
def State.importAnswered (s : State) (op : ImportOp) (outcome : MediaOutcome) (v : SlotId) : State :=
  { s with links := answered s.links op.by_ (.media outcome (some v)) }

section
variable {s : State} {op : ImportOp} {d : DriveId} {v : SlotId} {outcome : MediaOutcome}

/-- It goes home where it does not stay. -/
theorem importCourse_home (hi : s.importOp = some op) (hr : (s.drives.get d).state = .ready) (ho : (s.drives.get d).op = none)
    (hs : s.toCore.stays v = false) : s.onCore (importCourse s.toFixed · op d v outcome) =
      { s with
        importOp := some { op with phase := .goingHome v outcome }
        drives := s.drives.set d (s.drives.get d).unloadingNow } := by
  refine State.onCore_of ?_ rfl
  exact (if_neg (by rw [hs]; nofun)).trans (importUnloads hi hr ho _)

theorem unbind_importing (hr : (s.drives.get d).state = .ready) :
    { s.toCore.unbindReady s.toFixed d .importing with importOp := none } = (s.importEnded d).toCore := by
  have held (m : MountOp) : (!m.target.heldBy .importing) = decide (m.target ≠ .importing) := by
    cases m.target <;> rfl
  unfold Core.unbindReady Core.startIdle Core.endBoundMount Core.onDrive State.importEnded
  simp only [held, Four.set_set, Four.get_set_same, hr, true_and]
  congr 2
  split <;> rfl

theorem Core.reselect_none {c : Core} (h : .noBlank ∉ c.alarms) : c.reselect = c :=
  if_neg (by simpa using h)

/-- While NO_BLANK stands a selection that finds a side clears it (R18). -/
theorem Core.reselect_some {c : Core} {sel : Selection} (h : .noBlank ∈ c.alarms) (hs : c.selectSide = some sel) :
    c.reselect =
      let w := alarmCleared (c.alarms, c.links) .noBlank
      { c with selection := some sel, alarms := w.1, links := w.2 } := by
  unfold Core.reselect
  rw [if_pos (List.contains_iff_mem.mpr h), hs]
  exact Core.clearAlarm_eq _ _

/-- A volume that stays ends the import: the waiting jobs, the selection, the answer. -/
theorem importCourse_stays {c : Core} (hr : (s.drives.get d).state = .ready) (hs : s.toCore.stays v = true)
    (hc : (wakeJobs s.toFixed (s.importEnded d).toCore).reselect = c) :
    s.onCore (importCourse s.toFixed · op d v outcome) = State.importAnswered { s with toCore := c } op outcome v := by
  refine State.onCore_of (c := c.mediaDone op.by_ outcome (some v)) ?_ ?_
  · unfold importCourse
    rw [if_pos hs, unbind_importing hr, hc]
  · rw [Core.mediaDone_told]
    rfl

/-- The jobs that waited are placed again. -/
theorem importCourse_wakes (hr : (s.drives.get d).state = .ready) (hs : s.toCore.stays v = true)
    (hn : (s.queue.map (·.id)).Nodup)
    (hw : ∀ j ∈ s.queue, j ∉ waitingOn s v → (s.importEnded d).toCore.wakes j = false) (hv : s.toCore.vol v ≠ none)
    (hon : s.toCore.offline v = false) (hb : .noBlank ∉ s.alarms) :
    s.onCore (importCourse s.toFixed · op d v outcome) =
      ((waitingOn s v).foldl placedAgain (s.importEnded d)).importAnswered op outcome v := by
  have woken := onCore_wakeJobs (s := s.importEnded d) hn hw hv hon
  have alarms (l : List Job) (t : State) : (l.foldl placedAgain t).alarms = t.alarms := by
    induction l generalizing t with
    | nil => rfl
    | cons j l ih => exact (ih _).trans (placedAgain_keeps t j).2.2.2.2.2
  have cores := congrArg State.toCore woken
  have unblocked : .noBlank ∉ (wakeJobs s.toFixed (s.importEnded d).toCore).alarms := by
    rw [show wakeJobs s.toFixed (s.importEnded d).toCore = _ from cores, alarms]
    exact hb
  rw [importCourse_stays hr hs (Core.reselect_none unblocked)]
  exact congrArg (State.importAnswered · op outcome v) woken

/-- The selection is made. -/
theorem importCourse_selects {sel : Selection} (hr : (s.drives.get d).state = .ready) (hs : s.toCore.stays v = true)
    (hw : ∀ j ∈ s.queue, (s.importEnded d).toCore.wakes j = false) (hb : .noBlank ∈ s.alarms)
    (hsel : (s.importEnded d).toCore.selectSide = some sel) :
    s.onCore (importCourse s.toFixed · op d v outcome) =
      let w := alarmCleared (s.alarms, s.links) .noBlank
      State.importAnswered { s.importEnded d with selection := some sel, alarms := w.1, links := w.2 } op outcome v := by
  refine importCourse_stays hr hs ?_
  rw [wakeJobs_none (c := (s.importEnded d).toCore) hw]
  exact Core.reselect_some (c := (s.importEnded d).toCore) hb hsel

/-- One rejected goes back to the mailslot (R151). -/
theorem importJudged_rejected (hi : s.importOp = some op) (hr : (s.drives.get d).state = .ready)
    (ho : (s.drives.get d).op = none) : s.onCore (importJudged s.toFixed · op d (.rejected outcome)) =
      { s with
        importOp := some { op with phase := .settingBack outcome }
        drives := s.drives.set d (s.drives.get d).unloadingNow } :=
  State.onCore_of (importUnloads hi hr ho _) rfl

end

/-- A completed header READ of an import leads to what `importRead` makes of it, and what follows. -/
theorem importDone_leads {s u : State} {d : DriveId} {a k : Nat} {op : ImportOp} {r : ReadResult} (hd : s.resetDue = false)
    (ho : InFlight s d (.read a k) .importRead) (hi : s.importOp = some op)
    (hu : (s.used d).onCore (importRead s.toFixed · op d r) = u) :
    ∃ t, exec (.importHeaderReadComplete d r) s = .next t ∧ ReachedThen t u := by
  obtain ⟨n, hn⟩ := ho
  refine completion_reached (o := updateOrder) (f := takeImportRead d r)
    (c := importRead s.toFixed (s.used d).toCore op d r) hd hn ?_ hu
  rw [endOp_use s d _ hn rfl]
  unfold takeImportRead
  rw [if_pos rfl, hi]
  rfl

end Sys2Proof.Machine
end

section
/-! SUPPORT. Inventory's reading of a face (R160, R161): the next operation, the end of the face, the judgement of a lost record's
cartridge. -/

namespace Sys2Proof.Machine

/-! ### The next operation (R161) -/

/-- The operation of a scan's step, and its user. -/
def Scan.operation (s : Scan) : OpKind × OpUser :=
  match s.step with
  | .header => (.read 0 1, .inventoryRead)
  | .sealSector => (.read 1 1, .inventoryRead)
  | .writePointer => (.findBlank 2 310271, .inventoryFind)
  | .findA => (.findBlank 310272 310783, .inventoryFind)
  | .findB => (.findBlank 310784 311295, .inventoryFind)
  | .directory => (.read ((if s.copyB then 310784 else 310272) + s.sector) 1, .inventoryRead)

section
variable {s : State} {d : DriveId} {i : Inventory} {rd : Reading}

/-- The state in which a scan goes on with its next operation. -/
def State.scans (s : State) (d : DriveId) (i : Inventory) (rd : Reading) (sc : Scan) : State :=
  { s with
    inventory := some { i with reading := some { rd with phase := .scanning, scan := sc } }
    drives := s.drives.set d { s.drives.get d with op := issued sc.operation.1 sc.operation.2 } }

theorem Core.onReading_eq {c : Core} (hi : c.inventory = some i) (hr : i.reading = some rd) (f : Reading → Reading) :
    c.onReading f = { c with inventory := some { i with reading := some (f rd) } } := by
  unfold Core.onReading Core.onInventory
  rw [hi]
  simp only [Option.map_some, hr]

theorem Core.issueScan_eq (hi : s.inventory = some i) (hr : i.reading = some rd) (sc : Scan) :
    s.toCore.issueScan d sc = (s.scans d i rd sc).toCore := by
  unfold Core.issueScan State.scans Scan.operation
  rw [Core.onReading_eq hi hr]
  cases sc.step <;> rfl

end

/-! ### The header, a directory sector, a FIND BLANK (R161) -/

section
variable {e : Fixed} {c : Core} {i : Inventory} {rd : Reading} {d : DriveId} {f : Face} {r : ReadResult}

/-- The read of a header whose face is known to be presented. -/
theorem scanHeader_face (hp : (c.drives.get d).presented = some f) :
    c.onDrive d (fun x => { x with presented := some f }) = c := by
  have same (x : Drive) (hx : x.presented = some f) : { x with presented := some f } = x := by
    rw [← hx]
  simp only [Core.onDrive]
  rw [same _ hp, Four.set_get_self]

theorem scanHeader_blank (hp : (c.drives.get d).presented = some f) (hr : headerRead (some f) r = .blank) :
    scanHeader e c i rd d r = faceDone e c i rd d Scan.fresh := by
  unfold scanHeader Core.drv
  simp only [hp, hr]
  rw [scanHeader_face hp]
  rfl

theorem scanHeader_unreadable (hp : (c.drives.get d).presented = some f) (hr : headerRead (some f) r = .unreadable) :
    scanHeader e c i rd d r = c.issueScan d { Scan.fresh with step := .writePointer, header := .unreadable } := by
  unfold scanHeader Core.drv
  simp only [hp, hr]
  rw [scanHeader_face hp]

theorem scanHeader_readable {h : Header} (hp : (c.drives.get d).presented = some f)
    (hr : headerRead (some f) r = .header h) :
    scanHeader e c i rd d r = c.issueScan d { Scan.fresh with step := .sealSector, header := .header h } := by
  unfold scanHeader Core.drv
  simp only [hp, hr]
  rw [scanHeader_face hp]

theorem scanNext_more {sc : Scan} (h : sc.sector < sc.flushed) :
    scanNext e c i rd d sc = c.issueScan d { sc with step := .directory, copyB := false } := if_pos h

/-- Between two directory sectors the step stays. -/
theorem scanNext_again {sc : Scan} (h : sc.sector < sc.flushed) (hs : sc.step = .directory) :
    scanNext e c i rd d sc = c.issueScan d { sc with copyB := false } := by
  rw [scanNext_more h, ← hs]

theorem scanNext_last {sc : Scan} (h : sc.flushed ≤ sc.sector) : scanNext e c i rd d sc = faceDone e c i rd d sc :=
  if_neg (Nat.not_lt.mpr h)

/-- A directory sector that cannot be read in copy A is read from copy B; one that can be read in neither is passed over. -/
theorem scanSector_copyA (hr : r = .mediaError ∨ r = .blank) (hb : rd.scan.copyB = false) :
    scanSector e c i rd d r = c.issueScan d { rd.scan with copyB := true } := by
  unfold scanSector
  rcases hr with rfl | rfl <;> exact if_neg (by rw [hb]; nofun)

theorem scanSector_copyB (hr : r = .mediaError ∨ r = .blank) (hb : rd.scan.copyB = true) : scanSector e c i rd d r =
    scanNext e c i rd d { rd.scan with sector := rd.scan.sector + 1, lastEntries := 32, badSector := true } := by
  unfold scanSector
  rcases hr with rfl | rfl <;> exact if_pos hb

end

section
variable {e : Fixed} {c : Core} {i : Inventory} {rd : Reading} {d : DriveId} {r : ReadResult} {x : FindResult}

/-- What a READ gives to the scan, by its step. -/
theorem inventoryRead_header (hs : rd.scan.step = .header) : inventoryRead e c i rd d r = some (scanHeader e c i rd d r) := by
  unfold inventoryRead
  rw [hs]

theorem inventoryRead_seal (hs : rd.scan.step = .sealSector) : inventoryRead e c i rd d r =
    some (c.issueScan d { rd.scan with step := .writePointer, sealRead := sealRead r }) := by
  unfold inventoryRead
  rw [hs]

theorem inventoryRead_directory (hs : rd.scan.step = .directory) :
    inventoryRead e c i rd d r = some (scanSector e c i rd d r) := by
  unfold inventoryRead
  rw [hs]

/-- The write pointer that a FIND BLANK gives: the sector found, or the data limit (R161). -/
def pointerFound (x : FindResult) : Nat :=
  match x with
  | .good a => a
  | .none => 310272

/-- What a FIND BLANK gives to the scan, by its step. -/
theorem inventoryFind_pointer (hs : rd.scan.step = .writePointer) (hh : rd.scan.header ≠ .unreadable) :
    inventoryFind e c i rd d x = some (c.issueScan d { rd.scan with step := .findA, writePtr := pointerFound x }) := by
  unfold inventoryFind
  simp only [hs]
  rw [if_neg hh]
  rfl

theorem inventoryFind_unreadable (hs : rd.scan.step = .writePointer) (hh : rd.scan.header = .unreadable) :
    inventoryFind e c i rd d x = some (faceDone e c i rd d { rd.scan with writePtr := pointerFound x }) := by
  have ends : inventoryFind e c i rd d x =
      some (if rd.scan.header = .unreadable then faceDone e c i rd d { rd.scan with writePtr := pointerFound x }
        else c.issueScan d { rd.scan with step := .findA, writePtr := pointerFound x }) := by
    unfold inventoryFind
    simp only [hs]
    rfl
  rw [ends, if_pos hh]

theorem inventoryFind_copyA (hs : rd.scan.step = .findA) : inventoryFind e c i rd d x =
    some (c.issueScan d { rd.scan with step := .findB, flushedA := positionIn 310272 x }) := by
  unfold inventoryFind
  simp only [hs]
  rfl

theorem inventoryFind_copyB (hs : rd.scan.step = .findB) : inventoryFind e c i rd d x = some (scanNext e c i rd d
    { rd.scan with flushed := max rd.scan.flushedA (positionIn 310784 x), sector := 0 }) := by
  unfold inventoryFind
  simp only [hs]
  rfl

end

/-! ### The end of the face (R159, R160) -/

section
variable {s : State} {d : DriveId} {i : Inventory} {rd : Reading} {f : Face}

/-- The record of a face that has been read. -/
def Scan.result (sc : Scan) : FaceResult := { header := sc.header, record := sc.record, unsealed := sc.unsealed }

/-- What is known of face A, and of face B, once the face presented has been read. -/
def Reading.knownA (rd : Reading) (f : Face) (sc : Scan) : Option FaceResult := if f = .a then some sc.result else rd.faceA
def Reading.knownB (rd : Reading) (f : Face) (sc : Scan) : Option FaceResult := if f = .b then some sc.result else rd.faceB

/-- The reading of the cartridge with the face presented read, in a phase. -/
def Reading.after (rd : Reading) (f : Face) (sc : Scan) (phase : ReadingPhase) : Reading :=
  { rd with phase, scan := sc, faceA := rd.knownA f sc, faceB := rd.knownB f sc }

/-- The state in which the cartridge, its reading and the counts known, is being unloaded. -/
def State.unloadsReading (s : State) (d : DriveId) (i : Inventory) (rd : Reading) : State :=
  { s with
    inventory := some { i with reading := some rd }
    drives := s.drives.set d (s.drives.get d).unloadingNow }

/-- A reading changes and the unloading of its drive begins. -/
theorem reading_unloads (hi : s.inventory = some i) (hr : i.reading = some rd) (hs : (s.drives.get d).state = .ready)
    (ho : (s.drives.get d).op = none) (g : Reading → Reading) :
    (s.toCore.onReading g).beginUnload d = (s.unloadsReading d i (g rd)).toCore := by
  have unloads := Core.beginUnload_ready (c := s.toCore.onReading g) hs ho
  rw [unloads, Core.onReading_eq hi hr]
  rfl

/-- The state in which the face presented has been read. -/
def State.faceRead (s : State) (i : Inventory) (rd : Reading) (f : Face) (sc : Scan) : State :=
  { s with inventory := some { i with reading := some (rd.after f sc rd.phase) } }

section
variable (hi : s.inventory = some i) (hr : i.reading = some rd) (hp : (s.drives.get d).presented = some f)
include hi hr hp

/-- With both faces read the cartridge is judged; with one it is turned (R159, R160, R161). -/
theorem faceDone_both {sc : Scan} {ra rb : FaceResult} (ha : rd.knownA f sc = some ra) (hb : rd.knownB f sc = some rb) :
    faceDone s.toFixed s.toCore i rd d sc = judgeCartridge s.toFixed (s.faceRead i rd f sc).toCore i rd d ra rb := by
  have face : (s.toCore.drv d).face = f := congrArg (·.getD .a) hp
  unfold faceDone
  simp only [face]
  rw [Core.onReading_eq hi hr]
  split
  · next ra' rb' ha' hb' =>
    cases ha.symm.trans ha'
    cases hb.symm.trans hb'
    rfl
  · next h => exact absurd hb (h ra rb ha)

theorem faceDone_one {sc : Scan} (hx : (if f = .a then rd.faceB else rd.faceA) = none) :
    faceDone s.toFixed s.toCore i rd d sc =
      ((s.faceRead i rd f sc).toCore.onReading (fun r => { r with phase := .turning })).beginUnload d := by
  have face : (s.toCore.drv d).face = f := congrArg (·.getD .a) hp
  unfold faceDone
  simp only [face]
  rw [Core.onReading_eq hi hr]
  split
  · next ra rb ha hb =>
    cases f with
    | a => exact nomatch hx.symm.trans hb
    | b => exact nomatch hx.symm.trans ha
  · rfl

/-- The cartridge in the slot of a lost record is judged by its headers (R160). -/
theorem faceDone_lost {sc : Scan} {v : SlotId} {z : Volume} {ra rb : FaceResult} (ha : rd.knownA f sc = some ra)
    (hb : rd.knownB f sc = some rb) (hv : rd.slot = some v) (hz : s.toCore.vol v = some z) (hu : z.loc = .unknown)
    (hl : z.label ≠ none) : faceDone s.toFixed s.toCore i rd d sc =
      if agrees z .a ra.header && agrees z .b rb.header then
        inventoryCourse s.toFixed ((s.faceRead i rd f sc).toCore.placeLost d v) d v
      else ((s.faceRead i rd f sc).toCore.makeOut v).setOut d := by
  have hz' : (s.faceRead i rd f sc).toCore.vol v = some z := hz
  have lost : (s.faceRead i rd f sc).toCore.lostRecord v = true := by
    unfold Core.lostRecord
    rw [hz']
    simp [hu, Option.isSome_iff_ne_none.mpr hl]
  rw [faceDone_both hi hr hp ha hb]
  unfold judgeCartridge judgeSlot
  rw [hv]
  simp only
  rw [if_pos lost, hz']

end

/-- With the other face not read the cartridge is turned (R161). -/
theorem faceDone_turns {sc : Scan} (hi : s.inventory = some i) (hr : i.reading = some rd)
    (hp : (s.drives.get d).presented = some f) (hs : (s.drives.get d).state = .ready) (ho : (s.drives.get d).op = none)
    (hx : (if f = .a then rd.faceB else rd.faceA) = none) :
    faceDone s.toFixed s.toCore i rd d sc = (s.unloadsReading d i (rd.after f sc .turning)).toCore := by
  rw [faceDone_one hi hr hp hx]
  exact reading_unloads (s := s.faceRead i rd f sc) rfl rfl hs ho (fun r => { r with phase := .turning })

/-- The volume of a lost record that is placed, and does not stay, goes home (R160). -/
theorem placeLost_home {v : SlotId} {z : Volume} (hi : s.inventory = some i) (hr : i.reading = some rd)
    (hp : (s.drives.get d).presented = some f) (hs : (s.drives.get d).state = .ready) (ho : (s.drives.get d).op = none)
    (hz : s.toCore.vol v = some z) (hu : z.loc = .unknown) (hw : waitingOn s v = []) (hn : .noBlank ∉ s.alarms) :
    inventoryCourse s.toFixed (s.toCore.placeLost d v) d v =
      (State.unloadsReading
        { s with
          volumes := relocated s.volumes v (.inDrive d f)
          drives := s.drives.set d (seated (s.drives.get d) ⟨v, f⟩ (s.toCore.isOpen ⟨v, f⟩)) }
        d { i with counts := { i.counts with placed := i.counts.placed + 1 } }
        { rd with phase := .goingHome v }).toCore := by
  have loc : s.toCore.location v = some .unknown := by
    unfold Core.location
    rw [hz]
    exact congrArg some hu
  let t : State := { s with
    volumes := relocated s.volumes v (.inDrive d f)
    drives := s.drives.set d (seated (s.drives.get d) ⟨v, f⟩ (s.toCore.isOpen ⟨v, f⟩))
    inventory := some { i with counts := { i.counts with placed := i.counts.placed + 1 } } }
  have placed : s.toCore.placeLost d v = t.toCore := by
    unfold Core.placeLost Core.onInventory
    rw [Core.place_inside hp loc nofun]
    simp only [hi]
    rfl
  have leaves : ¬t.toCore.stays v = true := by
    rw [Core.stays_iff, not_or]
    exact ⟨fun h => h hw, fun h => hn h.1⟩
  have drive : t.drives.get d = seated (s.drives.get d) ⟨v, f⟩ (s.toCore.isOpen ⟨v, f⟩) := Four.get_set_same ..
  rw [placed]
  refine (if_neg leaves).trans ?_
  exact reading_unloads (s := t) rfl hr (by rw [drive]; exact hs) (by rw [drive]; exact ho) _

/-- One whose cartridge is not its own is OUT, and the cartridge is set out (R160). -/
theorem makeOut_setOut {v : SlotId} {z : Volume} (hi : s.inventory = some i) (hr : i.reading = some rd)
    (hs : (s.drives.get d).state = .ready) (ho : (s.drives.get d).op = none)
    (hz : s.toCore.vol v = some z) (hu : z.loc = .unknown) :
    let volumes := relocated s.volumes v .out
    let y := if Core.suspectStands { s.toCore with volumes := volumes } then alarmSet (s.alarms, s.links) .sideSuspect
      else alarmCleared (s.alarms, s.links) .sideSuspect
    (s.toCore.makeOut v).setOut d =
      (State.unloadsReading { s with volumes := volumes, alarms := y.1, links := y.2 } d
        { i with counts := { i.counts with madeOut := i.counts.madeOut + 1 } } { rd with phase := .settingOut }).toCore := by
  intro volumes y
  have loc : s.toCore.location v = some .unknown := by
    unfold Core.location
    rw [hz]
    exact congrArg some hu
  let t : State := { s with
    volumes := volumes
    alarms := y.1
    links := y.2
    inventory := some { i with counts := { i.counts with madeOut := i.counts.madeOut + 1 } } }
  have out : s.toCore.makeOut v = t.toCore := by
    unfold Core.makeOut Core.onInventory
    rw [Core.setLoc_across loc rfl, Core.evalSuspect_eq]
    simp only [hi]
    rfl
  rw [out]
  exact reading_unloads (s := t) rfl hr hs ho _

end

/-! ### Completions for inventory (R24, R161) -/

/-- A completion of inventory's operation is taken with the reading it belongs to. -/
theorem forScan_taken {user : OpUser} {f : Inventory → Reading → Option Core} {c : Core} {o : DriveOp} {i : Inventory}
    {rd : Reading} (hu : o.user = user) (hi : c.inventory = some i) (hr : i.reading = some rd) :
    forScan user f c o = f i rd := by
  unfold forScan
  rw [if_pos hu, hi]
  simp only [hr, Option.bind_some]

section
variable {s u : State} {d : DriveId} {kind : OpKind} {i : Inventory} {rd : Reading} {c : Core}

/-- A READ of inventory leads to what `inventoryRead` makes of it, and what follows. -/
theorem inventoryRead_leads {r : ReadResult} (hd : s.resetDue = false) (ho : InFlight s d kind .inventoryRead)
    (hk : kind.uses = true) (hi : s.inventory = some i) (hr : i.reading = some rd)
    (hf : inventoryRead s.toFixed (s.used d).toCore i rd d r = some c) (hu : { s.used d with toCore := c } = u) :
    ∃ t, exec (.inventoryReadComplete d r) s = .next t ∧ ReachedThen t u := by
  obtain ⟨n, hn⟩ := ho
  refine completion_reached (o := updateOrder)
    (f := fun e c o => forScan .inventoryRead (fun i rd => inventoryRead e c i rd d r) c o) hd hn ?_ hu
  rw [endOp_use s d _ hn hk]
  exact (forScan_taken (c := (s.used d).toCore) rfl hi hr).trans hf

/-- A FIND BLANK of inventory leads to what `inventoryFind` makes of it, and what follows. -/
theorem inventoryFind_leads {x : FindResult} (hd : s.resetDue = false) (ho : InFlight s d kind .inventoryFind)
    (hk : kind.uses = true) (hi : s.inventory = some i) (hr : i.reading = some rd)
    (hf : inventoryFind s.toFixed (s.used d).toCore i rd d x = some c) (hu : { s.used d with toCore := c } = u) :
    ∃ t, exec (.inventoryFindBlankComplete d x) s = .next t ∧ ReachedThen t u := by
  obtain ⟨n, hn⟩ := ho
  refine completion_reached (o := updateOrder)
    (f := fun e c o => forScan .inventoryFind (fun i rd => inventoryFind e c i rd d x) c o) hd hn ?_ hu
  rw [endOp_use s d _ hn hk]
  exact (forScan_taken (c := (s.used d).toCore) rfl hi hr).trans hf

end
end Sys2Proof.Machine
end

section
/-! SUPPORT. The end of an inventory (R162): the open sequences of sides whose header was unreadable, the buffer counted into a
rebuilt OPEN side, and what the work that follows keeps. -/

namespace Sys2Proof.Machine

/-! ### Open sequences (R162 step 1) -/

/-- A side that is there has its record. -/
theorem Core.mem_sides_record (c : Core) (sd : Side) (r : SideRecord) : (sd, r) ∈ c.sides ↔ c.sideRecord sd = some r := by
  rw [Core.mem_sides, Core.sideRecord, Option.map_eq_some_iff]
  exact exists_congr fun x => and_congr_right' eq_comm

/-- A record whose header was unreadable: neither BLANK nor with an open sequence (R162). -/
def SideRecord.lacksSeq (r : SideRecord) : Bool := decide (r.state ≠ .blank ∧ r.openSeq = none)

/-- A side record put in place is the only one that changes. -/
theorem Core.sideRecord_put_other {c : Core} {sd sd' : Side} {r r' : SideRecord} (h : c.sideRecord sd = some r) (hne : sd' ≠ sd) :
    Core.sideRecord { c with volumes := putSide c.volumes sd r' } sd' = c.sideRecord sd' := by
  obtain ⟨x, hx, -⟩ := Option.map_eq_some_iff.mp h
  obtain ⟨v, f⟩ := sd
  obtain ⟨v', f'⟩ := sd'
  have hx' : c.volumes[v] = some x := hx
  have opened : putSide c.volumes ⟨v, f⟩ r' = c.volumes.set v (some (x.setSide f r')) := by
    unfold putSide
    rw [hx']
    rfl
  unfold Core.sideRecord Core.vol
  rw [opened]
  by_cases hs : v' = v
  · subst hs
    have put : (c.volumes.set v' (some (x.setSide f r')))[v'] = some (x.setSide f r') := Vector.getElem_set_self _
    have otherFace : (x.setSide f r').side f' = x.side f' := by
      cases f with
      | a => cases f' with
        | a => exact absurd rfl hne
        | b => rfl
      | b => cases f' with
        | a => rfl
        | b => exact absurd rfl hne
    simp only [put, hx', Option.map_some, otherFace]
  · have kept : (c.volumes.set v (some (x.setSide f r')))[v'] = c.volumes[v'] :=
      Vector.getElem_set_ne _ _ (fun e => hs (Fin.ext e.symm))
    simp only [kept]

/-- The highest open sequence is the one held that none exceeds. -/
theorem Core.highestSeq_eq {c : Core} {n : Nat} (held : c.holdsSeq n) (top : ∀ m, c.holdsSeq m → m ≤ n) : c.highestSeq = n := by
  have below := Core.le_highestSeq held
  rcases c.highestSeq_held with h | h
  · omega
  · exact le_antisymm (top _ h) below

/-- A side without its open sequence receives the next one (R162 step 1). -/
theorem Core.giveSeq_lacking {c : Core} {sd : Side} {r : SideRecord} (h : c.sideRecord sd = some r) (hl : r.lacksSeq)
    (hn : c.highestSeq < 65535) : c.giveSeq sd =
      { c with volumes := putSide c.volumes sd { r with openSeq := some (c.highestSeq + 1) } } := by
  unfold Core.giveSeq
  rw [h]
  simp only
  rw [if_pos (show r.state ≠ .blank ∧ r.openSeq = none from of_decide_eq_true hl), Core.onSide_put h,
    if_pos (show c.highestSeq < Config.maxOpenSeq from hn)]

theorem Core.giveSeq_other {c : Core} {sd : Side} (h : ∀ r, c.sideRecord sd = some r → ¬r.lacksSeq) : c.giveSeq sd = c := by
  unfold Core.giveSeq
  cases hr : c.sideRecord sd with
  | none => rfl
  | some r => exact if_neg fun hl => h r hr (decide_eq_true hl)

/-- Whatever it gives, it changes the record of that side alone, and there only the open sequence. -/
theorem Core.giveSeq_cases (c : Core) (sd : Side) : c.giveSeq sd = c ∨
    ∃ r n, c.sideRecord sd = some r ∧ r.lacksSeq ∧
      c.giveSeq sd = { c with volumes := putSide c.volumes sd { r with openSeq := some n } } := by
  cases hr : c.sideRecord sd with
  | none => exact .inl (Core.giveSeq_other (fun r h => nomatch hr.symm.trans h))
  | some r =>
    by_cases hl : r.lacksSeq
    · let n := if c.highestSeq < Config.maxOpenSeq then c.highestSeq + 1 else Config.openSeqAfterLast
      refine .inr ⟨r, n, rfl, hl, ?_⟩
      unfold Core.giveSeq
      rw [hr]
      simp only
      rw [if_pos (show r.state ≠ .blank ∧ r.openSeq = none from of_decide_eq_true hl), Core.onSide_put hr]
    · refine .inl (Core.giveSeq_other fun r' h => ?_)
      cases hr.symm.trans h
      exact hl

/-- With a side's open sequence given, the highest is one more. -/
theorem Core.highestSeq_given {c : Core} {sd : Side} {r : SideRecord} (h : c.sideRecord sd = some r) :
    Core.highestSeq { c with volumes := putSide c.volumes sd { r with openSeq := some (c.highestSeq + 1) } } =
      c.highestSeq + 1 := by
  have own : Core.sideRecord { c with volumes := putSide c.volumes sd { r with openSeq := some (c.highestSeq + 1) } } sd =
      some { r with openSeq := some (c.highestSeq + 1) } := Core.sideRecord_put h rfl
  refine Core.highestSeq_eq ⟨sd, _, (Core.mem_sides_record _ _ _).mpr own, rfl⟩ ?_
  rintro m ⟨sd', r', hm, hs⟩
  rw [Core.mem_sides_record] at hm
  by_cases he : sd' = sd
  · subst he
    cases own.symm.trans hm
    cases hs
    exact le_rfl
  · rw [Core.sideRecord_put_other h he] at hm
    exact (Core.le_highestSeq ⟨sd', r', (Core.mem_sides_record _ _ _).mpr hm, hs⟩).trans (Nat.le_succ _)

/-! ### All of them, in the order of the sides -/

/-- The records of the sides of a list that are there. -/
def Core.recordsOf (c : Core) (l : List Side) : List (Side × SideRecord) :=
  l.filterMap (fun sd => (c.sideRecord sd).map (fun r => (sd, r)))

theorem Core.sides_eq (c : Core) : c.sides = c.recordsOf allSides := by
  unfold Core.sides Core.recordsOf allSides
  rw [List.filterMap_flatMap]
  refine List.flatMap_congr fun v _ => ?_
  unfold Core.sideRecord
  cases h : c.vol v with
  | none => simp [h]
  | some x => simp [h, Volume.side]

theorem allSides_nodup : allSides.Nodup := by
  unfold allSides
  rw [List.nodup_flatMap]
  refine ⟨fun v _ => by simp, (List.nodup_finRange 64).imp fun {v w} h => ?_⟩
  simpa [Function.onFun] using Ne.symm h

theorem Core.recordsOf_cons (c : Core) (a : Side) (l : List Side) :
    c.recordsOf (a :: l) = ((c.sideRecord a).map (fun r => (a, r))).toList ++ c.recordsOf l := by
  unfold Core.recordsOf
  rw [List.filterMap_cons]
  cases c.sideRecord a <;> rfl

/-- A side that is not in the list, or does not lack its open sequence, keeps its record. -/
theorem foldl_giveSeq_kept (l : List Side) : ∀ (c : Core) (sd : Side),
    sd ∉ l ∨ (∀ r, c.sideRecord sd = some r → ¬r.lacksSeq) → (l.foldl Core.giveSeq c).sideRecord sd = c.sideRecord sd := by
  induction l with
  | nil => intro c sd _; rfl
  | cons a l ih =>
    intro c sd h
    have step : (c.giveSeq a).sideRecord sd = c.sideRecord sd := by
      rcases c.giveSeq_cases a with hc | ⟨r, n, hr, hl, hc⟩
      · rw [hc]
      · rw [hc]
        refine Core.sideRecord_put_other hr fun he => ?_
        subst he
        rcases h with h | h
        · exact h (List.mem_cons_self ..)
        · exact h r hr hl
    rw [List.foldl_cons, ← step]
    refine ih _ sd (h.imp (fun h hm => h (List.mem_cons_of_mem a hm)) fun h => ?_)
    rwa [step]

/-- A change of one side is not seen in the records of others. -/
theorem Core.recordsOf_put {c : Core} {a : Side} {r r' : SideRecord} {l : List Side} (hr : c.sideRecord a = some r) (ha : a ∉ l) :
    Core.recordsOf { c with volumes := putSide c.volumes a r' } l = c.recordsOf l :=
  List.filterMap_congr fun sd hsd => by rw [Core.sideRecord_put_other hr (fun h => ha (h ▸ hsd))]

/-- The sides of the list that lack their open sequence receive the next ones in its order (R162 step 1). -/
theorem foldl_giveSeq_given (l : List Side) : ∀ (c : Core) (n : Nat) (sd : Side) (r : SideRecord), l.Nodup →
    ((c.recordsOf l).filter (fun p => p.2.lacksSeq))[n]? = some (sd, r) → c.highestSeq + n < 65535 →
    (l.foldl Core.giveSeq c).sideRecord sd = some { r with openSeq := some (c.highestSeq + n + 1) } := by
  induction l with
  | nil => intro c n sd r _ h; cases h
  | cons a l ih =>
    intro c n sd r hn h hmax
    rw [List.nodup_cons] at hn
    obtain ⟨ha, hn⟩ := hn
    rw [Core.recordsOf_cons] at h
    rw [List.foldl_cons]
    by_cases lacks : ∃ ra, c.sideRecord a = some ra ∧ ra.lacksSeq = true
    · obtain ⟨ra, hra, hl⟩ := lacks
      rw [hra] at h
      simp only [Option.map_some, Option.toList_some, List.singleton_append, List.filter_cons, hl, if_true] at h
      have given := Core.giveSeq_lacking hra hl (by omega)
      rw [given]
      cases n with
      | zero =>
        cases Option.some.inj h
        rw [foldl_giveSeq_kept l _ a (.inl ha)]
        exact Core.sideRecord_put hra rfl
      | succ n =>
        rw [List.getElem?_cons_succ, ← Core.recordsOf_put hra ha] at h
        have top := Core.highestSeq_given hra
        rw [ih _ n sd r hn h (by rw [top]; omega), top]
        congr 3
        omega
    · have other : c.giveSeq a = c := Core.giveSeq_other fun r hr hl => lacks ⟨r, hr, hl⟩
      have none : (((c.sideRecord a).map (fun r => (a, r))).toList.filter (fun p => p.2.lacksSeq)) = [] := by
        cases hra : c.sideRecord a with
        | none => rfl
        | some ra =>
          have : ra.lacksSeq = false := Bool.eq_false_iff.mpr fun hl => lacks ⟨ra, hra, hl⟩
          simp [this]
      rw [List.filter_append, none, List.nil_append] at h
      rw [other]
      exact ih c n sd r hn h hmax

/-- Nothing else changes, and no side's state. -/
theorem foldl_giveSeq_volumes (l : List Side) (c : Core) :
    (∃ vs, l.foldl Core.giveSeq c = { c with volumes := vs }) ∧
      ∀ sd, ((l.foldl Core.giveSeq c).sideRecord sd).map (·.state) = (c.sideRecord sd).map (·.state) := by
  induction l generalizing c with
  | nil => exact ⟨⟨c.volumes, rfl⟩, fun _ => rfl⟩
  | cons a l ih =>
    rw [List.foldl_cons]
    obtain ⟨⟨vs, hvs⟩, states⟩ := ih (c.giveSeq a)
    rcases c.giveSeq_cases a with hc | ⟨r, n, hr, hl, hc⟩
    · rw [hc] at hvs states ⊢
      exact ⟨⟨vs, hvs⟩, states⟩
    · rw [hc] at hvs states ⊢
      refine ⟨⟨vs, hvs⟩, fun sd => (states sd).trans ?_⟩
      by_cases he : sd = a
      · subst he
        rw [Core.sideRecord_put hr rfl, hr]
        rfl
      · rw [Core.sideRecord_put_other hr he]

/-! ### The buffer counted (R162 step 3) -/

/-- The OPEN side is the first in the order of the sides. -/
theorem Core.openSide_first (c : Core) :
    c.openSide.map (·.1) = allSides.find? (fun sd => (c.sideRecord sd).map (·.state) == some .opened) := by
  unfold Core.openSide
  rw [Core.sides_eq]
  induction allSides with
  | nil => rfl
  | cons a l ih =>
    rw [Core.recordsOf_cons, List.find?_cons]
    cases hr : c.sideRecord a with
    | none => exact ih
    | some r =>
      simp only [Option.map_some, Option.toList_some, List.singleton_append, List.find?_cons]
      by_cases ho : r.state = .opened
      · simp [ho]
      · have test : (r.state == .opened) = false := by simpa using ho
        have test' : (some r.state == some SideState.opened) = false := by simpa using ho
        rw [test, test']
        exact ih

/-- The buffer is to be counted into this side: the OPEN one, which the inventory has rebuilt (R162 step 3). -/
def Core.counts (c : Core) (i : Inventory) (sd : Side) : Prop :=
  i.rebuiltOpen = some sd ∧ c.dirbuf ≠ [] ∧ c.openSide.map (·.1) = some sd

theorem Core.countBuffer_none {c : Core} {i : Inventory} (h : ∀ sd, ¬c.counts i sd) : c.countBuffer i = c := by
  unfold Core.countBuffer
  cases ho : c.openSide with
  | none => rfl
  | some p => exact if_neg fun hp => h p.1 ⟨hp.1, hp.2, by rw [ho]; rfl⟩

theorem Core.countBuffer_some {c : Core} {i : Inventory} {sd : Side} {r : SideRecord} (h : c.counts i sd)
    (hr : c.sideRecord sd = some r) :
    c.countBuffer i = { c with volumes := putSide c.volumes sd (r.withBuffer c.dirbuf) } := by
  obtain ⟨hi, hd, ho⟩ := h
  obtain ⟨p, hp, rfl⟩ := Option.map_eq_some_iff.mp ho
  unfold Core.countBuffer
  rw [hp]
  exact (if_pos ⟨hi, hd⟩).trans (Core.onSide_put hr _)

/-- Cores whose sides have the same states have the same OPEN side. -/
theorem Core.openSide_states {c c' : Core} (h : ∀ sd, (c'.sideRecord sd).map (·.state) = (c.sideRecord sd).map (·.state)) :
    c'.openSide.map (·.1) = c.openSide.map (·.1) := by
  rw [Core.openSide_first, Core.openSide_first]
  simp only [h]

/-- The side into which the buffer is counted is there. -/
theorem Core.counts_record {c : Core} {i : Inventory} {sd : Side} (h : c.counts i sd) : ∃ r, c.sideRecord sd = some r := by
  obtain ⟨p, hp, rfl⟩ := Option.map_eq_some_iff.mp h.2.2
  exact ⟨p.2, Core.openSide_record hp⟩

/-- The other sides keep their records. -/
theorem Core.countBuffer_other {c : Core} {i : Inventory} {sd : Side} (h : ¬c.counts i sd) :
    (c.countBuffer i).sideRecord sd = c.sideRecord sd := by
  by_cases hc : ∃ sd', c.counts i sd'
  · obtain ⟨sd', hc⟩ := hc
    obtain ⟨r, hr⟩ := Core.counts_record hc
    have other : sd ≠ sd' := fun he => h (by rwa [he])
    rw [Core.countBuffer_some hc hr, Core.sideRecord_put_other hr other]
  · rw [Core.countBuffer_none (fun sd' hs => hc ⟨sd', hs⟩)]

theorem Core.countBuffer_own {c : Core} {i : Inventory} {sd : Side} {r : SideRecord} (h : c.counts i sd)
    (hr : c.sideRecord sd = some r) : (c.countBuffer i).sideRecord sd = some (r.withBuffer c.dirbuf) := by
  rw [Core.countBuffer_some h hr]
  exact Core.sideRecord_put hr rfl

/-- Nothing but the volume table changes, and no side's state. -/
theorem Core.countBuffer_volumes (c : Core) (i : Inventory) : (∃ vs, c.countBuffer i = { c with volumes := vs }) ∧
    ∀ sd, ((c.countBuffer i).sideRecord sd).map (·.state) = (c.sideRecord sd).map (·.state) := by
  constructor
  · by_cases hc : ∃ sd, c.counts i sd
    · obtain ⟨sd, hc⟩ := hc
      obtain ⟨r, hr⟩ := Core.counts_record hc
      exact ⟨_, Core.countBuffer_some hc hr⟩
    · exact ⟨c.volumes, Core.countBuffer_none fun sd hs => hc ⟨sd, hs⟩⟩
  · intro sd
    by_cases hc : c.counts i sd
    · obtain ⟨r, hr⟩ := Core.counts_record hc
      rw [Core.countBuffer_own hc hr, hr]
      rfl
    · rw [Core.countBuffer_other hc]

/-! ### The volume table at the end of an inventory -/

/-- The open sequences given, the buffer counted (R162 steps 1 and 3). -/
def Core.counted (c : Core) (i : Inventory) : Core := (allSides.foldl Core.giveSeq c).countBuffer i

section
variable {c : Core} {i : Inventory} {sd : Side}

theorem Core.counted_volumes (c : Core) (i : Inventory) : (∃ vs, c.counted i = { c with volumes := vs }) ∧
    (c.counted i).openSide.map (·.1) = c.openSide.map (·.1) := by
  obtain ⟨⟨vs, hg⟩, given⟩ := foldl_giveSeq_volumes allSides c
  unfold Core.counted
  rw [Core.openSide_states fun sd => ((Core.countBuffer_volumes _ i).2 sd).trans (given sd)]
  obtain ⟨⟨ws, hw⟩, -⟩ := Core.countBuffer_volumes (allSides.foldl Core.giveSeq c) i
  refine ⟨⟨ws, ?_⟩, rfl⟩
  rw [hw, hg]

/-- The buffer is counted into a side as the open sequences being given leave it. -/
theorem Core.counts_given : (allSides.foldl Core.giveSeq c).counts i sd ↔ c.counts i sd := by
  obtain ⟨⟨vs, hg⟩, given⟩ := foldl_giveSeq_volumes allSides c
  have side := Core.openSide_states given
  have buffer : (allSides.foldl Core.giveSeq c).dirbuf = c.dirbuf := by rw [hg]
  unfold Core.counts
  rw [side, buffer]

/-- A side with its open sequence, into which the buffer is not counted, keeps its record. -/
theorem Core.counted_kept {r : SideRecord} (h : c.sideRecord sd = some r) (hl : ¬r.lacksSeq = true) (hc : ¬c.counts i sd) :
    (c.counted i).sideRecord sd = some r := by
  unfold Core.counted
  rw [Core.countBuffer_other (Core.counts_given.not.mpr hc), foldl_giveSeq_kept allSides c sd (.inr fun r' h' => ?_), h]
  cases h.symm.trans h'
  exact hl

/-- One without its open sequence receives its own. -/
theorem Core.counted_given {r : SideRecord} {n : Nat} (h : (c.sides.filter (fun p => p.2.lacksSeq))[n]? = some (sd, r))
    (hn : c.highestSeq + n < 65535) (hc : ¬c.counts i sd) :
    (c.counted i).sideRecord sd = some { r with openSeq := some (c.highestSeq + n + 1) } := by
  rw [Core.sides_eq] at h
  unfold Core.counted
  rw [Core.countBuffer_other (Core.counts_given.not.mpr hc)]
  exact foldl_giveSeq_given allSides c n sd r allSides_nodup h hn

/-- The side into which the buffer is counted. -/
theorem Core.counted_own {r : SideRecord} (h : c.sideRecord sd = some r) (hl : ¬r.lacksSeq = true) (hc : c.counts i sd) :
    (c.counted i).sideRecord sd = some (r.withBuffer c.dirbuf) := by
  obtain ⟨⟨vs, hg⟩, -⟩ := foldl_giveSeq_volumes allSides c
  have buffer : (allSides.foldl Core.giveSeq c).dirbuf = c.dirbuf := by rw [hg]
  have kept : (allSides.foldl Core.giveSeq c).sideRecord sd = some r := by
    rw [foldl_giveSeq_kept allSides c sd (.inr fun r' h' => ?_), h]
    cases h.symm.trans h'
    exact hl
  unfold Core.counted
  rw [Core.countBuffer_own (Core.counts_given.mpr hc) kept, buffer]

end
end Sys2Proof.Machine
end

section
/-! SUPPORT. The event in which an inventory ends (R162): what the jobs resolved again, the alarms and the selection keep of it. -/

namespace Sys2Proof.Machine

/-! ### Links that are told something (R178, R180) -/

/-- A link unit that has been told something: as ACTIVE as before, its output list grown. -/
def LinkUnit.Grown (u u' : LinkUnit) : Prop := u'.active = u.active ∧ ∃ fs, u'.out = u.out ++ fs

theorem LinkUnit.Grown.refl (u : LinkUnit) : u.Grown u := ⟨rfl, [], (List.append_nil _).symm⟩

theorem LinkUnit.Grown.trans {u v w : LinkUnit} (h : u.Grown v) (h' : v.Grown w) : u.Grown w := by
  obtain ⟨ha, fs, hf⟩ := h
  obtain ⟨ha', gs, hg⟩ := h'
  exact ⟨ha'.trans ha, fs ++ gs, by rw [hg, hf, List.append_assoc]⟩

theorem LinkUnit.emit_grown (u : LinkUnit) (f : OutFrame) : u.Grown (u.emit f) := by
  unfold LinkUnit.emit
  split
  · exact ⟨rfl, [f], rfl⟩
  · exact .refl u

theorem LinkUnit.deliver_grown (u : LinkUnit) (n : Notice) : u.Grown (u.deliver n) := by
  unfold LinkUnit.deliver
  split
  · exact ⟨rfl, [.notice n], rfl⟩
  · exact ⟨rfl, [], (List.append_nil _).symm⟩

/-! ### What the work at the end of an inventory keeps -/

/-- One core comes of another by work that leaves the volume table, the directory buffer and the inventory's marks as they are, and
tells the links something. -/
structure Told (c c' : Core) : Prop where
  volumes : c'.volumes = c.volumes
  dirbuf : c'.dirbuf = c.dirbuf
  inventory : c'.inventory = c.inventory
  rebuilding : c'.rebuilding = c.rebuilding
  links : ∀ l, (c.links.get l).Grown (c'.links.get l)

theorem Told.refl (c : Core) : Told c c := ⟨rfl, rfl, rfl, rfl, fun _ => .refl _⟩

theorem Told.trans {a b c : Core} (h : Told a b) (h' : Told b c) : Told a c :=
  ⟨h'.volumes.trans h.volumes, h'.dirbuf.trans h.dirbuf, h'.inventory.trans h.inventory, h'.rebuilding.trans h.rebuilding,
    fun l => (h.links l).trans (h'.links l)⟩

/-- The links are told, and nothing else changes. -/
theorem Told.toldLinks (c : Core) {ls : Four LinkUnit} (h : ∀ l, (c.links.get l).Grown (ls.get l)) :
    Told c { c with links := ls } :=
  ⟨rfl, rfl, rfl, rfl, h⟩

theorem Told.emit (c : Core) (l : LinkId) (f : OutFrame) : Told c (c.emit l f) := by
  refine Told.toldLinks c fun k => ?_
  by_cases h : k = l
  · subst h
    rw [Four.get_set_same]
    exact LinkUnit.emit_grown _ _
  · rw [Four.get_set_other _ _ _ _ h]
    exact .refl _

theorem Told.notifyAll (c : Core) (n : Notice) : Told c (c.notifyAll n) := by
  refine Told.toldLinks c fun k => ?_
  rw [Four.get_map]
  exact LinkUnit.deliver_grown _ _

theorem Told.notifyRole (c : Core) (role : Role) (n : Notice) : Told c (c.notifyRole role n) := by
  refine Told.toldLinks c fun k => ?_
  rw [Four.get_map]
  split
  · exact LinkUnit.deliver_grown _ _
  · exact .refl _

theorem Told.setAlarm (c : Core) (a : Alarm) : Told c (c.setAlarm a) := by
  unfold Core.setAlarm
  split
  · exact .refl c
  · refine Told.trans ?_ (Told.notifyAll _ _)
    exact ⟨rfl, rfl, rfl, rfl, fun _ => .refl _⟩

theorem Told.clearAlarm (c : Core) (a : Alarm) : Told c (c.clearAlarm a) := by
  unfold Core.clearAlarm
  split
  · refine Told.trans ?_ (Told.notifyAll _ _)
    exact ⟨rfl, rfl, rfl, rfl, fun _ => .refl _⟩
  · exact .refl c

theorem Told.evalSuspect (c : Core) : Told c c.evalSuspect := by
  unfold Core.evalSuspect Core.evalAlarm
  split
  · exact .setAlarm c _
  · exact .clearAlarm c _

theorem Told.reselect (c : Core) : Told c c.reselect := by
  unfold Core.reselect
  split
  · split
    · refine Told.trans ?_ (Told.clearAlarm _ _)
      exact ⟨rfl, rfl, rfl, rfl, fun _ => .refl _⟩
    · exact .refl c
  · exact .refl c

/-! ### Jobs placed or resolved again (R86, R87) -/

theorem Told.onJob (c : Core) (id : JobId) (f : Job → Job) : Told c (c.onJob id f) := ⟨rfl, rfl, rfl, rfl, fun _ => .refl _⟩

theorem Told.unclaimJob (e : Fixed) (c : Core) (id : JobId) : Told c (c.unclaimJob e id) := by
  unfold Core.unclaimJob
  split
  · exact ⟨rfl, rfl, rfl, rfl, fun _ => .refl _⟩
  · exact .refl c

theorem Told.operatorNotice (c : Core) (v : SlotId) : Told c (c.operatorNotice v) := .notifyRole c _ _

theorem Told.removeJob (c : Core) (id : JobId) : Told c (c.removeJob id) := by
  unfold Core.removeJob
  split
  · split
    · refine Told.trans ?_ (Told.operatorNotice _ _)
      exact ⟨rfl, rfl, rfl, rfl, fun _ => .refl _⟩
    · exact ⟨rfl, rfl, rfl, rfl, fun _ => .refl _⟩
  · exact .refl c

theorem Told.charge (c : Core) (it : Item) : Told c (c.charge it).1 := by
  unfold Core.charge
  split
  · exact ⟨rfl, rfl, rfl, rfl, fun _ => .refl _⟩
  · exact ⟨rfl, rfl, rfl, rfl, fun _ => .refl _⟩

theorem Told.endUnreadable (e : Fixed) (c : Core) (j : Job) : Told c (Machine.endUnreadable e c j) := by
  unfold Machine.endUnreadable
  split
  · next w hw =>
    have unclaimed (w' : WalkFields) : Told c ((c.onJob j.id (fun k => { k with walk := some w' })).unclaimJob e j.id) :=
      (Told.onJob c _ _).trans (.unclaimJob e _ _)
    unfold endWalk
    simp only
    split
    · exact ((unclaimed _).trans (.removeJob _ _)).trans (.emit _ _ _)
    · exact (((unclaimed _).trans (.charge _ _)).trans (.removeJob _ _)).trans (.emit _ _ _)
  · exact ((Told.unclaimJob e c _).trans (.removeJob _ _)).trans (.emit _ _ _)

theorem Told.placeJob (c : Core) (id : JobId) (sd : Side) : Told c (c.placeJob id sd) := by
  unfold Core.placeJob
  split
  · exact (Told.onJob c _ _).trans (.operatorNotice _ _)
  · exact ⟨rfl, rfl, rfl, rfl, fun _ => .refl _⟩

theorem Told.resolveJob (e : Fixed) (c : Core) (j : Job) : Told c (Machine.resolveJob e c j) := by
  unfold Machine.resolveJob
  split
  · exact (Told.onJob c _ _).trans (.placeJob _ _ _)
  · exact .onJob c _ _
  · exact .endUnreadable e c j

theorem Told.leaveOperator (c : Core) (j : Job) : Told c (c.leaveOperator j) := by
  unfold Core.leaveOperator
  split
  · exact (Told.onJob c _ _).trans (.operatorNotice _ _)
  · exact .refl c

theorem Told.wakeJob (e : Fixed) (c : Core) (id : JobId) : Told c (Machine.wakeJob e c id) := by
  unfold Machine.wakeJob
  split
  · next j _ =>
    split
    · split
      · exact .resolveJob e c j
      · next sd _ =>
        have left : Told c ((c.leaveOperator j).dropRequester (.job id)) :=
          (Told.leaveOperator c j).trans ⟨rfl, rfl, rfl, rfl, fun _ => .refl _⟩
        simp only
        split
        · exact left.trans (.resolveJob e _ j)
        · exact left.trans (.placeJob _ _ _)
    · exact .refl c
  · exact .refl c

theorem Told.wakeJobs (e : Fixed) (c : Core) : Told c (Machine.wakeJobs e c) := by
  have all (l : List Job) : ∀ c : Core, Told c (l.foldl (fun c j => Machine.wakeJob e c j.id) c) := by
    induction l with
    | nil => exact Told.refl
    | cons j l ih => exact fun c => (Told.wakeJob e c j.id).trans (ih _)
  exact all c.queue c

/-! ### The end (R162) -/

/-- The OPEN side is a matter of the volume table. -/
theorem Core.openSide_congr {c c' : Core} (h : c'.volumes = c.volumes) : c'.openSide = c.openSide := by
  unfold Core.openSide Core.sides Core.vol
  rw [h]

theorem noBlank_cleared (c : Core) : .noBlank ∉ (c.clearAlarm .noBlank).alarms := by
  rw [Core.clearAlarm_eq]
  unfold alarmCleared
  split
  · simp [withoutAlarm]
  · assumption

theorem Told.dropCommittedHead (c : Core) : Told c c.dropCommittedHead := by
  unfold Core.dropCommittedHead
  split
  · split
    · split
      · exact ⟨rfl, rfl, rfl, rfl, fun _ => .refl _⟩
      · exact .refl _
    · exact .refl _
  · exact .refl _

/-- NO_BLANK at the end of an inventory: with a side OPEN it does not stand, and without one a side is looked for (R18, R162). -/
def Core.settleBlank (c : Core) : Core := if c.openSide.isSome then c.clearAlarm .noBlank else c.reselect

theorem Told.settleBlank (c : Core) : Told c c.settleBlank := by
  unfold Core.settleBlank
  split
  · exact .clearAlarm c _
  · exact .reselect c

theorem settleBlank_noBlank {c : Core} (h : c.openSide ≠ none) : .noBlank ∉ c.settleBlank.alarms := by
  unfold Core.settleBlank
  rw [if_pos (Option.isSome_iff_ne_none.mpr h)]
  exact noBlank_cleared c

/-- The jobs and the alarms once the inventory's marks are cleared (R162 steps 4 to 6). -/
def Core.inventoryOver (e : Fixed) (c : Core) : Core :=
  (Machine.wakeJobs e { c with rebuilding := false, inventory := none }).evalSuspect.settleBlank

theorem Told.upToBlank (e : Fixed) (c : Core) : Told { c with rebuilding := false, inventory := none }
    (Machine.wakeJobs e { c with rebuilding := false, inventory := none }).evalSuspect :=
  (Told.wakeJobs e _).trans (.evalSuspect _)

/-- It leaves the table as counted, and the marks cleared. -/
theorem Told.inventoryOver (e : Fixed) (c : Core) :
    Told { c with rebuilding := false, inventory := none } (c.inventoryOver e) := (Told.upToBlank e c).trans (.settleBlank _)

theorem inventoryOver_noBlank {e : Fixed} {c : Core} (h : c.openSide ≠ none) : .noBlank ∉ (c.inventoryOver e).alarms := by
  refine settleBlank_noBlank ?_
  rw [Core.openSide_congr (Told.upToBlank e c).volumes]
  exact h

/-- The head is looked at again after a VOLUMES loss (R192). -/
def Core.headChecked (c : Core) (afterLoss : Bool) : Core := if afterLoss then c.dropCommittedHead else c

theorem Told.headChecked (c : Core) (afterLoss : Bool) : Told c (c.headChecked afterLoss) := by
  unfold Core.headChecked
  split
  · exact .dropCommittedHead c
  · exact .refl c

section
variable {e : Fixed} {c b : Core} {i : Inventory} (hb : c.counted i = b)
include hb

theorem endInventory_none (hi : i.by_ = none) : endInventory e c i = (b.headChecked i.afterLoss).inventoryOver e := by
  unfold endInventory
  rw [show (allSides.foldl Core.giveSeq c).countBuffer i = b from hb, hi]
  rfl

theorem endInventory_some {o : Orderer} (hi : i.by_ = some o) : endInventory e c i =
    ((b.headChecked i.afterLoss).inventoryOver e).emit o.link (.done o.tag (.inventory i.counts)) := by
  unfold endInventory
  rw [show (allSides.foldl Core.giveSeq c).countBuffer i = b from hb, hi]
  rfl

/-- What the end of an inventory leaves (R162): the table as counted, the marks cleared, NO_BLANK not standing with a side OPEN. -/
theorem endInventory_leaves : Told { b with rebuilding := false, inventory := none } (endInventory e c i) ∧
    (b.openSide ≠ none → .noBlank ∉ (endInventory e c i).alarms) := by
  have head := Told.headChecked b i.afterLoss
  have kept : Told { b with rebuilding := false, inventory := none } ((b.headChecked i.afterLoss).inventoryOver e) :=
    Told.trans (b := { b.headChecked i.afterLoss with rebuilding := false, inventory := none })
      ⟨head.volumes, head.dirbuf, rfl, rfl, head.links⟩ (.inventoryOver e _)
  have cleared (ho : b.openSide ≠ none) : .noBlank ∉ ((b.headChecked i.afterLoss).inventoryOver e).alarms :=
    inventoryOver_noBlank (by rwa [Core.openSide_congr head.volumes])
  cases hi : i.by_ with
  | none =>
    rw [endInventory_none hb hi]
    exact ⟨kept, cleared⟩
  | some o =>
    rw [endInventory_some hb hi]
    exact ⟨kept.trans (.emit _ _ _), cleared⟩

/-- The orderer is answered last, with the counts. -/
theorem endInventory_answers {o : Orderer} (hi : i.by_ = some o) (ha : (b.links.get o.link).active = true) :
    ∃ fs, ((endInventory e c i).links.get o.link).out =
      (b.links.get o.link).out ++ fs ++ [.done o.tag (.inventory i.counts)] := by
  have kept := (Told.headChecked b i.afterLoss).links o.link |>.trans
    ((Told.inventoryOver e (b.headChecked i.afterLoss)).links o.link)
  obtain ⟨active, fs, hfs⟩ := kept
  refine ⟨fs, ?_⟩
  rw [endInventory_some hb hi, Core.emit_eq, Core.onLink_links, Four.get_set_same, LinkUnit.emit_active _ _ (active.trans ha),
    ← hfs]

end

/-- The step in which an inventory has come to its last slot (R160, R162). -/
theorem inventoryStep_ends {e : Fixed} {c : Core} {i : Inventory} (hp : c.startPhase = .settled) (hi : c.inventory = some i)
    (hs : i.phase = .slots) (hr : i.reading = none) (hc : 64 ≤ i.cursor) :
    inventoryStep e c = some (endInventory e c i) := by
  have settled : ¬c.startPhase ≠ .settled := by simp [hp]
  unfold inventoryStep
  rw [hi]
  simp only
  rw [if_neg settled, hr, hs]
  exact dif_neg (Nat.not_lt.mpr hc)

end Sys2Proof.Machine
end

section
/-! SUPPORT. The import's course, the rebuilt record and the counted table, in the terms in which the statement of import and
inventory (R151 to R162) speaks of them. -/

namespace Sys2Proof.Machine

/-- A volume that has come to stand in a drive, and its import not yet gone on: the state of the drive, the table and the alarm. -/
def State.standing (s : State) (d : DriveId) (sd : Side) (volumes : Vector (Option Volume) 64) (y : List Alarm × Four LinkUnit) :
    State :=
  { s.used d with
    volumes := volumes
    alarms := y.1
    links := y.2
    drives := s.drives.set d (seated (afterUse s d) sd (s.toCore.isOpen sd)) }

section
variable {s : State} {d : DriveId} {v : SlotId} {f : Face} {op : ImportOp} {r : ReadResult}

/-- An import that returns a volume OUT goes on from there (R152). -/
theorem importRead_returned (hf : (s.drives.get d).presented = some f) (hv : s.toCore.location v = some .out)
    (hj : (if op.phase = .readingB then s.toCore.judge op.label op.faceA (some (headerRead (some .b) r))
      else s.toCore.judge op.label (headerRead (some .a) r) none) = some (.returned v)) :
    let volumes := relocated s.volumes v (.inDrive d f)
    let y := if Core.suspectStands { s.toCore with volumes := volumes } then alarmSet (s.alarms, s.links) .sideSuspect
      else alarmCleared (s.alarms, s.links) .sideSuspect
    (s.used d).onCore (importRead s.toFixed · op d r) =
      (s.standing d ⟨v, f⟩ volumes y).onCore (importCourse s.toFixed · op d v .returned) := by
  intro volumes y
  have hf' : ((s.used d).drives.get d).presented = some f := by
    rw [State.used_drive]
    exact hf
  have placed : (s.used d).toCore.place d v = (s.standing d ⟨v, f⟩ volumes y).toCore := by
    rw [Core.place_out (c := (s.used d).toCore) hf' hv]
    simp only [State.used, State.standing, Four.set_set, Four.get_set_same]
    rfl
  refine State.onCore_of ((importRead_judged (c := (s.used d).toCore) hj).trans ?_) rfl
  exact congrArg (importCourse s.toFixed · op d v .returned) placed

/-- An import that enrols a blank cartridge goes on from there (R153). -/
theorem importRead_enrolled (hf : (s.drives.get d).presented = some f) (hv : s.toCore.vol v = none)
    (hj : (if op.phase = .readingB then s.toCore.judge op.label op.faceA (some (headerRead (some .b) r))
      else s.toCore.judge op.label (headerRead (some .a) r) none) = some (.enrolled v)) :
    (s.used d).onCore (importRead s.toFixed · op d r) =
      (s.standing d ⟨v, f⟩
        (s.volumes.set v (some { label := some op.label, loc := .inDrive d f, sideA := .blank, sideB := .blank }))
        (s.alarms, s.links)).onCore (importCourse s.toFixed · op d v .enrolled) := by
  have hf' : ((s.used d).drives.get d).presented = some f := by
    rw [State.used_drive]
    exact hf
  have blank (g : Face) : (Volume.side { label := some op.label, loc := .unknown, sideA := .blank, sideB := .blank } g).state ≠
      .opened := by
    cases g <;> nofun
  have placed := Core.place_enrolled (c := (s.used d).toCore) hf' hv rfl blank
  refine State.onCore_of ((importRead_judged (c := (s.used d).toCore) hj).trans
    (congrArg (importCourse s.toFixed · op d v .enrolled) placed)) ?_
  simp only [State.used, State.standing, Four.set_set, Four.get_set_same]
  rfl

section
variable {outcome : MediaOutcome} {volumes : Vector (Option Volume) 64} {y : List Alarm × Four LinkUnit}

/-- The state of an import whose volume stays, its binding and its mount operation ended (R154). -/
def State.stayed (s : State) (d : DriveId) (sd : Side) (volumes : Vector (Option Volume) 64) (y : List Alarm × Four LinkUnit) :
    State :=
  let x := afterUse s d
  { s with
    importOp := none
    mounts := s.mounts.filter (fun k => k.target ≠ .importing)
    drives := s.drives.set d { seated x sd (s.toCore.isOpen sd) with
      bound := none, idle := if x.claims = 0 then some s.settings.idle else x.idle }
    volumes := volumes
    alarms := y.1
    links := y.2 }

theorem State.standing_drive (s : State) (d : DriveId) (sd : Side) :
    (s.standing d sd volumes y).drives.get d = seated (afterUse s d) sd (s.toCore.isOpen sd) := Four.get_set_same ..

theorem State.standing_ended (s : State) (d : DriveId) (sd : Side) :
    (s.standing d sd volumes y).importEnded d = s.stayed d sd volumes y := by
  simp only [State.importEnded, State.standing, State.stayed, State.used, Four.set_set, Four.get_set_same]
  rfl

variable (ready : (s.drives.get d).state = .ready) (hb : .noBlank ∈ y.1 ↔ .noBlank ∈ s.alarms)
include ready hb

/-- It goes home where it does not stay. -/
theorem standing_home (hi : s.importOp = some op) (hw : waitingOn s v = [])
    (hn : .noBlank ∉ s.alarms ∨ ¬∃ z, volumes[v] = some z ∧ (z.sideA.state = .blank ∨ z.sideB.state = .blank)) :
    (s.standing d ⟨v, f⟩ volumes y).onCore (importCourse s.toFixed · op d v outcome) =
      { s with
        importOp := some { op with phase := .goingHome v outcome }
        drives := s.drives.set d (seated (afterUse s d) ⟨v, f⟩ (s.toCore.isOpen ⟨v, f⟩)).unloadingNow
        volumes := volumes
        alarms := y.1
        links := y.2 } := by
  have drive := s.standing_drive (volumes := volumes) (y := y) d ⟨v, f⟩
  have leaves : (s.standing d ⟨v, f⟩ volumes y).toCore.stays v = false := by
    rw [← Bool.not_eq_true, Core.stays_iff, not_or]
    exact ⟨fun h => h hw, fun ⟨h, hz⟩ => hn.elim (fun hn => hn (hb.mp h)) (fun hn => hn hz)⟩
  refine (importCourse_home (s := s.standing d ⟨v, f⟩ volumes y) hi (by rw [drive]; exact ready) (by rw [drive]; rfl)
    leaves).trans ?_
  simp only [State.standing, State.used, Four.set_set, Four.get_set_same]

/-- It stays for the jobs that waited, which are placed again. -/
theorem standing_wakes (hv : ∃ z, volumes[v] = some z ∧ z.loc = .inDrive d f) (hw : waitingOn s v ≠ [])
    (hn : .noBlank ∉ s.alarms) (hx : s.exportOp = none) (hq : (s.queue.map (·.id)).Nodup)
    (hwake : ∀ j ∈ s.queue, j ∉ waitingOn s v → (s.stayed d ⟨v, f⟩ volumes y).toCore.wakes j = false) :
    (s.standing d ⟨v, f⟩ volumes y).onCore (importCourse s.toFixed · op d v outcome) =
      ((waitingOn s v).foldl placedAgain (s.stayed d ⟨v, f⟩ volumes y)).importAnswered op outcome v := by
  let p := s.standing d ⟨v, f⟩ volumes y
  obtain ⟨z, hz, hzl⟩ := hv
  have loc : p.toCore.location v = some (.inDrive d f) := (congrArg (Option.map Volume.loc) hz).trans (congrArg some hzl)
  have on : p.toCore.offline v = false := by
    unfold Core.offline
    rw [loc]
    exact (Core.exportMarked_iff p.toCore v).mpr fun z hz => nomatch hx.symm.trans hz
  have present : p.toCore.vol v ≠ none := fun h => nomatch hz.symm.trans h
  have readyP : (p.drives.get d).state = .ready := by
    rw [s.standing_drive]
    exact ready
  rw [← s.standing_ended] at hwake ⊢
  exact importCourse_wakes (s := p) readyP ((Core.stays_iff p.toCore v).mpr (.inl hw)) hq hwake present on
    (fun h => hn (hb.mp h))

/-- It stays for its BLANK side, and the selection is made. -/
theorem standing_selects {sel : Selection} (hn : .noBlank ∈ s.alarms) (hr : s.rebuilding = false)
    (ho : Core.openSide { s.toCore with volumes := volumes } = none)
    (hwake : ∀ j ∈ s.queue, (s.stayed d ⟨v, f⟩ volumes y).toCore.wakes j = false)
    (hz : ∃ z, volumes[v] = some z ∧ (z.sideA.state = .blank ∨ z.sideB.state = .blank))
    (hsel : (s.stayed d ⟨v, f⟩ volumes y).toCore.select = some sel) :
    (s.standing d ⟨v, f⟩ volumes y).onCore (importCourse s.toFixed · op d v outcome) =
      let w := alarmCleared y .noBlank
      State.importAnswered { s.stayed d ⟨v, f⟩ volumes y with selection := some sel, alarms := w.1, links := w.2 } op outcome
        v := by
  let p := s.standing d ⟨v, f⟩ volumes y
  have readyP : (p.drives.get d).state = .ready := by
    rw [s.standing_drive]
    exact ready
  rw [← s.standing_ended] at hwake hsel ⊢
  have closed : (p.importEnded d).toCore.openSide = none := (Core.openSide_congr rfl).trans ho
  have selects := (Core.selectSide_free (c := (p.importEnded d).toCore) hr closed).trans hsel
  exact importCourse_selects (s := p) readyP ((Core.stays_iff p.toCore v).mpr (.inr ⟨hb.mpr hn, hz⟩)) hwake (hb.mpr hn) selects

end

/-- A table with a volume of two BLANK sides put in has no OPEN side where it had none. -/
theorem openSide_enrolled {c : Core} {x : Volume} (h : c.openSide = none) (hx : ∀ f, (x.side f).state ≠ .opened) (v : SlotId) :
    Core.openSide { c with volumes := c.volumes.set v (some x) } = none := by
  rw [Core.openSide_none] at h ⊢
  intro w y g hy
  by_cases he : w = v
  · subst he
    have own : (c.volumes.set w (some x))[w] = some x := Vector.getElem_set_self _
    cases own.symm.trans hy
    exact hx g
  · have other : (c.volumes.set v (some x))[w] = c.volumes[w] := Vector.getElem_set_ne _ _ (fun e => he (Fin.ext e.symm))
    exact h w y g (other.symm.trans hy)

end

/-- The record rebuilt from a face with a readable header, its void sectors what the directory leaves (R161). -/
theorem Scan.record_readable {sc : Scan} {h : Header} (hh : sc.header = .header h) (hs : sc.sum + 2 ≤ sc.writePtr) :
    sc.record =
      { state := sc.stateAndReason.1, openSeq := some h.openSeq, firstRn := some h.firstRn,
        lastRn := if sc.entryCount = 0 then none else some (h.firstRn + sc.entryCount - 1), entryCount := sc.entryCount,
        writePtr := sc.writePtr, voidCount := sc.writePtr - 2 - sc.sum, flushed := sc.flushed,
        sealReason := sc.stateAndReason.2, committedSectors := sc.sum } := by
  unfold Scan.record
  rw [hh]
  simp only [voidLeft]
  rw [if_pos hs]

/-- The record of a face with an unreadable header, which is not one found unsealed (R161). -/
theorem Scan.record_unreadable {sc : Scan} (hh : sc.header = .unreadable) : sc.record =
    { state := .suspect, openSeq := none, firstRn := none, lastRn := none, entryCount := 0, writePtr := sc.writePtr,
      voidCount := sc.writePtr - 2, flushed := 0, sealReason := some .writeFailures, committedSectors := 0 } := by
  unfold Scan.record
  rw [hh]

theorem Scan.unsealed_unreadable {sc : Scan} (hh : sc.header = .unreadable) : sc.unsealed = false := by
  unfold Scan.unsealed
  rw [hh]

/-- The state and the seal reason of a readable face, by its seal sector (R161). -/
theorem Scan.stateAndReason_eq (sc : Scan) : sc.stateAndReason =
    if sc.badSector = true then (.suspect, some .writeFailures)
    else match sc.sealRead with
      | .blank => (.opened, none)
      | .sealed _ _ .space => (.full, some .space)
      | _ => (.suspect, some .writeFailures) := by
  unfold Scan.stateAndReason
  split
  · rfl
  · cases sc.sealRead with
    | blank => rfl
    | unreadable => rfl
    | sealed last count why => cases why <;> rfl

theorem Scan.unsealed_readable {sc : Scan} {h : Header} (hh : sc.header = .header h) : sc.unsealed = (sc.sealRead == .blank) := by
  unfold Scan.unsealed
  rw [hh]

/-- The side records of cores with one volume table. -/
theorem Core.mem_sides_congr {c c' : Core} (h : c'.volumes = c.volumes) (sd : Side) (r : SideRecord) :
    (sd, r) ∈ c'.sides ↔ c.sideRecord sd = some r := by
  rw [Core.mem_sides_record]
  unfold Core.sideRecord Core.vol
  rw [h]

/-- The numbers of a side into which entries are counted (R162 step 3). -/
theorem SideRecord.withBuffer_lastRn (r : SideRecord) {buf : List DirEntry} (hb : buf ≠ []) :
    (r.withBuffer buf).lastRn = r.firstRn.map (· + (r.entryCount + buf.length) - 1) := by
  have some_ : r.entryCount + buf.length ≠ 0 := by
    have := List.length_pos_iff.mpr hb
    omega
  unfold SideRecord.withBuffer
  simp only [if_neg some_]
  cases r.firstRn <;> rfl

end Sys2Proof.Machine
end

section
open Sys2Proof Sys2Proof.Machine

/-- Settles O59: an import by its judgement and the two courses of a volume in the drive, inventory's operations by the step of the
scan, its end by the volume table that it counts. -/
theorem importJudgesAndInventoryReads : Obligations.ImportJudgesAndInventoryReads := by
  refine ⟨?_, ?_, ?_⟩
  · intro d a k op r s hd hop hi ready unloading x leads goesOn judged course
    have read {u : State} (h : (s.used d).onCore (importRead s.toFixed · op d r) = u) : leads u := importDone_leads hd hop hi h
    have ready' : ((s.used d).drives.get d).state = .ready := by
      rw [State.used_drive]
      exact ready
    have idle' : ((s.used d).drives.get d).op = none := by rw [State.used_drive]; rfl
    have courses {v : SlotId} {f : Face} {outcome : MediaOutcome} {volumes : Vector (Option Volume) 64}
        {y : List Alarm × Four LinkUnit}
        (h : (s.used d).onCore (importRead s.toFixed · op d r) =
          (s.standing d ⟨v, f⟩ volumes y).onCore (importCourse s.toFixed · op d v outcome))
        (hv : ∃ z, volumes[v] = some z ∧ z.loc = .inDrive d f) (hb : .noBlank ∈ y.1 ↔ .noBlank ∈ s.alarms)
        (ho : s.toCore.openSide = none → Core.openSide { s.toCore with volumes := volumes } = none) :
        course v f outcome volumes y := by
      refine ⟨fun hw hn => read (h.trans (standing_home ready hb hi hw hn)), fun hw hn hx hq hwake => ?_,
        fun hw hn hr hs hwake hz sel hsel => read (h.trans (standing_selects ready hb hn hr (ho hs) hwake hz hsel))⟩
      obtain ⟨-, -, nodup, -, -⟩ := hq
      exact read (h.trans (standing_wakes ready hb hv hw hn hx nodup hwake))
    refine ⟨fun hp hr => ?_, fun o hj => ?_, fun v f hj hf hv => ?_, fun v f hj hf => ?_⟩
    · refine read (State.onCore_of ((importRead_turns hp hr).trans (importUnloads (c := (s.used d).toCore) hi ready' idle' _)) ?_)
      simp only [State.used, Four.set_set, Four.get_set_same]
      rfl
    · refine read ?_
      refine Eq.trans (State.onCore_of (importRead_judged (c := (s.used d).toCore) hj) rfl)
        ((importJudged_rejected (s := s.used d) hi ready' idle').trans ?_)
      simp only [State.used, Four.set_set, Four.get_set_same]
      rfl
    · obtain ⟨z, hz, hzl⟩ := Option.map_eq_some_iff.mp hv
      refine courses (importRead_returned hf hv hj) ⟨{ z with loc := .inDrive d f }, ?_, rfl⟩ (noBlank_evaluated _ _)
        (fun ho => Core.openSide_relocated ho v _)
      have hz' : s.volumes[v] = some z := hz
      unfold relocated
      rw [hz']
      exact Vector.getElem_set_self _
    · have low : s.toCore.lowestVacant = some v := by
        simp only [judged] at hj
        split at hj
        · exact Core.judge_enrolled hj
        · exact Core.judge_enrolled hj
      obtain ⟨vacant, lowest⟩ := Core.lowestVacant_some low
      let blank : Volume := { label := some op.label, loc := .inDrive d f, sideA := .blank, sideB := .blank }
      have closed (g : Face) : (blank.side g).state ≠ .opened := by cases g <;> nofun
      exact ⟨vacant, lowest, courses (importRead_enrolled hf vacant hj) ⟨_, Vector.getElem_set_self _, rfl⟩ Iff.rfl
        (fun ho => openSide_enrolled ho closed v)⟩
  · intro d kind i rd f s hd hi hr hp hk sc goesOn sector within other ends rebuilt endsRead
    have hp' : ((s.used d).drives.get d).presented = some f := by
      rw [State.used_drive]
      exact hp
    have scanned (sc' : Scan) : { s.used d with toCore := (s.used d).toCore.issueScan d sc' } =
        goesOn sc' sc'.operation.1 sc'.operation.2 := by
      rw [Core.issueScan_eq (s := s.used d) hi hr]
      simp only [State.scans, State.used, Four.set_set, Four.get_set_same]
      rfl
    have directory {sc' : Scan} (h : sc'.step = .directory) :
        { s.used d with toCore := (s.used d).toCore.issueScan d sc' } =
          goesOn sc' (sector sc'.copyB sc'.sector) .inventoryRead := by
      rw [scanned]
      unfold Scan.operation
      rw [h]
    have hready (h : (s.drives.get d).state = .ready) : ((s.used d).drives.get d).state = .ready := by
      rw [State.used_drive]
      exact h
    have hidle : ((s.used d).drives.get d).op = none := by rw [State.used_drive]; rfl
    have ended (sc' : Scan) {leads : State → Prop}
        (h : ∀ u, { s.used d with toCore := faceDone s.toFixed (s.used d).toCore i rd d sc' } = u → leads u) :
        ends sc' sc'.record sc'.unsealed leads := by
      intro ready
      have ready' := hready ready
      have leads' {c : Core} {u : State} (hc : faceDone s.toFixed (s.used d).toCore i rd d sc' = c)
          (hu : { s.used d with toCore := c } = u) : leads u := h u (by rw [hc]; exact hu)
      refine ⟨fun ho => ?_, fun v z ra rb ha hb hv hz hu hl => ⟨fun hg hw hn => ?_, fun hg => ?_⟩⟩
      · refine leads' (faceDone_turns (s := s.used d) hi hr hp' ready' hidle ho) ?_
        simp only [State.unloadsReading, State.used, Four.set_set, Four.get_set_same]
        rfl
      · refine leads' ((faceDone_lost (s := s.used d) hi hr hp' ha hb hv hz hu hl).trans ((if_pos ?_).trans
          (placeLost_home (s := (s.used d).faceRead i rd f sc') rfl rfl hp' ready' hidle hz hu hw hn))) ?_
        · rw [Bool.and_eq_true]
          exact hg
        · simp only [State.unloadsReading, State.faceRead, State.used, Four.set_set, Four.get_set_same]
          rfl
      · refine leads' ((faceDone_lost (s := s.used d) hi hr hp' ha hb hv hz hu hl).trans ((if_neg ?_).trans
          (makeOut_setOut (s := (s.used d).faceRead i rd f sc') rfl rfl ready' hidle hz hu))) ?_
        · rw [Bool.and_eq_true]
          exact hg
        · simp only [State.unloadsReading, State.faceRead, State.used, Four.set_set, Four.get_set_same]
          rfl
    have endedRead (sc' : Scan) {leads : State → Prop}
        (h : ∀ u, { s.used d with toCore := faceDone s.toFixed (s.used d).toCore i rd d sc' } = u → leads u) :
        endsRead sc' leads := by
      intro hd hh hsum
      have record : sc'.record = rebuilt sc' hd := by
        rw [Scan.record_readable hh hsum, Scan.stateAndReason_eq]
        rfl
      rw [← record, ← Scan.unsealed_readable hh]
      exact ended sc' h
    refine ⟨fun hop => ⟨fun h r hs hh => ?_, fun r hs hh => ?_, fun r hs hh => ?_, fun r hs => ?_, fun data hs => ?_,
      fun r hs hbad => ?_⟩, fun hop x => ⟨fun hs hh => ?_, fun hs hh => ?_, fun hs => ?_, fun hs hn => ?_, fun hs hn => ?_⟩⟩
    · exact inventoryRead_leads hd hop hk hi hr
        ((inventoryRead_header hs).trans (congrArg some (scanHeader_readable hp' hh))) (scanned _)
    · exact inventoryRead_leads hd hop hk hi hr
        ((inventoryRead_header hs).trans (congrArg some (scanHeader_unreadable hp' hh))) (scanned _)
    · exact ended Scan.fresh fun u hu => inventoryRead_leads hd hop hk hi hr
        ((inventoryRead_header hs).trans (congrArg some (scanHeader_blank hp' hh))) hu
    · exact inventoryRead_leads hd hop hk hi hr (inventoryRead_seal hs) (scanned _)
    · intro es counted
      refine ⟨fun hlt => ?_, fun hge => ?_⟩
      · exact inventoryRead_leads hd hop hk hi hr
          ((inventoryRead_directory hs).trans (congrArg some (scanNext_more (sc := counted) hlt))) (scanned _)
      · exact endedRead counted fun u hu => inventoryRead_leads (r := .good data) hd hop hk hi hr
          ((inventoryRead_directory hs).trans (congrArg some (scanNext_last (sc := counted) hge))) hu
    · intro bad
      refine ⟨fun hcopy => ?_, fun hcopy hlt => ?_, fun hcopy hge => ?_⟩
      · exact inventoryRead_leads hd hop hk hi hr
          ((inventoryRead_directory hs).trans (congrArg some (scanSector_copyA hbad hcopy))) (directory hs)
      · exact inventoryRead_leads hd hop hk hi hr ((inventoryRead_directory hs).trans (congrArg some
          ((scanSector_copyB hbad hcopy).trans (scanNext_again (sc := bad) hlt hs)))) (directory hs)
      · exact endedRead bad fun u hu => inventoryRead_leads hd hop hk hi hr ((inventoryRead_directory hs).trans
          (congrArg some ((scanSector_copyB hbad hcopy).trans (scanNext_last (sc := bad) hge)))) hu
    · exact inventoryFind_leads hd hop hk hi hr (inventoryFind_pointer hs hh) (scanned _)
    · have unreadable : Scan.header { sc with writePtr := pointerFound x } = .unreadable := hh
      have ends' := ended { sc with writePtr := pointerFound x } fun u hu =>
        inventoryFind_leads hd hop hk hi hr (inventoryFind_unreadable (x := x) hs hh) hu
      rw [Scan.record_unreadable unreadable, Scan.unsealed_unreadable unreadable] at ends'
      exact ends'
    · exact inventoryFind_leads hd hop hk hi hr (inventoryFind_copyA hs) (scanned _)
    · exact inventoryFind_leads hd hop hk hi hr
        ((inventoryFind_copyB hs).trans (congrArg some (scanNext_more hn))) (scanned _)
    · exact endedRead _ fun u hu => inventoryFind_leads hd hop hk hi hr
        ((inventoryFind_copyB hs).trans (congrArg some (scanNext_last (Nat.le_of_eq hn)))) hu
  · intro i s hphase hi hslots hreading hcursor
    refine ⟨_, inventoryStep_ends hphase hi hslots hreading hcursor, ?_⟩
    obtain ⟨b, hb⟩ : ∃ b, s.toCore.counted i = b := ⟨_, rfl⟩
    obtain ⟨told, cleared⟩ := endInventory_leaves (e := s.toFixed) hb
    obtain ⟨⟨vs, hvs⟩, side⟩ := Core.counted_volumes s.toCore i
    rw [hb] at hvs side
    have record (sd : Side) (r : SideRecord) : (sd, r) ∈ s.toCore.sides ↔ s.toCore.sideRecord sd = some r :=
      Core.mem_sides_record _ _ _
    have after {sd : Side} {r : SideRecord} (h : (s.toCore.counted i).sideRecord sd = some r) :
        (sd, r) ∈ (endInventory s.toFixed s.toCore i).sides := by
      rw [hb] at h
      exact (Core.mem_sides_congr (c := b) told.volumes sd r).mpr h
    have buffer : b.dirbuf = s.dirbuf := by rw [hvs]
    have links : b.links = s.links := by rw [hvs]
    refine ⟨told.inventory, told.rebuilding, told.dirbuf.trans buffer, fun ho => cleared fun closed => ?_,
      fun sd r hr hs hc => ?_, fun n sd r hn hmax hc => ?_, fun sd r hr hc hs => ?_, fun o ho ha => ?_⟩
    · rw [closed] at side
      exact ho (Option.map_eq_none_iff.mp side.symm)
    · rw [record] at hr
      refine after (Core.counted_kept hr (fun hl => ?_) hc)
      obtain ⟨blank, lacks⟩ := of_decide_eq_true hl
      exact hs.elim blank (fun h => h lacks)
    · exact after (Core.counted_given hn hmax hc)
    · rw [record] at hr
      have own := Core.counted_own (i := i) hr (fun hl => hs (of_decide_eq_true hl).2) hc
      exact ⟨_, after own, rfl, SideRecord.withBuffer_lastRn r hc.2.1, rfl, rfl, rfl, rfl, fun hv => if_pos hv⟩
    · have answered := endInventory_answers (e := s.toFixed) hb ho (by rw [links]; exact ha)
      rw [links] at answered
      exact answered

end

section
/-! SUPPORT. The start probe of a drive (R20, R48): the volume said to be in it, the judgement of its read, and its ends. -/

namespace Sys2Proof.Machine

/-! ### Completions that are no use of a cartridge (R24) -/

/-- A state whose LOAD+SPIN UP, SPIN DOWN or EJECT on drive `d` has ended (R24). -/
def State.idled (s : State) (d : DriveId) : State := { s with drives := s.drives.set d { s.drives.get d with op := none } }

@[simp] theorem State.idled_drive (s : State) (d : DriveId) :
    (s.idled d).drives.get d = { s.drives.get d with op := none } := by
  simp [State.idled]

/-- A completion of such an operation leads to what its user does, and what follows. -/
theorem idled_leads {ord : List Section} {d : DriveId} {f : Fixed → Core → DriveOp → Option Core} {s u : State} {o : DriveOp}
    {c : Core} (hd : s.resetDue = false) (ho : (s.drives.get d).op = some o) (hk : o.kind.uses = false)
    (hf : f s.toFixed (s.idled d).toCore o = some c) (hu : { s with toCore := c } = u) :
    ∃ t, event ord s (completion d f) = .next t ∧ ReachedThen t u := by
  refine completion_reached hd ho ?_ hu
  rw [endOp_other s d o ho hk]
  exact hf

/-- A LOAD+SPIN UP that ends leads to what `loadDone` makes of it, and what follows (R33). -/
theorem loadDone_leads {s u : State} {d : DriveId} {second : Bool} {user : OpUser} {n : Nat} {r : LoadResult} {c : Core}
    (hd : s.resetDue = false) (ho : (s.drives.get d).op = some { kind := .loadSpinUp second, user, timer := n })
    (hf : loadDone s.toFixed (s.idled d).toCore d r { kind := .loadSpinUp second, user, timer := n } = c)
    (hu : { s with toCore := c } = u) : ∃ t, exec (.loadSpinUpComplete d r) s = .next t ∧ ReachedThen t u :=
  idled_leads (ord := updateOrder) (f := takeLoad d r) hd ho rfl (congrArg some hf) hu

/-- A SPIN DOWN that ends leads to what `spinDownDone` makes of it, and what follows (R32). -/
theorem spinDownDone_leads {s u : State} {d : DriveId} {user : OpUser} {n : Nat} {c : Core} (hd : s.resetDue = false)
    (ho : (s.drives.get d).op = some { kind := .spinDown, user, timer := n })
    (hf : spinDownDone (s.idled d).toCore d { kind := .spinDown, user, timer := n } = c) (hu : { s with toCore := c } = u) :
    ∃ t, exec (.spinDownComplete d) s = .next t ∧ ReachedThen t u :=
  idled_leads (ord := updateOrder) (f := takeSpinDown d) hd ho rfl (congrArg some hf) hu

/-! ### The volume said to be in a drive (R20) -/

section
variable {c : Core} {d : DriveId} {v : SlotId} {f : Face}

/-- The one volume stored as in a drive is the one said to be there. -/
theorem Core.volumeIn_some (h : ∀ w g, c.location w = some (.inDrive d g) ↔ w = v ∧ g = f) :
    c.volumeIn d = some (v, f) := by
  have hv : c.location v = some (.inDrive d f) := (h v f).mpr ⟨rfl, rfl⟩
  unfold Core.volumeIn
  cases hg : allSlots.findSome? (fun v =>
      match c.location v with
      | some (.inDrive k f) => if k = d then some (v, f) else none
      | _ => none) with
  | none =>
    have := List.findSome?_eq_none_iff.mp hg v (List.mem_finRange v)
    simp [hv] at this
  | some p =>
    obtain ⟨w, -, hw⟩ := List.exists_of_findSome?_eq_some hg
    split at hw
    · next k g hloc =>
      split at hw
      · next hk =>
        subst hk
        cases hw
        obtain ⟨rfl, rfl⟩ := (h w g).mp hloc
        rfl
      · cases hw
    · cases hw

theorem Core.volumeIn_none (h : ∀ w g, c.location w ≠ some (.inDrive d g)) : c.volumeIn d = none := by
  refine List.findSome?_eq_none_iff.mpr fun v _ => ?_
  split
  · next k g hloc => exact if_neg fun hk => h v g (by rw [hloc, hk])
  · rfl

/-- The volume said to be in a drive, and not found there, is UNKNOWN (R20). -/
theorem Core.unplace_some (h : ∀ w g, c.location w = some (.inDrive d g) ↔ w = v ∧ g = f) :
    c.unplace d = { c with volumes := relocated c.volumes v .unknown } := by
  unfold Core.unplace
  rw [Core.volumeIn_some h]
  exact c.setLoc_inside v _ _ ((h v f).mpr ⟨rfl, rfl⟩) nofun nofun

theorem Core.unplace_none (h : ∀ w g, c.location w ≠ some (.inDrive d g)) : c.unplace d = c := by
  unfold Core.unplace
  rw [Core.volumeIn_none h]

/-! ### No cartridge, and a second failure (R25, R48) -/

/-- A drive record whose start probe has found no cartridge. -/
def Drive.probeGone (x : Drive) : Drive := { x with state := .empty, unnamed := false, probe := .ended }

theorem probeLoad_noMedia {b : Core} (hb : c.unplace d = b) (second : Bool) :
    probeLoad c d .noMedia second = { b with drives := b.drives.set d (b.drives.get d).probeGone } := by
  unfold probeLoad
  simp only [hb]
  rfl

/-- The drive record of a start probe that has faulted, under the record that names its cartridge. -/
def Drive.probeFaulted (x : Drive) : Drive := { x with op := none, idle := none, state := .faulted, probe := .ended }

/-- Once the drive's cartridge is named, the fault is that of its record, and DRIVE_FAULT is told. -/
theorem Core.probeFault_eq {z : Drive} (h : c.nameProbed d = { c with drives := c.drives.set d z }) :
    c.probeFault d =
      let y := alarmSet (c.alarms, c.links) (.driveFault d)
      { c with drives := c.drives.set d z.probeFaulted, alarms := y.1, links := y.2 } := by
  unfold Core.probeFault
  rw [Core.setAlarm_eq, h]
  simp only [Core.onDrive, Four.set_set, Four.get_set_same]
  rfl

theorem Core.nameProbed_some (hl : (c.drives.get d).loaded = none) (hu : (c.drives.get d).unnamed = false)
    (h : ∀ w g, c.location w = some (.inDrive d g) ↔ w = v ∧ g = f) :
    c.nameProbed d = { c with drives := c.drives.set d (seated (c.drives.get d) ⟨v, f⟩ (c.isOpen ⟨v, f⟩)) } := by
  unfold Core.nameProbed
  rw [if_neg (by simp [Drive.holdsCartridge, Core.drv, hl, hu]), Core.volumeIn_some h]
  rfl

theorem Core.nameProbed_none (hl : (c.drives.get d).loaded = none) (hu : (c.drives.get d).unnamed = false)
    (h : ∀ w g, c.location w ≠ some (.inDrive d g)) :
    c.nameProbed d = { c with drives := c.drives.set d { c.drives.get d with unnamed := true } } := by
  unfold Core.nameProbed
  rw [if_neg (by simp [Drive.holdsCartridge, Core.drv, hl, hu]), Core.volumeIn_none h]
  rfl

/-! ### The read of sector 0 (R20, R199) -/

/-- A read agrees with a volume's record where R20's test passes and a GOOD read is a header. -/
theorem probeAgrees_iff (x : Volume) (f : Face) (r : ReadResult) : probeAgrees x f r = true ↔
    agrees x f (headerRead (some f) r) = true ∧ ∀ data, r = .good data → ∃ h, headerRead (some f) r = .header h := by
  unfold probeAgrees
  cases r with
  | good data => cases headerRead (some f) (.good data) <;> simp
  | mediaError => simp
  | blank => simp

theorem Core.probeMatch_some {y : Volume} (r : ReadResult)
    (h : ∀ w g, c.location w = some (.inDrive d g) ↔ w = v ∧ g = f) (hy : c.vol v = some y) :
    c.probeMatch d r = if probeAgrees y f r then some ⟨v, f⟩ else none := by
  unfold Core.probeMatch
  rw [Core.volumeIn_some h]
  simp only [hy]

theorem Core.probeMatch_none (r : ReadResult) (h : ∀ w g, c.location w ≠ some (.inDrive d g)) : c.probeMatch d r = none := by
  unfold Core.probeMatch
  rw [Core.volumeIn_none h]

/-- The face that a header found on an unnamed cartridge gives by its own face byte. -/
def faceFound (r : ReadResult) : Option Face :=
  match headerRead none r with
  | .header h => some h.face
  | _ => none

/-- A drive record with a cartridge without a name. -/
def Drive.nameless (x : Drive) (face : Option Face) : Drive :=
  { x with loaded := none, unnamed := true, presented := face, filingFlag := false }

/-- A drive record whose start probe has issued its SPIN DOWN. -/
def Drive.probeStops (x : Drive) : Drive := { x with op := issued .spinDown .probe, probe := .stopping }

theorem Core.probeRead_match {sd : Side} {r : ReadResult} (h : c.probeMatch d r = some sd) : c.probeRead d r =
    { c with drives := c.drives.set d (seated (c.drives.get d) sd (c.isOpen sd)).probeStops } := by
  unfold Core.probeRead
  rw [h]
  simp only [Core.seat_eq, Core.issue, Core.onDrive, Four.set_set, Four.get_set_same]
  rfl

theorem Core.probeRead_other {r : ReadResult} {b : Core} (h : c.probeMatch d r = none) (hb : c.unplace d = b) :
    c.probeRead d r = { b with drives := b.drives.set d ((b.drives.get d).nameless (faceFound r)).probeStops } := by
  unfold Core.probeRead
  rw [h]
  simp only [hb, Core.issue, Core.onDrive, Four.set_set, Four.get_set_same]
  rfl

end

/-! ### Its completions (R24, R48) -/

/-- A LOAD+SPIN UP of a start probe leads to what `probeLoad` makes of it, and what follows. -/
theorem probeLoad_leads {s u : State} {d : DriveId} {second : Bool} {r : LoadResult} {c : Core} (hd : s.resetDue = false)
    (ho : InFlight s d (.loadSpinUp second) .probe) (hf : probeLoad (s.idled d).toCore d r second = c)
    (hu : { s with toCore := c } = u) : ∃ t, exec (.loadSpinUpComplete d r) s = .next t ∧ ReachedThen t u := by
  obtain ⟨n, hn⟩ := ho
  refine loadDone_leads hd hn ?_ hu
  rw [← hf]
  cases second <;> rfl

/-- A READ of a start probe leads to what `Core.probeRead` makes of it, and what follows. -/
theorem probeRead_leads {s u : State} {d : DriveId} {a n : Nat} {r : ReadResult} {c : Core} (hd : s.resetDue = false)
    (ho : InFlight s d (.read a n) .probe) (hf : (s.used d).toCore.probeRead d r = c) (hu : { s with toCore := c } = u) :
    ∃ t, exec (.probeReadComplete d r) s = .next t ∧ ReachedThen t u := by
  obtain ⟨k, hk⟩ := ho
  refine completion_reached (o := updateOrder) (f := takeProbeRead d r) hd hk ?_ hu
  rw [endOp_use s d _ hk rfl]
  exact congrArg some hf

end Sys2Proof.Machine
end

section
open Sys2Proof Sys2Proof.Machine

/-- Settles O52, by the operation that ends: the drive's record is the only thing that changes beside the location of the volume
said to be in it (`Core.volumeIn_some`) and, at a second failure, DRIVE_FAULT. -/
theorem startProbeJudgesTheDrive : Obligations.StartProbeJudgesTheDrive := by
  intro d s hd x leads as_ unknown said nothing
  refine ⟨fun second hop => ⟨?_, fun hn => ?_, fun v f hv => ?_, fun h2 => ?_, fun h2 hl hu => ⟨fun hn => ?_, fun v f hv => ?_⟩⟩,
    fun a n r hop => ⟨fun hn => ?_, fun v f y hv hy => ⟨fun hc => ?_, fun hc => ?_⟩⟩, fun ⟨n, hn⟩ => ?_⟩
  · refine probeLoad_leads (r := .good) hd hop rfl ?_
    simp only [probeLoad, Core.issue, Core.onDrive, State.idled, Four.set_set, Four.get_set_same]
    rfl
  · refine probeLoad_leads hd hop (probeLoad_noMedia (Core.unplace_none (c := (s.idled d).toCore) hn) second) ?_
    simp only [State.idled, Four.set_set, Four.get_set_same]
    rfl
  · refine probeLoad_leads hd hop (probeLoad_noMedia (Core.unplace_some (c := (s.idled d).toCore) hv) second) ?_
    simp only [State.idled, Four.set_set, Four.get_set_same]
    rfl
  · subst h2
    refine probeLoad_leads (r := .notReady) hd hop rfl ?_
    simp only [probeLoad, Core.issue, Core.onDrive, State.idled, Four.set_set, Four.get_set_same]
    rfl
  · subst h2
    have named := Core.nameProbed_none (c := (s.idled d).toCore) (d := d) (by rw [s.idled_drive]; exact hl)
      (by rw [s.idled_drive]; exact hu) hn
    refine probeLoad_leads (r := .notReady) hd hop (Core.probeFault_eq named) ?_
    simp only [State.idled, Four.set_set, Four.get_set_same]
    rfl
  · subst h2
    have named := Core.nameProbed_some (c := (s.idled d).toCore) (d := d) (by rw [s.idled_drive]; exact hl)
      (by rw [s.idled_drive]; exact hu) hv
    refine probeLoad_leads (r := .notReady) hd hop (Core.probeFault_eq named) ?_
    simp only [State.idled, Four.set_set, Four.get_set_same]
    rfl
  · refine probeRead_leads hd hop (Core.probeRead_other (c := (s.used d).toCore) (Core.probeMatch_none r hn)
      (Core.unplace_none hn)) ?_
    simp only [State.used, Four.set_set, Four.get_set_same]
    rfl
  · have agreed := (probeAgrees_iff y f r).mpr hc
    refine probeRead_leads hd hop (Core.probeRead_match (c := (s.used d).toCore)
      ((Core.probeMatch_some r hv hy).trans (if_pos agreed))) ?_
    simp only [State.used, Four.set_set, Four.get_set_same]
    rfl
  · have disagreed : ¬probeAgrees y f r = true := fun h => hc ((probeAgrees_iff y f r).mp h)
    refine probeRead_leads hd hop (Core.probeRead_other (c := (s.used d).toCore)
      ((Core.probeMatch_some r hv hy).trans (if_neg disagreed)) (Core.unplace_some hv)) ?_
    simp only [State.used, Four.set_set, Four.get_set_same]
    rfl
  · refine spinDownDone_leads hd hn rfl ?_
    simp only [spinDownDone, if_pos, Core.endProbe, Core.onDrive, Core.drv, State.idled, Four.set_set, Four.get_set_same]
    rfl

end

section
/-! SUPPORT. What a drive fault always leaves (R25, R75, R99): the drive down, no claim of a job or of the engine on it, and its
alarm as it stood until the fault sets it. -/

namespace Sys2Proof.Machine

/-! ### What the parts of a fault keep -/

/-- A drive is FAULTED with no operation in flight and its idle timer stopped (R25). -/
def Core.downed (c : Core) (d : DriveId) : Prop :=
  (c.drives.get d).state = .faulted ∧ (c.drives.get d).op = none ∧ (c.drives.get d).idle = none

/-- What every part of a fault of drive `d` keeps: the drive stays down, no job comes to the queue or to a claim, and
DRIVE_FAULT stands as it did. -/
structure Core.FaultKept (d : DriveId) (c c' : Core) : Prop where
  drive : c.downed d → c'.downed d
  queue : ∀ k ∈ c'.queue, ∃ j ∈ c.queue, j.id = k.id ∧ (k.drive = none ∨ k.drive = j.drive)
  alarm : .driveFault d ∈ c'.alarms ↔ .driveFault d ∈ c.alarms

namespace Core.FaultKept

section
variable {d : DriveId} {c c' c'' : Core}

theorem trans (h : FaultKept d c c') (h' : FaultKept d c' c'') : FaultKept d c c'' where
  drive := fun hd => h'.drive (h.drive hd)
  queue := fun k hk => by
    obtain ⟨j, hj, hid, hdr⟩ := h'.queue k hk
    obtain ⟨i, hi, hid', hdr'⟩ := h.queue j hj
    refine ⟨i, hi, hid'.trans hid, ?_⟩
    rcases hdr with hdr | hdr
    · exact .inl hdr
    · rw [hdr]
      exact hdr'
  alarm := h'.alarm.trans h.alarm

/-- Jobs leave the queue. -/
theorem of_filter {p : Job → Bool} (hd : c'.drives = c.drives) (hq : c'.queue = c.queue.filter p)
    (ha : c'.alarms = c.alarms) : FaultKept d c c' where
  drive := fun h => by
    unfold Core.downed at h ⊢
    rw [hd]
    exact h
  queue := fun k hk => ⟨k, (List.mem_filter.mp (hq ▸ hk)).1, rfl, .inr rfl⟩
  alarm := by rw [ha]

/-- A change of other things. -/
theorem of_same (hd : c'.drives = c.drives) (hq : c'.queue = c.queue) (ha : c'.alarms = c.alarms) : FaultKept d c c' :=
  of_filter (p := fun _ => true) hd (by rw [hq, List.filter_true]) ha

theorem refl (d : DriveId) (c : Core) : FaultKept d c c := of_same rfl rfl rfl

/-- Either way of a choice between two changes. -/
theorem ite {p : Prop} [Decidable p] {a b : Core} (ha : FaultKept d c a) (hb : FaultKept d c b) :
    FaultKept d c (if p then a else b) := by
  split
  · exact ha
  · exact hb

/-- A change of a drive's record that leaves a FAULTED drive down. -/
theorem onDrive (k : DriveId) {f : Drive → Drive}
    (hf : ∀ x, x.state = .faulted → (f x).state = .faulted ∧ (f x).op = x.op ∧ (f x).idle = x.idle) :
    FaultKept d c (c.onDrive k f) where
  drive := fun h => by
    obtain ⟨hs, ho, hi⟩ := h
    unfold Core.downed Core.onDrive
    by_cases hk : d = k
    · subst hk
      obtain ⟨fs, fo, fi⟩ := hf _ hs
      simp only [Four.get_set_same]
      exact ⟨fs, fo.trans ho, fi.trans hi⟩
    · simp only [Four.get_set_other _ _ _ _ hk]
      exact ⟨hs, ho, hi⟩
  queue := fun k hk => ⟨k, hk, rfl, .inr rfl⟩
  alarm := Iff.rfl

/-- A claim released on a FAULTED drive starts no idle timer (R27). -/
theorem releaseClaim (e : Fixed) (k : DriveId) : FaultKept d c (c.releaseClaim e k) :=
  onDrive k fun x h => ⟨h, rfl, if_neg (by simp [h])⟩

/-- A change of jobs that gives none a claim. -/
theorem onJob (id : JobId) {f : Job → Job} (hf : ∀ j, (f j).id = j.id ∧ ((f j).drive = none ∨ (f j).drive = j.drive)) :
    FaultKept d c (c.onJob id f) where
  drive := fun h => h
  queue := fun k hk => by
    obtain ⟨j, hj, rfl⟩ := List.mem_map.mp hk
    split
    · exact ⟨j, hj, (hf j).1.symm, (hf j).2⟩
    · exact ⟨j, hj, rfl, .inr rfl⟩
  alarm := Iff.rfl

/-- The evaluation of SIDE_SUSPECT leaves DRIVE_FAULT. -/
theorem evalSuspect (c : Core) : FaultKept d c c.evalSuspect := by
  rw [Core.evalSuspect_eq]
  refine ⟨fun h => h, fun k hk => ⟨k, hk, rfl, .inr rfl⟩, ?_⟩
  simp only
  split
  · unfold alarmSet
    split
    · rfl
    · simp only [withAlarm, List.mem_append, List.mem_filter, List.mem_singleton, reduceCtorEq, or_false, Alarm.rank]
      constructor
      · rintro (h | h)
        · exact h.1
        · exact h.1
      · exact fun h => .inr ⟨h, decide_eq_true (by omega)⟩
  · unfold alarmCleared
    split
    · simp [withoutAlarm]
    · rfl

end

/-! ### The ends of jobs (R99, R110, R111) -/

section
variable {d : DriveId} {c : Core} {e : Fixed}

theorem unclaimJob (id : JobId) : FaultKept d c (c.unclaimJob e id) := by
  unfold Core.unclaimJob
  split
  · refine .trans (.trans ?_ (releaseClaim e _)) (onJob id fun _ => ⟨rfl, .inl rfl⟩)
    exact onDrive _ fun _ h => ⟨h, rfl, rfl⟩
  · exact .refl d c

theorem removeJob (id : JobId) : FaultKept d c (c.removeJob id) := by
  unfold Core.removeJob
  split
  · split <;> exact of_filter rfl rfl rfl
  · exact .refl d c

theorem jobDone (id : JobId) (b : JobDone) : FaultKept d c (c.jobDone id b) := of_same rfl rfl rfl

theorem charge (it : Item) : FaultKept d c (c.charge it).1 := by
  unfold Core.charge
  split <;> exact of_same rfl rfl rfl

theorem endFetch (j : Job) (o : JobOutcome) : FaultKept d c (endFetch e c j o) :=
  ((unclaimJob j.id).trans (removeJob j.id)).trans (jobDone j.id _)

theorem endWalk (j : Job) (w : WalkFields) (stop : StopReason) : FaultKept d c (endWalk e c j w stop) := by
  have free : FaultKept d c ((c.onJob j.id (fun k => { k with walk := some { w with stop := some stop } })).unclaimJob e j.id) :=
    .trans (onJob j.id (f := fun k => { k with walk := some { w with stop := some stop } }) fun _ => ⟨rfl, .inr rfl⟩)
      (unclaimJob j.id)
  unfold Machine.endWalk
  exact ite ((free.trans (removeJob j.id)).trans (jobDone j.id _))
    (((free.trans (charge _)).trans (removeJob j.id)).trans (jobDone j.id _))

theorem endFaulted (j : Job) : FaultKept d c (endFaulted e c j) := by
  unfold Machine.endFaulted Machine.endCancelled
  refine ite ?_ ?_
  all_goals
    split
    · exact endWalk _ _ _
    · exact endFetch _ _

end

/-! ### The engine (R75) -/

section
variable {d : DriveId} {c : Core} {e : Fixed}

theorem onSide (sd : Side) (f : SideRecord → SideRecord) : FaultKept d c (c.onSide sd f) := by
  unfold Core.onSide
  split
  · exact of_same rfl rfl rfl
  · exact .refl d c

theorem faultHeader : FaultKept d c c.faultHeader := by
  unfold Core.faultHeader
  split
  · next sel _ =>
    refine .trans (.trans (onSide sel.side (fun _ => .headerFault sel.openSeq)) ?_) (evalSuspect _)
    exact of_same rfl rfl rfl
  · exact .refl d c

theorem endSeal (k : DriveId) (good : Bool) : FaultKept d c (c.endSeal k good) := by
  unfold Core.endSeal
  split
  · next q why _ _ =>
    have sealed := (onSide (d := d) (c := c) q.1 (·.sealed why good)).trans
      (onDrive k (f := fun x => { x with filingFlag := false }) fun _ h => ⟨h, rfl, rfl⟩)
    exact (ite (sealed.trans (evalSuspect _)) sealed).trans (of_same rfl rfl rfl)
  · exact .refl d c

theorem engineTimeout (k : DriveId) (user : Option OpUser) : FaultKept d c (c.engineTimeout k user) := by
  unfold Core.engineTimeout
  split
  · exact onSide _ _
  · exact onSide _ _
  · exact faultHeader
  · exact endSeal k false
  · exact .refl d c

theorem stageHead : FaultKept d c c.stageHead := by
  rw [Core.stageHead_eq]
  exact of_same rfl rfl rfl

theorem engineRelease : FaultKept d c (c.engineRelease e) := by
  unfold Core.engineRelease
  split
  · exact (releaseClaim e _).trans (of_same rfl rfl rfl)
  · exact .refl d c

theorem engineRest (st : EngineState) : FaultKept d c (c.engineRest e st) := engineRelease.trans (of_same rfl rfl rfl)

theorem chooseAgain : FaultKept d c (chooseAgain e c) := by
  unfold Machine.chooseAgain
  split
  · exact engineRest _
  · exact of_same rfl rfl rfl

theorem engineFault (user : Option OpUser) (waits : Bool) : FaultKept d c (engineFault e c d user waits) := by
  unfold Machine.engineFault
  have free : FaultKept d c ((((c.engineTimeout d user).stageHead).engineRelease e).onEngine
      (fun g => { g with attempts := 0, flush := none })) :=
    (((engineTimeout d user).trans stageHead).trans engineRelease).trans (of_same rfl rfl rfl)
  refine ite (ite (free.trans (engineRest _)) (free.trans chooseAgain)) (ite ?_ (.refl d c))
  exact (of_same rfl rfl rfl : FaultKept d c (c.onEngine (fun g => { g with attempts := 0 }))).trans (engineRest _)

end

/-! ### The binding (R25) -/

section
variable {d : DriveId} {c : Core}

theorem dissolveMount (m : MountOp) : FaultKept d c (c.dissolveMount m) := by
  unfold Core.dissolveMount
  split <;> exact of_same rfl rfl rfl

theorem giveUpMount (n : Nat) : FaultKept d c (c.giveUpMount d n) := by
  unfold Core.giveUpMount
  split
  · split
    · exact of_same rfl rfl rfl
    · exact of_same rfl rfl rfl
    · exact ite (dissolveMount _) (.refl d c)
    · exact of_same rfl rfl rfl
    · exact .refl d c
  · exact .refl d c

theorem faultReading : FaultKept d c c.faultReading := by
  unfold Core.faultReading
  split
  · split <;> exact of_same rfl rfl rfl
  · exact .refl d c

theorem faultBinding : FaultKept d c (c.faultBinding d) := by
  unfold Core.faultBinding
  split
  · exact giveUpMount _
  · exact of_same rfl rfl rfl
  · split
    · exact of_same rfl rfl rfl
    · exact .refl d c
  · split
    · exact of_same rfl rfl rfl
    · exact .refl d c
  · exact faultReading
  · exact .refl d c

end

end Core.FaultKept

/-! ### No job keeps a claim (R99) -/

/-- A job that ends leaves the queue, and with it every job of its id. -/
theorem removeJob_leaves (c : Core) (id : JobId) : ∀ k ∈ (c.removeJob id).queue, k.id ≠ id := by
  unfold Core.removeJob
  split
  · simp only
    intro k hk
    have left : k ∈ (c.dropRequester (.job id)).queue.filter (fun k => k.id ≠ id) := by
      split at hk
      · exact hk
      · exact hk
    simpa using (List.mem_filter.mp left).2
  · next h =>
    intro k hk hid
    have := List.find?_eq_none.mp h k hk
    simp [hid] at this

theorem endFaulted_leaves (e : Fixed) (c : Core) (j : Job) : ∀ k ∈ (endFaulted e c j).queue, k.id ≠ j.id := by
  have walk (w : WalkFields) (stop : StopReason) : ∀ k ∈ (endWalk e c j w stop).queue, k.id ≠ j.id := by
    unfold endWalk
    simp only
    split
    · exact removeJob_leaves _ j.id
    · exact removeJob_leaves _ j.id
  have fetch (o : JobOutcome) : ∀ k ∈ (endFetch e c j o).queue, k.id ≠ j.id := removeJob_leaves _ j.id
  unfold endFaulted endCancelled
  split
  all_goals
    split
    · exact walk _ _
    · exact fetch _

/-- The jobs that end one after the other keep what a fault keeps, and none of them is left. -/
theorem foldl_endFaulted_kept (e : Fixed) (d : DriveId) (l : List Job) (c : Core) :
    Core.FaultKept d c (l.foldl (endFaulted e) c) ∧ ∀ j ∈ l, ∀ k ∈ (l.foldl (endFaulted e) c).queue, k.id ≠ j.id := by
  induction l generalizing c with
  | nil => exact ⟨.refl d c, by simp⟩
  | cons j l ih =>
    obtain ⟨kept, left⟩ := ih (endFaulted e c j)
    refine ⟨(Core.FaultKept.endFaulted j).trans kept, fun i hi k hk => ?_⟩
    rcases List.mem_cons.mp hi with rfl | hi
    · obtain ⟨m, hm, hid, -⟩ := kept.queue k hk
      rw [← hid]
      exact endFaulted_leaves e c i m hm
    · exact left i hi k hk

/-- After the jobs with a claim on a faulted drive have ended, no job has one. -/
theorem faultJobs_kept (e : Fixed) (c : Core) (d : DriveId) :
    Core.FaultKept d c (faultJobs e c d) ∧ ∀ k ∈ (faultJobs e c d).queue, k.drive ≠ some d := by
  obtain ⟨kept, left⟩ := foldl_endFaulted_kept e d (c.queue.filter (fun j => j.drive == some d)) c
  refine ⟨kept, fun k hk hkd => ?_⟩
  obtain ⟨j, hj, hid, hdr⟩ := kept.queue k hk
  rcases hdr with hdr | hdr
  · rw [hkd] at hdr
    cases hdr
  · refine left j (List.mem_filter.mpr ⟨hj, ?_⟩) k hk hid.symm
    rw [← hdr, hkd]
    exact beq_self_eq_true _

/-! ### The engine keeps no claim (R25, R75) -/

section
variable {e : Fixed} {c : Core} {d : DriveId}

theorem Core.engineRelease_claim (e : Fixed) (c : Core) : (c.engineRelease e).engine.claim = none := by
  unfold Core.engineRelease
  split
  · rfl
  · next h => exact h

theorem Core.engineRest_claim (e : Fixed) (c : Core) (st : EngineState) : (c.engineRest e st).engine.claim = none :=
  c.engineRelease_claim e

theorem chooseAgain_claim (h : c.engine.claim = none) : (chooseAgain e c).engine.claim = none := by
  unfold chooseAgain
  split
  · exact c.engineRest_claim e _
  · exact h

theorem engineFault_claim (user : Option OpUser) (waits : Bool) : (engineFault e c d user waits).engine.claim ≠ some d := by
  have none_ {g : Engine} (h : g.claim = none) : g.claim ≠ some d := by
    rw [h]
    nofun
  unfold engineFault
  split
  · simp only
    split
    · exact none_ (Core.engineRest_claim ..)
    · exact none_ (chooseAgain_claim (Core.engineRelease_claim ..))
  · next h =>
    split
    · exact none_ (Core.engineRest_claim ..)
    · exact h

theorem Core.faultBinding_engine : (c.faultBinding d).engine = c.engine := by
  unfold Core.faultBinding
  split
  · unfold Core.giveUpMount
    split
    · split
      · rfl
      · rfl
      · split
        · unfold Core.dissolveMount
          split <;> rfl
        · rfl
      · rfl
      · rfl
    · rfl
  · rfl
  · split <;> rfl
  · split <;> rfl
  · unfold Core.faultReading
    split
    · split <;> rfl
    · rfl
  · rfl

end

/-! ### The fault (R25) -/

/-- A drive that has just become FAULTED, its claims and its binding still to be dealt with. -/
def Drive.down (x : Drive) : Drive := { x with state := .faulted, idle := none, op := none }

/-- A fault with what had the drive told, the record of the drive and its alarm still to be set. -/
def driveFaulting (e : Fixed) (c : Core) (d : DriveId) (user : Option OpUser) : Core :=
  let told := (engineFault e (faultJobs e (c.onDrive d Drive.down) d) d user (c.engineWaitsOn d)).faultBinding d
  match (c.drives.get d).bound with
  | some b => told.endBoundMount b
  | none => told

/-- All that a drive fault does at its end. -/
theorem driveFault_eq (e : Fixed) (c : Core) (d : DriveId) (user : Option OpUser) : driveFault e c d user =
    let b := driveFaulting e c d user
    let y := alarmSet (b.alarms, b.links) (.driveFault d)
    { b with
      drives := b.drives.set d { b.drives.get d with service := [], claims := 0, bound := none }, alarms := y.1, links := y.2 } := by
  unfold driveFault
  rw [Core.setAlarm_eq]
  rfl

/-- What holds of the core before the record and the alarm are set. -/
theorem driveFaulting_kept (e : Fixed) (c : Core) (d : DriveId) (user : Option OpUser) :
    let b := driveFaulting e c d user
    b.downed d ∧ b.engine.claim ≠ some d ∧ (∀ k ∈ b.queue, k.drive ≠ some d) ∧
      (.driveFault d ∈ b.alarms ↔ .driveFault d ∈ c.alarms) := by
  obtain ⟨jobs, free⟩ := faultJobs_kept e (c.onDrive d Drive.down) d
  let c2 := engineFault e (faultJobs e (c.onDrive d Drive.down) d) d user (c.engineWaitsOn d)
  have later : Core.FaultKept d (faultJobs e (c.onDrive d Drive.down) d) (c2.faultBinding d) :=
    (Core.FaultKept.engineFault user _).trans .faultBinding
  have claim : (c2.faultBinding d).engine.claim ≠ some d := by
    rw [Core.faultBinding_engine]
    exact engineFault_claim user _
  have down : (c.onDrive d Drive.down).downed d := by
    unfold Core.downed Core.onDrive
    simp only [Four.get_set_same]
    exact ⟨rfl, rfl, rfl⟩
  have end_ {b : Core} (h : Core.FaultKept d (c2.faultBinding d) b) (he : b.engine = (c2.faultBinding d).engine) :
      b.downed d ∧ b.engine.claim ≠ some d ∧ (∀ k ∈ b.queue, k.drive ≠ some d) ∧
        (.driveFault d ∈ b.alarms ↔ .driveFault d ∈ c.alarms) := by
    have all := later.trans h
    refine ⟨all.drive (jobs.drive down), by rw [he]; exact claim, fun k hk hkd => ?_, all.alarm.trans jobs.alarm⟩
    obtain ⟨j, hj, -, hdr⟩ := all.queue k hk
    rcases hdr with hdr | hdr
    · rw [hkd] at hdr
      cases hdr
    · exact free j hj (hdr.symm.trans hkd)
  unfold driveFaulting
  split
  · exact end_ (.of_same rfl rfl rfl) rfl
  · exact end_ (.refl d _) rfl

/-- An alarm that is set stands, and is told to every link where it did not stand (R189). -/
theorem mem_alarmSet (x : List Alarm × Four LinkUnit) (a : Alarm) : a ∈ (alarmSet x a).1 := by
  unfold alarmSet
  split
  · next h => exact h
  · simp [withAlarm]

theorem alarmSet_told {x : List Alarm × Four LinkUnit} {a : Alarm} (h : a ∉ x.1) :
    ∃ links, (alarmSet x a).2 = toldAll links (.alarm a true (alarmSet x a).1) := by
  unfold alarmSet
  rw [if_neg h]
  exact ⟨_, rfl⟩

/-- What a drive fault always leaves (R25, R75, R99, R189). -/
theorem driveFault_leaves (e : Fixed) (c : Core) (d : DriveId) (user : Option OpUser) :
    let u := driveFault e c d user
    (let y := u.drives.get d
     y.state = .faulted ∧ y.op = none ∧ y.claims = 0 ∧ y.service = [] ∧ y.bound = none ∧ y.idle = none) ∧
    u.engine.claim ≠ some d ∧ (∀ j ∈ u.queue, j.drive ≠ some d) ∧ .driveFault d ∈ u.alarms ∧
    (.driveFault d ∉ c.alarms → ∃ links, u.links = toldAll links (.alarm (.driveFault d) true u.alarms)) := by
  obtain ⟨⟨state, op, idle⟩, claim, queue, alarm⟩ := driveFaulting_kept e c d user
  rw [driveFault_eq]
  refine ⟨?_, claim, queue, ?_, fun h => ?_⟩
  · simp only [Four.get_set_same]
    exact ⟨state, op, trivial, trivial, trivial, idle⟩
  · exact mem_alarmSet _ _
  · exact alarmSet_told fun hm => h (alarm.mp hm)

end Sys2Proof.Machine
end

section
/-! SUPPORT. A drive fault in the terms of its statement (R25, R75, R99, R110): the jobs that it ends, one after the other, and the
engine that holds its claim for a flush. -/

namespace Sys2Proof.Machine

/-! ### The charge of a walk (R118) -/

/-- A core with other tallies and another courtesy list. -/
def Core.withTallies (c : Core) (ts : Vector StationTally 16) (l : CourtesyList) : Core := { c with tallies := ts, courtesy := l }

/-- What a charge adds, and what it tells, is by the tallies and the courtesy list alone. -/
theorem Core.charge_congr {c c' : Core} (ht : c'.tallies = c.tallies) (hc : c'.courtesy = c.courtesy) (it : Item) :
    c'.charge it = (c'.withTallies (c.charge it).1.tallies (c.charge it).1.courtesy, (c.charge it).2) := by
  unfold Core.charge Core.chargeComputed Core.addTally Core.withTallies
  simp only [ht, hc]
  split
  · rfl
  · rw [← hc]

/-- A job leaves the queue whatever the tallies and the courtesy list hold. -/
theorem removeJob_withTallies (c : Core) (ts : Vector StationTally 16) (l : CourtesyList) (id : JobId) (b : JobDone) :
    ((c.withTallies ts l).removeJob id).jobDone id b = ((c.removeJob id).jobDone id b).withTallies ts l := by
  unfold Core.removeJob
  rw [show (c.withTallies ts l).job id = c.job id from rfl]
  cases c.job id with
  | none => rfl
  | some j =>
    simp only
    split <;> rfl

/-! ### One job (R99, R110) -/

/-- The outcome and the stop reason of a job that a drive fault ends. -/
def Job.faultOutcome (j : Job) : JobOutcome := if j.cancelled = true then .cancelled else .failed .driveFault
def Job.faultStop (j : Job) : StopReason := if j.cancelled = true then .cancelled else .driveFault

/-- What the end of a job by a drive fault tells and charges. -/
def Core.faultTold (c : Core) (j : Job) : Core :=
  let told (b : JobDone) : Four LinkUnit := answered c.links { link := j.id.link, tag := j.id.tag } (.job b)
  match j.walk with
  | none => { c with links := told { outcome := j.faultOutcome, stop := none, amount := j.sent, charge := none } }
  | some w =>
    if w.steps = 0 then { c with links := told { outcome := j.faultOutcome, stop := some j.faultStop, amount := 0, charge := none } }
    else
      let p := c.charge (j.item true)
      { c with
        tallies := p.1.tallies
        courtesy := p.1.courtesy
        links := told { outcome := .done, stop := some j.faultStop, amount := w.steps, charge := some p.2 } }

/-- The end of a job by a drive fault is that of a FETCH or of a walk. -/
theorem endFaulted_eq (e : Fixed) (c : Core) (j : Job) : endFaulted e c j =
    match j.walk with
    | some w => endWalk e c j w j.faultStop
    | none => endFetch e c j j.faultOutcome := by
  unfold endFaulted endCancelled Job.faultStop Job.faultOutcome
  cases j.cancelled <;> cases j.walk <;> rfl

theorem Job.faultStop_outcome (j : Job) : j.faultStop.outcomeNoSteps = j.faultOutcome := by
  unfold Job.faultStop Job.faultOutcome
  cases j.cancelled <;> rfl

theorem Job.faultStop_partial (j : Job) : j.faultStop.partialReason = true := by
  unfold Job.faultStop
  cases j.cancelled <;> rfl

/-- The end of a walk by a drive fault, its claim released: without a charge, or with the charge of its steps. -/
theorem endWalk_faulted {e : Fixed} {c c1 : Core} {j : Job} {w : WalkFields} (hw : j.walk = some w)
    (h1 : (c.onJob j.id (fun k => { k with walk := some { w with stop := some j.faultStop } })).unclaimJob e j.id = c1)
    (ht : c1.tallies = c.tallies) (hc : c1.courtesy = c.courtesy) : endWalk e c j w j.faultStop =
      if w.steps = 0 then
        (c1.removeJob j.id).jobDone j.id { outcome := j.faultOutcome, stop := some j.faultStop, amount := 0, charge := none }
      else
        let p := c.charge (j.item true)
        ((c1.removeJob j.id).jobDone j.id
          { outcome := .done, stop := some j.faultStop, amount := w.steps, charge := some p.2 }).withTallies
            p.1.tallies p.1.courtesy := by
  have item : Job.item { j with walk := some { w with stop := some j.faultStop } } j.faultStop.partialReason = j.item true := by
    rw [j.faultStop_partial]
    unfold Job.item
    rw [hw]
  unfold endWalk
  simp only [h1, item, j.faultStop_outcome, Core.charge_congr ht hc, removeJob_withTallies]

/-- A core that a job with a claim on drive `d` has left: its claim is released, and with it its place in the service order, the
queue, the waiting requests and the mount operations (R27, R28, R36, R80). -/
def Core.jobLeft (c : Core) (s : State) (d : DriveId) (id : JobId) : Core :=
  { c with
    drives := c.drives.set d (unclaimed s { c.drives.get d with service := (c.drives.get d).service.filter (· ≠ id) })
    queue := c.queue.filter (fun j => j.id ≠ id)
    requests := c.requests.filter (fun q => q.who ≠ .job id)
    mounts := c.mounts.map (fun m => { m with requesters := m.requesters.filter (· ≠ .job id) }) }

/-- A core with what another has told and charged. -/
def Core.withBooks (c b : Core) : Core := { c with links := b.links, tallies := b.tallies, courtesy := b.courtesy }

/-- A job that holds a claim on drive `d` leaves the core, and tells and charges its end. -/
theorem endFaulted_claimed {s : State} {c : Core} {d : DriveId} {j : Job} (h : c.job j.id = some j) (hd : j.drive = some d)
    (hs : j.state ≠ .waitOperator) : endFaulted s.toFixed c j = (c.jobLeft s d j.id).withBooks (c.faultTold j) := by
  rw [endFaulted_eq]
  unfold Core.faultTold
  cases hw : j.walk with
  | none => exact job_ended s c d j.id j _ h hd hs
  | some w =>
    let stopped (k : Job) : Job := { k with walk := some { w with stop := some j.faultStop } }
    have ended (b : JobDone) := job_ended_onJob s c d j.id j b stopped (fun _ => rfl) h hd hs
    have books : ((c.onJob j.id stopped).unclaimJob s.toFixed j.id).tallies = c.tallies ∧
        ((c.onJob j.id stopped).unclaimJob s.toFixed j.id).courtesy = c.courtesy := by
      unfold Core.unclaimJob
      split <;> exact ⟨rfl, rfl⟩
    simp only
    rw [endWalk_faulted hw rfl books.1 books.2]
    split
    · exact ended _
    · simp only
      rw [ended _]
      rfl

/-- A job that has left the queue already only tells and charges. -/
theorem endFaulted_gone {e : Fixed} {c : Core} {j : Job} (h : c.job j.id = none) : endFaulted e c j = c.faultTold j := by
  have absent (k : Job) (hk : k ∈ c.queue) : ¬k.id = j.id := by
    have := List.find?_eq_none.mp h k hk
    simpa using this
  have same (f : Job → Job) : c.onJob j.id f = c := by
    have : c.queue.map (fun k => if k.id = j.id then f k else k) = c.queue :=
      (List.map_congr_left fun k hk => if_neg (absent k hk)).trans (List.map_id' _)
    unfold Core.onJob
    rw [this]
  have unclaimed : c.unclaimJob e j.id = c := by
    unfold Core.unclaimJob
    rw [h]
    rfl
  have removed : c.removeJob j.id = c := by
    unfold Core.removeJob
    rw [h]
  rw [endFaulted_eq]
  unfold Core.faultTold
  cases hw : j.walk with
  | none =>
    simp only [endFetch]
    rw [unclaimed, removed, Core.jobDone_told]
  | some w =>
    simp only
    rw [endWalk_faulted hw ((congrArg (·.unclaimJob e j.id) (same _)).trans unclaimed) rfl rfl, removed]
    split
    · rw [Core.jobDone_told]
    · simp only [Core.jobDone_told]
      rfl

/-! ### All of them -/

/-- Two cores that have told and charged the same. -/
def Core.sameBooks (c c' : Core) : Prop := c.links = c'.links ∧ c.tallies = c'.tallies ∧ c.courtesy = c'.courtesy

/-- What the end of a job tells and charges is by what has been told and charged before alone. -/
theorem faultTold_congr {c c' : Core} (h : c.sameBooks c') (j : Job) : (c.faultTold j).sameBooks (c'.faultTold j) := by
  obtain ⟨hl, ht, hc⟩ := h
  unfold Core.faultTold
  cases j.walk with
  | none =>
    simp only [hl]
    exact ⟨rfl, ht, hc⟩
  | some w =>
    simp only [hl, Core.charge_congr ht hc]
    split
    · exact ⟨rfl, ht, hc⟩
    · exact ⟨rfl, rfl, rfl⟩

theorem foldl_faultTold_congr (l : List Job) {c c' : Core} (h : c.sameBooks c') :
    (l.foldl Core.faultTold c).sameBooks (l.foldl Core.faultTold c') := by
  induction l generalizing c c' with
  | nil => exact h
  | cons j l ih => exact ih (faultTold_congr h j)

theorem Core.withBooks_congr {c b b' : Core} (h : b.sameBooks b') : c.withBooks b = c.withBooks b' := by
  obtain ⟨hl, ht, hc⟩ := h
  unfold Core.withBooks
  rw [hl, ht, hc]

/-- Nothing but what is told and charged changes. -/
theorem Core.faultTold_only (c : Core) (j : Job) : c.faultTold j = c.withBooks (c.faultTold j) := by
  unfold Core.faultTold
  cases j.walk with
  | none => rfl
  | some w =>
    simp only
    split <;> rfl

/-- A core that the jobs of a list have left: the fields that list them, and what they have told and charged. -/
def Core.jobsLeft (c : Core) (l : List Job) : Core :=
  let told := l.foldl Core.faultTold c
  { c with
    queue := c.queue.filter (fun j => l.all (fun k => j.id ≠ k.id))
    requests := c.requests.filter (fun q => l.all (fun k => q.who ≠ .job k.id))
    mounts := c.mounts.map (fun m => { m with requesters := m.requesters.filter (fun r => l.all (fun k => r ≠ .job k.id)) })
    links := told.links
    tallies := told.tallies
    courtesy := told.courtesy }

/-- Whether a thing is none of those of the jobs of a list: one more job of an id in the list makes no difference. -/
theorem all_ne_again {α : Type} [DecidableEq α] {l : List Job} {j : Job} (h : ∃ k ∈ l, k.id = j.id) (g : JobId → α) (x : α) :
    (l ++ [j]).all (fun k => decide (x ≠ g k.id)) = l.all (fun k => decide (x ≠ g k.id)) := by
  obtain ⟨k, hk, hid⟩ := h
  rw [List.all_append, Bool.and_eq_left_iff_imp]
  intro ha
  simpa [hid] using List.all_eq_true.mp ha k hk

theorem all_ne_snoc {α : Type} [DecidableEq α] (l : List Job) (j : Job) (g : JobId → α) (x : α) :
    (l ++ [j]).all (fun k => decide (x ≠ g k.id)) = (decide (x ≠ g j.id) && l.all (fun k => decide (x ≠ g k.id))) := by
  rw [List.all_append, Bool.and_comm]
  simp

/-- One more job of an id that has left already changes what is told and charged only. -/
theorem Core.jobsLeft_again (c : Core) {l : List Job} {j : Job} (h : ∃ k ∈ l, k.id = j.id) :
    c.jobsLeft (l ++ [j]) = (c.jobsLeft l).withBooks ((l.foldl Core.faultTold c).faultTold j) := by
  unfold Core.jobsLeft Core.withBooks
  simp only [List.foldl_append, List.foldl_cons, List.foldl_nil, all_ne_again h Requester.job, all_ne_again h (fun i => i)]

/-- One more job that is there leaves as the others have. -/
theorem Core.jobsLeft_snoc (c : Core) (s : State) (d : DriveId) (l : List Job) (j : Job) :
    c.jobsLeft (l ++ [j]) =
      { ((c.jobsLeft l).jobLeft s d j.id).withBooks ((l.foldl Core.faultTold c).faultTold j) with drives := c.drives } := by
  unfold Core.jobsLeft Core.jobLeft Core.withBooks
  simp only [List.foldl_append, List.foldl_cons, List.foldl_nil, List.filter_filter, List.map_map,
    all_ne_snoc l j Requester.job, all_ne_snoc l j (fun i => i), Function.comp_def]

/-- The jobs of the ids of a list are gone, and those of other ids are there as before. -/
theorem Core.job_jobsLeft_again {c : Core} {l : List Job} {j : Job} (h : ∃ k ∈ l, k.id = j.id) :
    (c.jobsLeft l).job j.id = none := by
  obtain ⟨k, hk, hid⟩ := h
  refine List.find?_eq_none.mpr fun i hi => ?_
  have := List.all_eq_true.mp (List.mem_filter.mp hi).2 k hk
  simpa [hid] using this

theorem Core.job_jobsLeft {c : Core} {l : List Job} {j : Job} (h : ¬∃ k ∈ l, k.id = j.id) :
    (c.jobsLeft l).job j.id = c.job j.id := by
  unfold Core.job Core.jobsLeft
  rw [List.find?_filter]
  refine congrArg (fun p => List.find? p c.queue) (funext fun i => ?_)
  by_cases hi : i.id = j.id
  · have : ∀ k ∈ l, ¬j.id = k.id := fun k hk hid => h ⟨k, hk, hid.symm⟩
    simpa [hi] using this
  · simp [hi]

/-- A claim released on a drive that is not READY (R23). -/
theorem unclaimed_resting (s : State) {x : Drive} (h : x.state ≠ .ready) :
    unclaimed s x = { x with claims := x.claims - 1, lastUse := s.secondCount } := by
  unfold unclaimed
  simp [h]

/-- The jobs that a fault of drive `d` ends leave the core, and of the drive's record only the claim count, the service order and the
last-use time change (R23, R99). -/
theorem foldl_endFaulted {s : State} {c : Core} {d : DriveId} (hx : (c.drives.get d).state ≠ .ready) (l : List Job)
    (hl : ∀ j ∈ l, j.drive = some d ∧ j.state ≠ .waitOperator ∧ c.job j.id = some j) :
    ∃ service claims, l.foldl (endFaulted s.toFixed) c =
      { c.jobsLeft l with
        drives := c.drives.set d { c.drives.get d with
          service, claims, lastUse := if l = [] then (c.drives.get d).lastUse else s.secondCount } } := by
  induction l using List.reverseRecOn with
  | nil =>
    refine ⟨(c.drives.get d).service, (c.drives.get d).claims, ?_⟩
    rw [if_pos rfl]
    change c = { c.jobsLeft [] with drives := c.drives.set d (c.drives.get d) }
    simp [Core.jobsLeft]
  | append_singleton l j ih =>
    obtain ⟨hd, hs, hj⟩ := hl j (by simp)
    obtain ⟨service, claims, ih⟩ := ih fun k hk => hl k (List.mem_append_left _ hk)
    obtain ⟨x, hx'⟩ : ∃ x, x = { c.drives.get d with
      service, claims, lastUse := if l = [] then (c.drives.get d).lastUse else s.secondCount } := ⟨_, rfl⟩
    rw [← hx'] at ih
    rw [List.foldl_append, List.foldl_cons, List.foldl_nil, ih, if_neg (by simp)]
    obtain ⟨b, hb⟩ : ∃ b : Core, b = { c.jobsLeft l with drives := c.drives.set d x } := ⟨_, rfl⟩
    have drive : b.drives.get d = x := by
      rw [hb]
      exact Four.get_set_same ..
    have jobs : b.job j.id = (c.jobsLeft l).job j.id := by
      rw [hb]
      rfl
    have books : (b.faultTold j).sameBooks ((l.foldl Core.faultTold c).faultTold j) :=
      faultTold_congr (by rw [hb]; exact ⟨rfl, rfl, rfl⟩) j
    rw [← hb]
    by_cases h : ∃ k ∈ l, k.id = j.id
    · have some_ : l ≠ [] := fun hn => by simp [hn] at h
      refine ⟨service, claims, ?_⟩
      rw [endFaulted_gone (jobs.trans (Core.job_jobsLeft_again h)), Core.faultTold_only, Core.withBooks_congr books,
        c.jobsLeft_again h, hb, hx', if_neg some_]
      rfl
    · have there : b.job j.id = some j := (jobs.trans (Core.job_jobsLeft h)).trans hj
      have resting : x.state ≠ .ready := by
        rw [hx']
        exact hx
      refine ⟨x.service.filter (· ≠ j.id), x.claims - 1, ?_⟩
      have released := unclaimed_resting s (x := { x with service := x.service.filter (· ≠ j.id) }) resting
      rw [endFaulted_claimed there hd hs, Core.withBooks_congr books, c.jobsLeft_snoc s d l j]
      simp only [Core.jobLeft, drive, released]
      simp only [Core.withBooks, hb, Four.set_set, hx']

end Sys2Proof.Machine
end

section
/-! SUPPORT. The fault of a drive by its event (R24, R25, R75): which commands bring it about, the state it leaves where the engine has
nothing to do with it, and where the engine holds its claim for a flush. -/

namespace Sys2Proof.Machine

section
variable {s : State} {d : DriveId}

/-- The jobs that hold a claim on a drive. -/
def State.claiming (s : State) (d : DriveId) : List Job := s.queue.filter (fun j => j.drive = some d)

/-- The jobs of a fault are those that hold a claim. -/
theorem faultJobs_eq (c : Core) (hq : c.queue = s.queue) (e : Fixed) :
    faultJobs e c d = (s.claiming d).foldl (endFaulted e) c := by
  unfold faultJobs State.claiming
  rw [hq]
  exact congrArg (List.foldl _ c) (List.filter_congr fun j _ => by rw [Bool.eq_iff_iff]; simp)

/-- What a fault of a drive makes of the core: the same whether the operation that brought it about has ended already. -/
theorem driveFault_idled (e : Fixed) (user : Option OpUser) :
    driveFault e (s.idled d).toCore d user = driveFault e s.toCore d user := by
  have down : (s.idled d).toCore.onDrive d Drive.down = s.toCore.onDrive d Drive.down := by
    unfold Core.onDrive
    rw [s.idled_drive]
    simp only [State.idled, Four.set_set]
    rfl
  have waits : (s.idled d).toCore.engineWaitsOn d = s.toCore.engineWaitsOn d := by
    unfold Core.engineWaitsOn Core.drv
    rw [s.idled_drive]
    rfl
  have faulting : driveFaulting e (s.idled d).toCore d user = driveFaulting e s.toCore d user := by
    unfold driveFaulting
    rw [down, waits, s.idled_drive]
  rw [driveFault_eq, driveFault_eq, faulting]

/-- A state whose drive `d` is FAULTED and without claims, binding and service order, its last-use time given, and the jobs that
held a claim on it ended (R25, R99). -/
def State.faultedDrive (s : State) (d : DriveId) (lastUse : Nat) : State :=
  { s with
    toCore := { s.toCore.jobsLeft (s.claiming d) with
      drives := s.drives.set d { (s.drives.get d).down with service := [], claims := 0, bound := none, lastUse } } }

/-- A state with frames told, and DRIVE_FAULT after them (R189). -/
def State.faultAlarmed (s : State) (d : DriveId) (alarms : List Alarm) (links : Four LinkUnit) : State :=
  let y := alarmSet (alarms, links) (.driveFault d)
  { s with alarms := y.1, links := y.2 }

/-- The frames that what had bound a drive is told, where nothing or a service MOVE has (R25, R45). -/
def bindingTold (b : Option Binding) (links : Four LinkUnit) : Four LinkUnit :=
  match b with
  | some (.service sv) => answered links sv.by_ (.media .faulted (some sv.slot))
  | _ => links

/-- An engine that neither holds the claim nor waits on the drive has nothing to do with its fault (R75). -/
theorem engineFault_apart {e : Fixed} (user : Option OpUser) {c : Core} (h : c.engine.claim ≠ some d) :
    engineFault e c d user false = c := by
  unfold engineFault
  rw [if_neg h, if_neg nofun]

theorem Core.faultBinding_none {c : Core} (h : (c.drives.get d).bound = none) : c.faultBinding d = c := by
  unfold Core.faultBinding Core.drv
  rw [h]

theorem Core.faultBinding_service {c : Core} {sv : ServiceMove} (h : (c.drives.get d).bound = some (.service sv)) :
    c.faultBinding d = { c with links := answered c.links sv.by_ (.media .faulted (some sv.slot)) } := by
  unfold Core.faultBinding Core.drv
  rw [h]
  exact Core.mediaDone_told ..

/-- A service MOVE's binding has no mount operation that lasts as long (R150). -/
theorem Core.endBoundMount_service (c : Core) (sv : ServiceMove) : c.endBoundMount (.service sv) = c := by
  have kept : c.mounts.filter (fun m => !m.target.heldBy (.service sv)) = c.mounts :=
    List.filter_eq_self.mpr fun m _ => by cases m.target <;> rfl
  unfold Core.endBoundMount
  rw [kept]

/-- The fault of a drive that the engine has nothing to do with, and nothing or a service MOVE has bound (R25, R99, R110). -/
theorem driveFault_jobs {user : Option OpUser} (hj : ∀ j ∈ s.claiming d, s.toCore.job j.id = some j ∧ j.state ≠ .waitOperator)
    (he : s.engine.claim ≠ some d) (hw : s.toCore.engineWaitsOn d = false)
    (hb : (s.drives.get d).bound = none ∨ ∃ sv, (s.drives.get d).bound = some (.service sv)) :
    { s with toCore := driveFault s.toFixed s.toCore d user } =
      (s.faultedDrive d (if s.claiming d = [] then (s.drives.get d).lastUse else s.secondCount)).faultAlarmed d s.alarms
        (bindingTold (s.drives.get d).bound ((s.claiming d).foldl Core.faultTold s.toCore).links) := by
  let c1 := s.toCore.onDrive d Drive.down
  have down : c1.drives.get d = (s.drives.get d).down := Four.get_set_same ..
  have resting : (c1.drives.get d).state ≠ .ready := by
    rw [down]
    nofun
  obtain ⟨service, claims, jobs⟩ := foldl_endFaulted (s := s) resting (s.claiming d) fun j h =>
    ⟨of_decide_eq_true (List.mem_filter.mp h).2, (hj j h).2, (hj j h).1⟩
  obtain ⟨links, tallies, courtesy⟩ := foldl_faultTold_congr (s.claiming d) (c := c1) (c' := s.toCore) ⟨rfl, rfl, rfl⟩
  obtain ⟨b, hb'⟩ : ∃ b : Core, b = { s.toCore.jobsLeft (s.claiming d) with
      drives := s.drives.set d { (s.drives.get d).down with
        service, claims, lastUse := if s.claiming d = [] then (s.drives.get d).lastUse else s.secondCount } } := ⟨_, rfl⟩
  have ended : (s.claiming d).foldl (endFaulted s.toFixed) c1 = b := by
    rw [jobs, hb']
    simp only [Core.jobsLeft, down]
    rw [links, tallies, courtesy]
    simp only [c1, Core.onDrive, Four.set_set]
    rfl
  have bound : (b.drives.get d).bound = (s.drives.get d).bound := by
    rw [hb']
    simp only [Four.get_set_same]
    rfl
  have apart : b.engine.claim ≠ some d := by
    rw [hb']
    exact he
  have faulting : driveFaulting s.toFixed s.toCore d user = { b with
      links := bindingTold (s.drives.get d).bound ((s.claiming d).foldl Core.faultTold s.toCore).links } := by
    unfold driveFaulting
    rw [hw, faultJobs_eq (s := s) (s.toCore.onDrive d Drive.down) rfl, ended, engineFault_apart user apart]
    rcases hb with hb | ⟨sv, hb⟩
    · rw [Core.faultBinding_none (bound.trans hb), hb, hb']
      rfl
    · rw [Core.faultBinding_service (bound.trans hb), hb]
      simp only [Core.endBoundMount_service]
      rw [hb']
      rfl
  rw [driveFault_eq, faulting, hb']
  simp only [Four.set_set, Four.get_set_same]
  rfl

/-- The head goes back to STAGED from WRITING or VERIFYING alone (R58). -/
theorem Core.stageHead_staged {c : Core} (h : ∀ p ∈ c.pendingList.head?, p.state = .staged) : c.stageHead = c := by
  unfold Core.stageHead Core.headState
  cases hp : c.pendingList.head? with
  | none => exact if_neg (by nofun)
  | some p => exact if_neg (by simp [h p hp])

/-- An engine without a claim goes to rest (R59, R60). -/
theorem Core.engineRest_free {e : Fixed} {c : Core} {st : EngineState} (h : c.engine.claim = none) : c.engineRest e st =
    { c with
      requests := c.requests.filter (fun q => q.who ≠ .engine)
      mounts := c.mounts.map (fun m => { m with requesters := m.requesters.filter (· ≠ .engine) })
      engine := { c.engine with state := st } } := by
  have kept : c.engineRelease e = c := by
    unfold Core.engineRelease
    rw [h]
  unfold Core.engineRest
  rw [kept]
  rfl

/-- The state of a flush that the fault of its drive has ended: the engine STALLED, without its claim (R75). -/
def State.flushFaulted (s : State) (d : DriveId) : State :=
  { s with
    drives := s.drives.set d { (s.drives.get d).down with service := [], claims := 0, bound := none, lastUse := s.secondCount }
    requests := s.requests.filter (fun q => q.who ≠ .engine)
    mounts := s.mounts.map (fun m => { m with requesters := m.requesters.filter (· ≠ .engine) })
    engine := { s.engine with state := .stalled .driveFault, claim := none, attempts := 0, flush := none } }

/-- The fault of the drive on which the engine flushes, where no job holds a claim on it (R75). -/
theorem driveFault_flush (hb : (s.drives.get d).bound = none) (hj : s.claiming d = []) (he : s.engine.claim = some d)
    (ho : s.toCore.openSide ≠ none) (hi : s.inventory = none) (hh : ∀ p ∈ s.pendingList.head?, p.state = .staged) :
    { s with toCore := driveFault s.toFixed s.toCore d (some .engineFlush) } =
      (s.flushFaulted d).faultAlarmed d s.alarms s.links := by
  obtain ⟨c1, hc1⟩ : ∃ c1, c1 = s.toCore.onDrive d Drive.down := ⟨_, rfl⟩
  have down : c1.drives.get d = (s.drives.get d).down := by
    rw [hc1]
    exact Four.get_set_same ..
  have flush : c1.engineTimeout d (some .engineFlush) = c1 := by
    unfold Core.engineTimeout
    cases c1.openAndHead <;> rfl
  have staged : c1.stageHead = c1 := Core.stageHead_staged (by rw [hc1]; exact hh)
  have claim : c1.engine.claim = some d := by
    rw [hc1]
    exact he
  obtain ⟨q, hq⟩ := Option.ne_none_iff_exists'.mp ho
  have faulting : driveFaulting s.toFixed s.toCore d (some .engineFlush) =
      { (s.flushFaulted d).toCore with drives := s.drives.set d (unclaimed s (s.drives.get d).down) } := by
    obtain ⟨c2, hc2⟩ : ∃ c2, c2 = (c1.engineRelease s.toFixed).onEngine (fun g => { g with attempts := 0, flush := none }) :=
      ⟨_, rfl⟩
    have released : c2 = { s.toCore with
        drives := s.drives.set d (unclaimed s (s.drives.get d).down)
        engine := { s.engine with claim := none, attempts := 0, flush := none } } := by
      rw [hc2, Core.engineRelease_eq s c1 d claim, down, hc1]
      simp only [Core.onDrive, Core.onEngine, Four.set_set]
    have filing : c2.filingSide = some q := Core.filingSide_eq (by rw [released]; exact hi)
      ((Core.openSide_congr (c := s.toCore) (by rw [released])).trans hq)
    have fault (waits : Bool) : engineFault s.toFixed c1 d (some .engineFlush) waits = c2.engineRest s.toFixed (.stalled .driveFault) := by
      unfold engineFault
      rw [if_pos claim, flush, staged, ← hc2]
      exact if_pos (by rw [filing]; rfl)
    unfold driveFaulting
    rw [faultJobs_eq (s := s) (s.toCore.onDrive d Drive.down) rfl, hj, List.foldl_nil, ← hc1, fault,
      Core.engineRest_free (by rw [released]), hb, released]
    exact Core.faultBinding_none (by simp [unclaimed, Drive.down, hb])
  rw [driveFault_eq, faulting]
  simp only [Four.set_set, Four.get_set_same, unclaimed_resting s (x := (s.drives.get d).down) nofun]
  rfl

end

/-! ### Its events (R24, R25) -/

/-- A TIMEOUT of an operation that stands at its 60 s leads to what `operationTimeout` makes of it, and what follows. -/
theorem timeout_leads {s u : State} {d : DriveId} {o : DriveOp} {c : Core} (hd : s.resetDue = false)
    (ho : (s.drives.get d).op = some o) (hn : o.timer = 0) (hf : operationTimeout s.toFixed s.toCore d o = c)
    (hu : { s with toCore := c } = u) : ∃ t, exec (.driveOperationTimeout d) s = .next t ∧ ReachedThen t u := by
  refine event_acted (o := updateOrder) (g := takeOperationTimeout d) (f := fun e c => operationTimeout e c d o) hd ?_ ?_
  · unfold takeOperationTimeout
    rw [ho]
    exact if_pos hn
  · rw [← hu, ← hf]
    rfl

/-- One that does not stand at it changes nothing. -/
theorem timeout_early {s : State} {d : DriveId} {o : DriveOp} (ho : (s.drives.get d).op = some o) (hn : o.timer ≠ 0) :
    exec (.driveOperationTimeout d) s = .next s := by
  refine event_same (o := updateOrder) (g := takeOperationTimeout d) ?_
  unfold takeOperationTimeout
  rw [ho]
  exact if_neg hn

/-- A TIMEOUT faults the drive, unless it is that of the EJECT of a CLEAR FAULT. -/
theorem operationTimeout_faults {e : Fixed} {c : Core} {d : DriveId} {o : DriveOp} (hu : o.user ≠ .probe)
    (h : (c.drives.get d).state = .faulted → (c.drives.get d).clearing = none) :
    operationTimeout e c d o = driveFault e c d (some o.user) := by
  unfold operationTimeout Core.drv
  rw [if_neg hu]
  split
  · next hs hc => exact nomatch (h hs).symm.trans hc
  · rfl

theorem operationTimeout_clearing {e : Fixed} {c : Core} {d : DriveId} {o : DriveOp} {by_ : Orderer} (hu : o.user ≠ .probe)
    (hs : (c.drives.get d).state = .faulted) (hc : (c.drives.get d).clearing = some by_) :
    operationTimeout e c d o =
      { c with
        drives := c.drives.set d { c.drives.get d with op := none, clearing := none }
        links := answered c.links by_ (.media .faulted none) } := by
  unfold operationTimeout Core.drv
  rw [if_neg hu, hs, hc]
  exact Core.mediaDone_told ..

/-- A second LOAD+SPIN UP that is not GOOD faults the drive. -/
theorem loadDone_faults {e : Fixed} {c : Core} {d : DriveId} {r : LoadResult} {user : OpUser} {n : Nat} (hu : user ≠ .probe)
    (hr : r ≠ .good) : loadDone e c d r { kind := .loadSpinUp true, user, timer := n } = driveFault e c d none := by
  refine (if_neg hu).trans ?_
  cases r with
  | good => exact absurd rfl hr
  | noMedia | notReady => rfl

end Sys2Proof.Machine
end

section
open Sys2Proof Sys2Proof.Machine

/-- Settles O48: both events that fault a drive lead to `driveFault`, whose parts keep what `Core.FaultKept` says; where the engine has
nothing to do with the drive the jobs end one by one (`foldl_endFaulted`). -/
theorem failedOperationFaultsTheDrive : Obligations.FailedOperationFaultsTheDrive := by
  intro d user kind n s hd hu x hop timeout fails claiming faultedAt ends after ended alarmed leads
  have faults (c : Instr) (hc : fails c) : ∃ user', ∀ u, { s with toCore := driveFault s.toFixed s.toCore d user' } = u →
      ∃ t, exec c s = .next t ∧ ReachedThen t u := by
    rcases hc with ⟨rfl, rfl, hx⟩ | ⟨rfl, r, hr, rfl⟩
    · exact ⟨some user, fun u h => timeout_leads hd hop rfl (operationTimeout_faults hu hx) h⟩
    · refine ⟨none, fun u h => loadDone_leads hd hop ((loadDone_faults hu hr).trans (driveFault_idled _ _)) h⟩
  refine ⟨fun c hc => ?_, fun c hc hj he hw => ⟨fun hb => ?_, fun sv hb => ?_⟩, fun hn hus hs hb hj he ho hi hh => ?_,
    fun o hn hs hc => ?_, fun hn => ?_⟩
  · obtain ⟨user', leads'⟩ := faults c hc
    obtain ⟨t, ht, hr⟩ := leads' _ rfl
    exact ⟨t, _, ht, hr, driveFault_leaves s.toFixed s.toCore d user'⟩
  · obtain ⟨user', leads'⟩ := faults c hc
    refine leads' _ ((driveFault_jobs hj he hw (.inl hb)).trans ?_)
    rw [hb]
    rfl
  · obtain ⟨user', leads'⟩ := faults c hc
    refine leads' _ ((driveFault_jobs hj he hw (.inr ⟨sv, hb⟩)).trans ?_)
    rw [hb]
    rfl
  · subst hn hus
    exact timeout_leads hd hop rfl (operationTimeout_faults hu fun h => absurd h hs) (driveFault_flush hb hj he ho hi hh)
  · subst hn
    exact timeout_leads hd hop rfl (operationTimeout_clearing hu hs hc) rfl
  · exact timeout_early hop hn

end


section
/-! SUPPORT. The requests of a SERVICE link to Drive and Picker Control: the core at their examination, what each answer makes of
it, and the effects of HOLD and RELEASE (R40, R41, R176 to R179). -/

namespace Sys2Proof.Machine

/-- The core at the examination of a request: its frame has been heard on the link (R176). -/
def State.heard (s : State) (l : LinkId) : Core := { s.toCore with links := linksAfter s l [] }

/-- A request that its owner takes at the core leads to what its owner makes of the core heard, and what follows. -/
theorem request_leads {k : RequestKind} {role : Role} {r : Request} {own : State → State} {s : State}
    {f : Fixed → Core → Core} {c : Core} (h : From s r.link role) (hp : k.permitted role = true)
    (hl : k.lengthOk r.body = true) (ho : own (s.validFrame r.link) = (s.validFrame r.link).act f)
    (hu : f s.toFixed (s.heard r.link) = c) :
    ∃ t, request k r own s = .next t ∧ ReachedThen t { s with toCore := c } := by
  obtain ⟨hd, rfl⟩ := h
  refine request_acted hd hp hl ho ?_
  rw [validFrame_eq, ← hu]
  rfl

section
variable {c : Core} {s : State} {r : Request}

/-- A frame for an ACTIVE link joins its output list (R178). -/
theorem Core.emit_active {l : LinkId} (h : (c.links.get l).active = true) (f : OutFrame) :
    c.emit l f = { c with links := sendOn c.links l [f] } := by
  simp only [Core.emit, Core.onLink, sendOn, LinkUnit.emit_active _ f h]

/-- The link of a valid frame is ACTIVE (R176). -/
theorem linksAfter_active (s : State) (l : LinkId) (fs : List OutFrame) : ((linksAfter s l fs).get l).active = true := by
  simp [linksAfter]

theorem sendOn_linksAfter (s : State) (l : LinkId) (fs gs : List OutFrame) :
    sendOn (linksAfter s l fs) l gs = linksAfter s l (fs ++ gs) := by
  simp [sendOn, linksAfter]

/-- A frame in answer joins those already produced for the link of the request. -/
theorem Core.emit_heard {fs : List OutFrame} (h : c.links = linksAfter s r.link fs) (f : OutFrame) :
    c.emit r.link f = { c with links := linksAfter s r.link (fs ++ [f]) } := by
  rw [Core.emit_active (h ▸ linksAfter_active s r.link fs), h, sendOn_linksAfter]

theorem Core.answer_heard (h : c.links = linksAfter s r.link []) (b : DoneBody) :
    c.answer r b = { c with links := linksAfter s r.link [.done r.tag b] } := c.emit_heard h _

theorem Core.accept_heard (h : c.links = linksAfter s r.link []) (b : AcceptedBody) :
    c.accept r b = { c with links := linksAfter s r.link [.accepted r.tag b] } := c.emit_heard h _

theorem Core.refuse_heard (h : c.links = linksAfter s r.link []) (k : RefusalCode) :
    c.refuse r k = { c with links := linksAfter s r.link [.refused r.tag k] } := c.emit_heard h _

/-- A hold is granted to another link than `l`, or none is (R40). -/
theorem Core.heldAgainst_iff (c : Core) (l : LinkId) : c.heldAgainst l = true ↔ ∃ h, c.hold = .granted h ∧ h ≠ l := by
  unfold Core.heldAgainst
  cases c.hold <;> simp

theorem Core.heldAgainst_false_iff (c : Core) (l : LinkId) : c.heldAgainst l = false ↔ ∀ h, c.hold = .granted h → h = l := by
  unfold Core.heldAgainst
  cases c.hold <;> simp

end

theorem State.heard_answer (s : State) (r : Request) (b : DoneBody) :
    (s.heard r.link).answer r b = { s.toCore with links := linksAfter s r.link [.done r.tag b] } := Core.answer_heard rfl b

theorem State.heard_accept (s : State) (r : Request) (b : AcceptedBody) :
    (s.heard r.link).accept r b = { s.toCore with links := linksAfter s r.link [.accepted r.tag b] } := Core.accept_heard rfl b

theorem State.heard_refuse (s : State) (r : Request) (k : RefusalCode) :
    (s.heard r.link).refuse r k = { s.toCore with links := linksAfter s r.link [.refused r.tag k] } := Core.refuse_heard rfl k

/-- The answer to a request that has set the hold. -/
theorem State.hold_answer (s : State) (r : Request) (h : Hold) (b : DoneBody) :
    { s.heard r.link with hold := h }.answer r b =
      { s.toCore with hold := h, links := linksAfter s r.link [.done r.tag b] } := Core.answer_heard rfl b

theorem State.hold_accept (s : State) (r : Request) (h : Hold) (b : AcceptedBody) :
    { s.heard r.link with hold := h }.accept r b =
      { s.toCore with hold := h, links := linksAfter s r.link [.accepted r.tag b] } := Core.accept_heard rfl b

@[simp] theorem State.heard_hold (s : State) (l : LinkId) : (s.heard l).hold = s.hold := rfl

@[simp] theorem State.heard_picker (s : State) (l : LinkId) : (s.heard l).picker = s.picker := rfl

end Sys2Proof.Machine
end

section
open Sys2Proof Sys2Proof.Machine

/-- Settles O35, by the hold that stands: none, one granted, one waiting. -/
theorem holdIsGrantedWaitsAndEnds : Obligations.HoldIsGrantedWaitsAndEnds := by
  constructor <;> intro r s h hb
  · intro by_ done accepted refused leads
    have leadsTo {b c : Core} (hc : b = c) (hu : holdRequest r s.toFixed (s.heard r.link) = b) :
        leads { s with toCore := c } := hc ▸ request_leads h rfl (by rw [hb]; rfl) rfl hu
    refine ⟨fun hn hp => leadsTo (s.hold_answer r _ .empty) ?_, fun hn hp => leadsTo (s.hold_accept r _ .empty) ?_,
      fun hg => leadsTo (s.heard_answer r .empty) ?_, fun l hg hl => leadsTo (s.heard_refuse r .held) ?_,
      fun o hw hl => leadsTo (s.hold_accept r _ .empty) ?_, fun o hw hl => leadsTo (s.heard_refuse r .held) ?_⟩
    · simp only [holdRequest, State.heard_hold, State.heard_picker, hn, hp, if_false]
    · simp only [holdRequest, State.heard_hold, State.heard_picker, hn, hp, if_true]
      rfl
    · simp only [holdRequest, State.heard_hold, hg, if_true]
    · simp only [holdRequest, State.heard_hold, hg, hl, if_false]
    · simp only [holdRequest, State.heard_hold, hw, hl, if_true]
      rfl
    · simp only [holdRequest, State.heard_hold, hw, hl, if_false]
  · intro leads own
    have leadsTo {b c : Core} (hc : b = c) (hu : releaseRequest r s.toFixed (s.heard r.link) = b) :
        leads { s with toCore := c } := hc ▸ request_leads h rfl (by rw [hb]; rfl) rfl hu
    refine ⟨fun ho => leadsTo (s.hold_answer r _ .empty) ?_, fun ho => leadsTo (s.heard_refuse r .held) ?_⟩
    · rcases ho with hg | ⟨o, hw, hl⟩
      · simp only [releaseRequest, State.heard_hold, hg, if_true]
      · simp only [releaseRequest, State.heard_hold, hw, hl, if_true]
    · cases hs : s.hold with
      | none => simp only [releaseRequest, State.heard_hold, hs]
      | granted l =>
        have hl : l ≠ r.link := fun hl => ho (.inl (by rw [hs, hl]))
        simp only [releaseRequest, State.heard_hold, hs, hl, if_false]
      | waiting o =>
        have hl : o.link ≠ r.link := fun hl => ho (.inr ⟨o, hs, hl⟩)
        simp only [releaseRequest, State.heard_hold, hs, hl, if_false]

end


section
/-! SUPPORT. The beginning of an unloading, and the service MOVE: the checks of both ways and what a MOVE that passes makes of its
drive and the moves (R29, R32, R45). -/

namespace Sys2Proof.Machine

@[simp] theorem validFrame_core (s : State) (l : LinkId) : (s.validFrame l).toCore = s.heard l :=
  congrArg State.toCore (validFrame_eq s l)

/-! ### An unloading begins -/

/-- A drive record whose unloading has begun under the operation `op`. -/
def Drive.unloadingBy (x : Drive) (op : Option DriveOp) : Drive := { x with state := .unloading, idle := none, op }

/-- A drive record with a binding. -/
def Drive.boundBy (x : Drive) (b : Binding) : Drive := { x with bound := some b }

/-- The operation under which a cartridge is unloaded (R29, R32): an idle SPIN DOWN in flight serves, a SPUN_DOWN drive has EJECT
issued, any other SPIN DOWN. -/
def Drive.unloadOp (x : Drive) : Option DriveOp :=
  if x.idleSpinDown = true then x.op
  else if x.state = .spunDown then issued .eject .mechanism else issued .spinDown .mechanism

section
variable {c : Core} {d : DriveId} {x : Drive}

/-- The beginning of an unloading changes the drive's record only (R32). -/
theorem Core.beginUnload_eq (hx : c.drives.get d = x) :
    c.beginUnload d = { c with drives := c.drives.set d (x.unloadingBy x.unloadOp) } := by
  subst hx
  unfold Core.beginUnload Core.drv Drive.unloadOp
  simp only
  split
  · rfl
  · split <;> simp only [Core.issue, Core.onDrive, Four.set_set, Four.get_set_same] <;> rfl

theorem Drive.unloadOp_idle (h : x.idleSpinDown = true) : x.unloadOp = x.op := if_pos h

theorem Drive.unloadOp_spunDown (h : x.idleSpinDown = false) (hs : x.state = .spunDown) :
    x.unloadOp = issued .eject .mechanism := by
  simp [Drive.unloadOp, h, hs]

theorem Drive.unloadOp_spinning (h : x.idleSpinDown = false) (hs : x.state ≠ .spunDown) :
    x.unloadOp = issued .spinDown .mechanism := by
  simp [Drive.unloadOp, h, hs]

theorem Drive.idleSpinDown_none (h : x.op = none) : x.idleSpinDown = false := by
  unfold Drive.idleSpinDown
  rw [h]

end

/-! ### The checks of a MOVE -/

section
variable {c : Core} {v : SlotId} {d : DriveId} {s : State} {r : Request} {f : MoveFields}

theorem Core.heldForOpening_iff (c : Core) (v : SlotId) :
    c.heldForOpening v = false ↔ ∀ sel, c.selection = some sel → sel.side.slot ≠ v := by
  unfold Core.heldForOpening
  cases c.selection <;> simp

theorem Core.filingBusy_iff (c : Core) (x : Drive) :
    c.filingBusy x = false ↔ (x.filingFlag = true → c.pendingList = []) := by
  unfold Core.filingBusy
  cases x.filingFlag <;> simp

theorem Drive.free_iff (x : Drive) :
    x.free = true ↔ x.state = .empty ∧ x.unnamed = false ∧ x.bound = none ∧ x.op = none := by
  simp [Drive.free, and_assoc]

theorem Core.vol_isSome {l : Location} (h : c.location v = some l) : (c.vol v).isNone = false := by
  unfold Core.location at h
  obtain ⟨x, hx, -⟩ := Option.map_eq_some_iff.mp h
  rw [hx]
  rfl

/-- A MOVE that no check refuses is taken (R45). -/
theorem takeMove_taken (hp : MoveFields.parse r.body = some f) (h : moveRefusal (s.heard r.link) r.link f = none) :
    takeMove r (s.validFrame r.link) = (s.validFrame r.link).act (moveRequest r f) := by
  unfold takeMove
  rw [hp, validFrame_core]
  simp only [h]

theorem takeMove_refused {code : RefusalCode} (hp : MoveFields.parse r.body = some f)
    (h : moveRefusal (s.heard r.link) r.link f = some code) :
    takeMove r (s.validFrame r.link) = (s.validFrame r.link).refuse r code := by
  unfold takeMove
  rw [hp, validFrame_core]
  simp only [h]

/-- Of a present volume, with no hold granted to another link, the check of the volume's way decides (R45). -/
theorem moveRefusal_present {l : LinkId} (hh : c.heldAgainst l = false) (hv : (c.vol f.slot).isNone = false) :
    moveRefusal c l f =
      if (if f.face.isSome then c.mayMoveToDrive f.slot f.drive else c.mayMoveToSlot f.slot f.drive) then none
      else some .mediaBusy := by
  simp [moveRefusal, hh, hv]

end

end Sys2Proof.Machine
end

section
open Sys2Proof Sys2Proof.Machine

/-- Settles O36: the way to a drive, the way to the home slot, and the refusals in the order of R45. -/
theorem serviceMoveIsTakenOrRefused : Obligations.ServiceMoveIsTakenOrRefused := by
  refine ⟨?_, ?_, ?_⟩
  · intro r v d f s h hb hp hold home sel exp empty unnamed bound op sv move
    have held : (s.heard r.link).heldAgainst r.link = false := (Core.heldAgainst_false_iff _ _).mpr hold
    have home : (s.heard r.link).location v = some .home := home
    have may : (s.heard r.link).mayMoveToDrive v d = true := by
      have opening : (s.heard r.link).heldForOpening v = false := (Core.heldForOpening_iff _ _).mpr sel
      have marked : (s.heard r.link).exportMarked v = false := (Core.exportMarked_iff _ _).mpr exp
      have free : ((s.heard r.link).drv d).free = true := (Drive.free_iff _).mpr ⟨empty, unnamed, bound, op⟩
      simp [Core.mayMoveToDrive, home, opening, marked, free]
    refine request_leads h rfl (by simp [RequestKind.lengthOk, hb]) (takeMove_taken hp ?_) ?_
    · rw [moveRefusal_present held (Core.vol_isSome home)]
      exact if_pos may
    · unfold moveRequest
      simp only
      rw [s.heard_accept]
      rfl
  · intro r v d f s h hb hp hold inDrive sel exp x claims bound filing sv leads
    have held : (s.heard r.link).heldAgainst r.link = false := (Core.heldAgainst_false_iff _ _).mpr hold
    have inDrive : (s.heard r.link).location v = some (.inDrive d f) := inDrive
    have may (hu : x.unloadable = true) : (s.heard r.link).mayMoveToSlot v d = true := by
      have opening : (s.heard r.link).heldForOpening v = false := (Core.heldForOpening_iff _ _).mpr sel
      have marked : (s.heard r.link).exportMarked v = false := (Core.exportMarked_iff _ _).mpr exp
      have idle : (s.heard r.link).filingBusy x = false := (Core.filingBusy_iff _ _).mpr filing
      have at_ : f = .a ∨ f = .b := by cases f <;> simp
      have drv : (s.heard r.link).drv d = x := rfl
      rcases at_ with rfl | rfl <;> simp [Core.mayMoveToSlot, drv, inDrive, opening, marked, idle, claims, bound, hu]
    have taken {o : Option DriveOp} (hu : x.unloadable = true) (ho : (x.boundBy (.service sv)).unloadOp = o) : leads o := by
      refine request_leads h rfl (by simp [RequestKind.lengthOk, hb]) (takeMove_taken hp ?_) ?_
      · rw [moveRefusal_present held (Core.vol_isSome inDrive)]
        exact if_pos (may hu)
      · unfold moveRequest
        simp only
        rw [s.heard_accept]
        refine (Core.beginUnload_eq (x := x.boundBy (.service sv)) (Four.get_set_same _ _ _)).trans ?_
        simp only [Core.onDrive, Four.set_set, ho]
        rfl
    refine ⟨fun hs ho => taken ?_ ?_, fun hs ho => taken ?_ ?_, fun hs hi => taken ?_ (Drive.unloadOp_idle hi)⟩
    · simp [Drive.unloadable, Drive.quiet, hs, ho]
    · exact Drive.unloadOp_spinning (Drive.idleSpinDown_none ho) (hs ▸ nofun)
    · simp [Drive.unloadable, Drive.quiet, hs, ho]
    · exact Drive.unloadOp_spunDown (Drive.idleSpinDown_none ho) hs
    · simp [Drive.unloadable, Drive.quiet, hs, hi]
  · intro r f s h hb hp refused free
    have refuses {code : RefusalCode} (hr : moveRefusal (s.heard r.link) r.link f = some code) : refused code := by
      obtain ⟨hd, hl⟩ := h
      have perm : RequestKind.permitted .move (s.links.get r.link).role = true := by rw [hl]; rfl
      have len : RequestKind.lengthOk .move r.body = true := by simp [RequestKind.lengthOk, hb]
      rintro c (rfl | rfl) <;> exact request_refused hd perm len (takeMove_refused hp hr)
    have unheld (hf : free) : (s.heard r.link).heldAgainst r.link = false := (Core.heldAgainst_false_iff _ _).mpr hf
    refine ⟨fun hf => refuses ?_, fun hf hv => refuses ?_, fun hf y hy => ⟨fun hface hloc => refuses ?_,
      fun hface ha hbb => refuses ?_⟩⟩
    · have held : (s.heard r.link).heldAgainst r.link = true :=
        Bool.eq_true_of_not_eq_false (mt (Core.heldAgainst_false_iff _ _).mp hf)
      simp [moveRefusal, held]
    · have vacant : (s.heard r.link).vol f.slot = none := hv
      simp [moveRefusal, unheld hf, vacant]
    · have there : (s.heard r.link).location f.slot = some y.loc := congrArg (Option.map _) hy
      have way : f.face.isSome = true := Option.isSome_iff_ne_none.mpr hface
      have not : (s.heard r.link).mayMoveToDrive f.slot f.drive = false := by simp [Core.mayMoveToDrive, there, hloc]
      rw [moveRefusal_present (unheld hf) (Core.vol_isSome there), way, not]
      rfl
    · have there : (s.heard r.link).location f.slot = some y.loc := congrArg (Option.map _) hy
      have not : (s.heard r.link).mayMoveToSlot f.slot f.drive = false := by simp [Core.mayMoveToSlot, there, ha, hbb]
      rw [moveRefusal_present (unheld hf) (Core.vol_isSome there), hface, not]
      rfl

end


section
/-! SUPPORT. The recovery motions that a SERVICE link orders: who is barred from them, how one begins, and the frames that go before
the answer (R42 to R44, R170, R173). -/

namespace Sys2Proof.Machine

/-- A request whose owner's work is followed by that of the blocks leads to it, and what follows. -/
theorem request_settles {k : RequestKind} {role : Role} {r : Request} {own : State → State} {s u : State}
    (h : From s r.link role) (hp : k.permitted role = true) (hl : k.lengthOk r.body = true)
    (ho : own (s.validFrame r.link) = u.settled) : ∃ t, request k r own s = .next t ∧ ReachedThen t u := by
  obtain ⟨hd, rfl⟩ := h
  exact request_reached hd hp hl ho

/-- What bars a link from a recovery (R42, R44). -/
theorem recoveryBarred_iff (e : Fixed) (c : Core) (l : LinkId) : recoveryBarred e c l = true ↔
    e.panel.level.frontDoor = true ∨ e.panel.level.kLeft = true ∨ e.panel.level.kRight = true ∨
      ∃ h, c.hold = .granted h ∧ h ≠ l := by
  simp only [recoveryBarred, Bool.or_eq_true, Core.heldAgainst_iff, or_assoc]

/-- A notice leaves a link as ACTIVE or SILENT as it was (R180). -/
theorem LinkUnit.deliver_active (u : LinkUnit) (n : Notice) : (u.deliver n).active = u.active := by
  unfold LinkUnit.deliver
  split <;> rfl

theorem toldTo_active (links : Four LinkUnit) (role : Role) (n : Notice) (l : LinkId) :
    ((toldTo links role n).get l).active = (links.get l).active := by
  unfold toldTo
  rw [Four.get_map]
  split
  · exact LinkUnit.deliver_active _ n
  · rfl

end Sys2Proof.Machine
end

section
open Sys2Proof Sys2Proof.Machine

/-- Settles O37: barred, on a HALTED picker, on any other. The stop's end and its notice come first in either. -/
theorem resumeMechanismBeginsTheRecovery : Obligations.ResumeMechanismBeginsTheRecovery := by
  intro r s h hb barred panel told
  have len : RequestKind.lengthOk .resumeMechanism r.body = true := by rw [hb]; rfl
  have bars : recoveryBarred s.toFixed (s.heard r.link) r.link = true ↔ barred := recoveryBarred_iff _ _ _
  have active : (told.get r.link).active = true := by
    unfold told
    split
    · rw [toldTo_active]
      exact linksAfter_active s r.link []
    · exact linksAfter_active s r.link []
  let resumed : State := { s with panel := panel, links := told }
  have unbarred (hn : ¬barred) : takeResume r (s.validFrame r.link) = resumed.act (resumeRequest r) := by
    rw [validFrame_eq]
    refine (if_neg (mt bars.mp hn)).trans ?_
    unfold resumed told
    split <;> rfl
  refine ⟨fun hbar => ?_, fun hn m hs hm => ?_, fun hn hs => ?_⟩
  · refine request_refused h.1 (by rw [h.2]; rfl) len ?_
    rw [validFrame_eq]
    exact if_pos (bars.mpr hbar)
  · refine request_settles h rfl len ((unbarred hn).trans (congrArg State.settled ?_))
    have hs' : resumed.picker.state = .halted := hs
    have hm' : resumed.picker.motion = some m := hm
    simp only [State.onCore, resumeRequest, hs', hm']
    rw [Core.accept, Core.emit_active active]
    rfl
  · refine request_settles h rfl len ((unbarred hn).trans (congrArg State.settled ?_))
    have rest : resumeRequest r resumed.toFixed resumed.toCore = resumed.toCore.answer r (.media .done none) := by
      unfold resumeRequest
      split
      · next hh _ => exact absurd hh hs
      · rfl
    rw [State.onCore, rest, Core.answer, Core.emit_active active]

end


section
/-! SUPPORT. Where a cartridge arrives, what a completed move does for the operation it served, and CLEAR FAULT (R3, R23, R26, R39,
R44). -/

namespace Sys2Proof.Machine

/-! ### Arrivals -/

section
variable {c : Core} {e : Fixed} {m : Move}

/-- What the DONE of a move does, its destination fixed (R3, R39). -/
theorem moveDone_fixed {p : Position} (h : m.dst = .fixed p) :
    moveDone e c m = moveServed e (c.arrive p m.carries) m (driveOfMove m.src p) := by
  unfold moveDone
  rw [h]

/-- A volume that was IN_PICKER stands at its home slot (R3). -/
theorem Core.arrive_slot {v : SlotId} {src dst : Position} (h : c.location v = some (.inPicker src dst)) :
    c.arrive (.slot v) (some v) = { c with volumes := relocated c.volumes v .home } := Core.setLoc_gripped h nofun

/-- What has no name leaves no trace at a slot. -/
theorem Core.arrive_unnamed_slot (c : Core) (v : SlotId) : c.arrive (.slot v) none = c := rfl

/-- A service MOVE that has come home leaves its drive EMPTY and is answered DONE (R45). -/
theorem moveServed_service_home {sv : ServiceMove} {d : DriveId} (h : m.serves = .service sv) (hd : sv.toDrive = false) :
    moveServed e c m (some d) =
      { c with
        drives := c.drives.set d (emptied (c.drives.get d))
        links := answered c.links sv.by_ (.media .done (some sv.slot)) } := by
  unfold moveServed
  rw [h]
  simp only [hd]
  rw [if_neg nofun, Core.mediaDone_told]
  rfl

/-- A probe of inventory serves nothing that goes on by itself (R159). -/
theorem moveServed_probe {v : SlotId} {d : Option DriveId} (h : m.serves = .inventoryProbe v) : moveServed e c m d = c := by
  unfold moveServed
  rw [h]

end

/-! ### What is told on the way -/

theorem toldAll_active (links : Four LinkUnit) (n : Notice) (l : LinkId) :
    ((toldAll links n).get l).active = (links.get l).active := by
  unfold toldAll
  rw [Four.get_map, LinkUnit.deliver_active]

theorem alarmCleared_active (x : List Alarm × Four LinkUnit) (a : Alarm) (l : LinkId) :
    (((alarmCleared x a).2).get l).active = (x.2.get l).active := by
  unfold alarmCleared
  split
  · exact toldAll_active _ _ l
  · rfl

/-- The DONE of earlier work joins an ACTIVE link's output list (R178). -/
theorem answered_active {links : Four LinkUnit} {o : Orderer} (h : (links.get o.link).active = true) (b : DoneBody) :
    answered links o b = sendOn links o.link [.done o.tag b] := if_pos h

/-! ### CLEAR FAULT -/

section
variable {s : State} {r : Request} {d : DriveId} {e : Fixed} {c b : Core} {m : Move}

/-- CLEAR FAULT of a FAULTED drive that no clear in progress and no hold bars empties it, or issues EJECT (R26). -/
theorem clearDriveRequest_taken (hc : (c.drives.get d).clearing = none) (hs : (c.drives.get d).state = .faulted)
    (hh : c.heldAgainst r.link = false) : clearDriveRequest r d e c =
      if (c.drives.get d).holdsCartridge = true then
        ((c.accept r .empty).onDrive d (fun x => { x with clearing := some (ordererOf r) })).issue d .eject .mechanism
      else (((c.accept r .empty).emptyDrive d).clearAlarm (.driveFault d)).mediaDone (ordererOf r) .cleared none := by
  simp only [clearDriveRequest, Core.drv, hc, hs, hh]
  rfl

/-- A drive that names no cartridge is EMPTY at once, and its link answered (R26). -/
theorem State.clears_empty (s : State) (r : Request) (d : DriveId) :
    let cleared := alarmCleared (s.alarms, linksAfter s r.link [.accepted r.tag .empty]) (.driveFault d)
    ((((s.heard r.link).accept r .empty).emptyDrive d).clearAlarm (.driveFault d)).mediaDone (ordererOf r) .cleared none =
      { s.toCore with
        drives := s.drives.set d (emptied (s.drives.get d))
        alarms := cleared.1
        links := sendOn cleared.2 r.link [.done r.tag (.media .cleared none)] } := by
  intro cleared
  have active : (cleared.2.get r.link).active = true := by
    rw [alarmCleared_active]
    exact linksAfter_active s r.link _
  have told : answered cleared.2 (ordererOf r) (.media .cleared none) =
      sendOn cleared.2 r.link [.done r.tag (.media .cleared none)] := answered_active active _
  rw [s.heard_accept, Core.mediaDone_told, Core.clearAlarm_eq, ← told]
  rfl

/-- One that names a cartridge has EJECT issued (R26). -/
theorem State.clears_ejecting (s : State) (r : Request) (d : DriveId) :
    (((s.heard r.link).accept r .empty).onDrive d (fun x => { x with clearing := some (ordererOf r) })).issue d .eject
        .mechanism =
      { s.toCore with
        drives := s.drives.set d
          { s.drives.get d with clearing := some (ordererOf r), op := issued .eject .mechanism }
        links := linksAfter s r.link [.accepted r.tag .empty] } := by
  rw [s.heard_accept]
  simp only [Core.issue, Core.onDrive, Four.set_set, Four.get_set_same]
  rfl

/-- CLEAR FAULT of a FAULTED picker that nothing bars clears its motion (R44). -/
theorem clearPickerRequest_taken {n : Motion} (hf : recoveryBarred e c r.link = false) (hs : c.picker.state = .faulted)
    (hm : c.picker.motion = some n) : clearPickerRequest r e c = clearPicker r e c n := by
  simp only [clearPickerRequest, hf, hs, hm]
  rfl

/-- Without a late DONE the recovery motion begins (R44). -/
theorem clearPicker_begins {n : Motion} (hl : c.picker.lateDone = false) : clearPicker r e c n =
    ((c.accept r .empty).clearAlarm .pickerFault).beginRecovery (ordererOf r) true n := by
  simp only [clearPicker, hl]

/-- With one the move is completed, and the picker re-homed empty (R44). -/
theorem clearPicker_late (hl : c.picker.lateDone = true)
    (hb : moveDone e ((c.accept r .empty).clearAlarm .pickerFault) m = b) : clearPicker r e c (.move m) =
      (b.lateProbed m).beginRecovery (ordererOf r) true .emptyRehome := by
  simp only [clearPicker, hl, hb]

/-- A service MOVE home that is completed late (R44, R45). -/
theorem moveDone_service_home {sv : ServiceMove} {v : SlotId} {f : Face} {src dst : Position} (hsv : m.serves = .service sv)
    (hd : sv.toDrive = false) (hc : m.carries = some v) (hs : m.src = .drive d f) (hp : m.dst = .fixed (.slot v))
    (hl : c.location v = some (.inPicker src dst)) : moveDone e c m =
      { c with
        volumes := relocated c.volumes v .home
        drives := c.drives.set d (emptied (c.drives.get d))
        links := answered c.links sv.by_ (.media .done (some sv.slot)) } := by
  rw [moveDone_fixed hp, hc, Core.arrive_slot hl, hs]
  exact moveServed_service_home hsv hd

/-- A probe of inventory sets nothing down (R159). -/
theorem moveDone_probe {v : SlotId} (hv : m.serves = .inventoryProbe v) (hc : m.carries = none)
    (hp : m.dst = .fixed (.slot v)) : moveDone e c m = c := by
  rw [moveDone_fixed hp, hc, Core.arrive_unnamed_slot]
  exact moveServed_probe hv

theorem Core.lateProbed_service {sv : ServiceMove} (h : m.serves = .service sv) : c.lateProbed m = c := by
  unfold Core.lateProbed
  rw [h]

/-- The probe table takes what a late DONE reported, if anything (R44). -/
theorem Core.lateProbed_probe {v : SlotId} {i : Inventory} (h : m.serves = .inventoryProbe v) (hi : c.inventory = some i) :
    let probes := match c.picker.lateProbe with
      | some occupied => i.probes.set v (if occupied = true then .occupied else .empty)
      | none => i.probes
    c.lateProbed m = { c with inventory := some { i with probes } } := by
  unfold Core.lateProbed
  rw [h]
  cases c.picker.lateProbe with
  | none => simp only [← hi]
  | some occupied => simp only [Core.recordProbe, Core.onInventory, hi, Option.map_some]

end

end Sys2Proof.Machine
end

section
open Sys2Proof Sys2Proof.Machine

/-- Settles O38, of a drive by what its record says, and of the picker by who is barred, its state and its late DONE. -/
theorem clearFaultProceeds : Obligations.ClearFaultProceeds := by
  constructor
  · intro r d s h hb hp x leads accepted cleared
    have leadsTo {b c : Core} (hc : b = c) (hu : clearDriveRequest r d s.toFixed (s.heard r.link) = b) :
        leads { s with toCore := c } := by
      refine hc ▸ request_leads h rfl (by simp [RequestKind.lengthOk, hb]) ?_ hu
      unfold takeClearFault
      rw [hp]
    have drv : (s.heard r.link).drv d = x := rfl
    have taken (hc : x.clearing = none) (hs : x.state = .faulted) (hh : ∀ l, s.hold = .granted l → l = r.link) :
        clearDriveRequest r d s.toFixed (s.heard r.link) = if x.holdsCartridge = true then _ else _ :=
      clearDriveRequest_taken (c := s.heard r.link) hc hs ((Core.heldAgainst_false_iff _ _).mpr hh)
    refine ⟨fun hc => leadsTo (s.heard_refuse r .mediaBusy) ?_, fun hc hs => leadsTo (s.heard_answer r _) ?_,
      fun hc hs l hl hne => leadsTo (s.heard_refuse r .held) ?_,
      fun hc hs hh => ⟨fun hn hu => leadsTo (s.clears_empty r d) ((taken hc hs hh).trans (if_neg ?_)),
        fun hx => leadsTo (s.clears_ejecting r d) ((taken hc hs hh).trans (if_pos ?_))⟩⟩
    · simp only [clearDriveRequest, drv, Option.isSome_iff_ne_none.mpr hc, if_true]
    · simp only [clearDriveRequest, drv, hc, Option.isSome_none, Bool.false_eq_true, if_false, if_pos hs]
    · have held : (s.heard r.link).heldAgainst r.link = true := (Core.heldAgainst_iff _ _).mpr ⟨l, hl, hne⟩
      simp only [clearDriveRequest, drv, hc, hs, held]
      rfl
    · simp [Drive.holdsCartridge, hn, hu]
    · rcases hx with hx | hx <;> simp [Drive.holdsCartridge, hx, Option.isSome_iff_ne_none]
  · intro r s h hb barred leads cleared
    have leadsTo {b c : Core} (hc : b = c) (hu : clearPickerRequest r s.toFixed (s.heard r.link) = b) :
        leads { s with toCore := c } := by
      refine hc ▸ request_leads h rfl (by rw [hb]; rfl) ?_ hu
      unfold takeClearFault
      rw [hb]
      rfl
    have bars : recoveryBarred s.toFixed (s.heard r.link) r.link = true ↔ barred := recoveryBarred_iff _ _ _
    have free (hn : ¬barred) : recoveryBarred s.toFixed (s.heard r.link) r.link = false :=
      Bool.eq_false_iff.mpr (mt bars.mp hn)
    let heard : Core := { s.toCore with alarms := cleared.1, links := cleared.2 }
    have quiet : ((s.heard r.link).accept r .empty).clearAlarm .pickerFault = heard := by
      rw [s.heard_accept, Core.clearAlarm_eq]
    refine ⟨fun hb => leadsTo (s.heard_refuse r .held) ?_, fun hn hs => leadsTo (s.heard_answer r _) ?_,
      fun hn hs hl m hm => leadsTo (b := heard.beginRecovery (ordererOf r) true m) rfl ?_, fun hn hs hl m hm => ?_⟩
    · simp only [clearPickerRequest, bars.mpr hb, if_true]
    · simp only [clearPickerRequest, free hn, Bool.false_eq_true, if_false]
      split
      · next hh _ => exact absurd hh hs
      · rfl
    · rw [clearPickerRequest_taken (free hn) hs hm, clearPicker_begins (c := s.heard r.link) hl, quiet]
    · intro homing
      have rehomed {b c : Core} (hb : moveDone s.toFixed heard m = b) (hc : b.lateProbed m = c) :
          leads { s with toCore := c.beginRecovery (ordererOf r) true .emptyRehome } := by
        refine leadsTo (congrArg (Core.beginRecovery · (ordererOf r) true .emptyRehome) hc) ?_
        rw [clearPickerRequest_taken (free hn) hs hm]
        exact clearPicker_late (c := s.heard r.link) hl (quiet ▸ hb)
      refine ⟨fun sv v d f src dst hsv hd hc hsrc hdst hloc => ?_, fun v i hv hc hdst hi => ?_⟩
      · exact rehomed (moveDone_service_home hsv hd hc hsrc hdst hloc) (Core.lateProbed_service hsv)
      · exact rehomed (moveDone_probe hv hc hdst) (Core.lateProbed_probe hv hi)

end


section
/-! SUPPORT. IMPORT and EXPORT at the Media Map: which of them no check refuses, and how each begins (R148 to R150, R156, R157). -/

namespace Sys2Proof.Machine

@[simp] theorem validFrame_fixed (s : State) (l : LinkId) : (s.validFrame l).toFixed = s.toFixed := rfl

@[simp] theorem State.heard_mailslot (s : State) (l : LinkId) : (s.heard l).mailslot = s.mailslot := rfl

section
variable {s : State} {r : Request} {c : Core} {v : SlotId}

/-- Neither inventory, IMPORT nor EXPORT is in progress (R148, R156, R158). -/
theorem Core.mediaBusy_none (hi : c.inventory = none) (him : c.importOp = none) (hx : c.exportOp = none) :
    c.mediaBusy = false := by simp [Core.mediaBusy, hi, him, hx]

/-- An IMPORT that no check refuses is taken (R148). -/
theorem takeImport_taken (hp : ∀ b ∈ r.body, printable b = true) (h : importRefusal (s.validFrame r.link) r.link = none) :
    takeImport r (s.validFrame r.link) = (s.validFrame r.link).act (importRequest r) := by
  have all : r.body.all printable = true := List.all_eq_true.mpr hp
  simp only [takeImport, all, h]
  rfl

/-- An EXPORT that no check refuses is taken (R156). -/
theorem takeExport_taken (hs : slotOf (fieldNat r.body 0 1) = some v)
    (h : exportRefusal (s.validFrame r.link) r.link v = none) :
    takeExport r (s.validFrame r.link) = (s.validFrame r.link).act (exportRequest r v) := by
  simp only [takeExport, hs, h]

/-- An EXPORT of a volume that is HOME begins with its move to the mailslot (R157). -/
theorem Core.beginExport_home {op : ExportOp} (h : c.location op.slot = some .home) : c.beginExport op =
    some ({ c with exportOp := some { op with begun := true } }.joinMove (.slot op.slot) (.fixed .mailslot) 4
      (some op.by_.link) .exportOut (some op.slot)) := by
  unfold Core.beginExport
  rw [h]

/-- Of a volume in a drive it begins where the drive can be unloaded, which is then bound (R157). -/
theorem Core.beginExport_inDrive {op : ExportOp} {d : DriveId} {f : Face} (h : c.location op.slot = some (.inDrive d f))
    (hc : (c.drives.get d).claims = 0) (hb : (c.drives.get d).bound = none) : c.beginExport op =
      if (c.drives.get d).unloadable then
        some (({ c with
            exportOp := some { op with drive := some d, begun := true }
            drives := c.drives.set d ((c.drives.get d).boundBy .exporting) } : Core).beginUnload d)
      else none := by
  unfold Core.beginExport
  rw [h]
  simp only [Core.drv, hc, hb]
  simp [Core.onDrive, Drive.boundBy]

end

end Sys2Proof.Machine
end

section
open Sys2Proof Sys2Proof.Machine

/-- Settles O39: an IMPORT by what lies in the mailslot, an EXPORT by where its volume stands. -/
theorem importAndExportBegin : Obligations.ImportAndExportBegin := by
  constructor
  · intro r s h hb hp hh hinv himp hexp door present op leads n
    have held : (s.heard r.link).heldAgainst r.link = false := (Core.heldAgainst_false_iff _ _).mpr hh
    have idle : (s.heard r.link).mediaBusy = false := Core.mediaBusy_none hinv himp hexp
    have leadsTo {c : Core} (hm : s.mailslot.holds = true) (hu : importRequest r s.toFixed (s.heard r.link) = c) :
        ∃ t, exec (.importCartridge r) s = .next t ∧ ReachedThen t { s with toCore := c } := by
      refine request_leads h rfl (by simp [RequestKind.lengthOk, hb]) (takeImport_taken hp ?_) hu
      simp [importRefusal, held, idle, door, present, hm]
    refine ⟨fun v hm => leadsTo (by rw [hm]; rfl) ?_, fun hm hs => leadsTo (by rw [hm]; rfl) ?_,
      fun hm hs => leadsTo (by rw [hm]; rfl) ?_⟩
    · have at_ : (s.heard r.link).mailslot = .volume v := hm
      simp only [importRequest, at_, s.heard_accept]
      rfl
    · have at_ : (s.heard r.link).mailslot = .inserted := hm
      simp only [importRequest, at_, hs, s.heard_accept]
      rfl
    · have at_ : (s.heard r.link).mailslot = .inserted := hm
      simp only [importRequest, at_, hs, s.heard_accept]
      rfl
  · intro r v s h hb hv hh hinv himp hexp door present mail openA openB sel want op accepted
    have held : (s.heard r.link).heldAgainst r.link = false := (Core.heldAgainst_false_iff _ _).mpr hh
    have idle : (s.heard r.link).mediaBusy = false := Core.mediaBusy_none hinv himp hexp
    have opening : (s.heard r.link).heldForOpening v = false := (Core.heldForOpening_iff _ _).mpr sel
    have openA : (s.heard r.link).isOpen ⟨v, .a⟩ = false := openA
    have openB : (s.heard r.link).isOpen ⟨v, .b⟩ = false := openB
    have want : (s.heard r.link).wanted v = false := want
    have leadsTo {l : Location} {c : Core} (hl : (s.heard r.link).location v = some l)
        (hm : (s.heard r.link).exportable v = true) (hu : exportRequest r v s.toFixed (s.heard r.link) = c) :
        ∃ t, exec (.exportVolume r) s = .next t ∧ ReachedThen t { s with toCore := c } := by
      refine request_leads h rfl (by simp [RequestKind.lengthOk, hb]) (takeExport_taken hv ?_) hu
      simp [exportRefusal, held, idle, door, present, mail, Core.vol_isSome hl, hm]
    let marked : ExportOp := { by_ := ordererOf r, slot := v, drive := none, begun := false }
    let heard : Core := { s.toCore with links := accepted }
    have request : exportRequest r v s.toFixed (s.heard r.link) =
        (heard.beginExport marked).getD { heard with exportOp := some marked } := by
      unfold exportRequest
      rw [s.heard_accept]
    refine ⟨fun hl => ?_, fun d f hl => ?_⟩
    · have at_ : (s.heard r.link).location v = some .home := hl
      refine leadsTo at_ ?_ (request.trans ?_)
      · simp [Core.exportable, at_, openA, openB, opening, want]
      · rw [Core.beginExport_home (c := heard) (op := marked) hl]
        rfl
    · intro x hc hbo ho
      have at_ : (s.heard r.link).location v = some (.inDrive d f) := hl
      have drv : (s.heard r.link).drv d = x := rfl
      have quiet : x.quiet = true := by simp [Drive.quiet, ho]
      have still : (x.boundBy .exporting).idleSpinDown = false := Drive.idleSpinDown_none ho
      have may (hf : x.state ≠ .faulted) : (s.heard r.link).exportable v = true := by
        simp [Core.exportable, at_, drv, hc, hbo, quiet, hf, openA, openB, opening, want]
      have begins : heard.beginExport marked = if x.unloadable then _ else none :=
        Core.beginExport_inDrive (c := heard) hl hc hbo
      refine ⟨?_, fun h1 h2 h3 => leadsTo at_ (may h3) ?_⟩
      · intro hs kind
        refine leadsTo at_ (may (by rcases hs with hs | hs <;> simp [hs])) ?_
        have out : x.unloadable = true := by rcases hs with hs | hs <;> simp [Drive.unloadable, quiet, hs]
        rw [request, begins, if_pos out, Option.getD_some]
        have op : (x.boundBy .exporting).unloadOp = issued kind .mechanism := by
          rcases hs with hs | hs
          · rw [Drive.unloadOp_spinning still (by exact hs ▸ nofun)]
            simp [kind, hs]
          · rw [Drive.unloadOp_spunDown still hs]
            simp [kind, hs]
        refine (Core.beginUnload_eq (x := x.boundBy .exporting) (Four.get_set_same _ _ _)).trans ?_
        simp only [op, Four.set_set]
        rfl
      · have kept : x.unloadable = false := by simp [Drive.unloadable, h1, h2]
        rw [request, begins, kept]
        rfl

end


section
/-! SUPPORT. A drive made READY after LOAD+SPIN UP, and the claims that the requesters of its mount operation take (R27, R33, R35,
R88). -/

namespace Sys2Proof.Machine

/-- The record of a drive that LOAD+SPIN UP has made READY, its binding ended: with no claim its idle timer starts (R27, R33). -/
def Drive.readied (x : Drive) (idle : Nat) : Drive :=
  { x with state := .ready, bound := none, idle := if x.claims = 0 then some idle else x.idle }

/-- The record of a drive after a claim is taken on it: the idle timer stops (R27). -/
def Drive.claimedOnce (x : Drive) : Drive := { x with claims := x.claims + 1, idle := none }

section
variable {e : Fixed} {c : Core} {d : DriveId} {n : Nat} {m : MountOp}

theorem Core.readied_eq (e : Fixed) (c : Core) (d : DriveId) : (c.makeReady d).startIdle e d =
    { c with drives := c.drives.set d ((c.drives.get d).readied e.settings.idle) } := by
  simp only [Core.makeReady, Core.startIdle, Core.onDrive, Four.set_set, Four.get_set_same, true_and, Drive.readied]
  split <;> rfl

/-- The requesters of the mount operation find the drive READY and their operation ended (R33). -/
theorem mountReady_eq (hm : c.mount n = some m) : mountReady e c d n =
    m.requesters.foldl (fun c r => c.grantSide d r)
      { c with
        mounts := c.mounts.filter (fun k => k.arrival ≠ n)
        drives := c.drives.set d ((c.drives.get d).readied e.settings.idle) } := by
  unfold mountReady
  rw [hm, Core.readied_eq]
  rfl

/-- A claim is the drive's only change (R27). -/
theorem Core.takeClaim_eq (c : Core) (d : DriveId) :
    c.takeClaim d = { c with drives := c.drives.set d (c.drives.get d).claimedOnce } := rfl

/-- A job that takes its claim where none stands in the service order, on a drive that is not the filing drive, is its head and
reads its directory entry (R28, R88, R89). -/
theorem Core.claimJob_first {x : Drive} {id : JobId} (hx : c.drives.get d = x) (hs : x.service = [])
    (hf : x.filingFlag = false) : c.claimJob d id =
    { c with
      drives := c.drives.set d { x.claimedOnce with service := [id] }
      queue := c.queue.map
        (fun j => if j.id = id then { j with drive := some d, state := .readingDirectory } else j) } := by
  subst hx
  have first : (c.drv d).service.isEmpty = true := by simp [Core.drv, hs]
  have read (b : Core) (hb : (b.drives.get d).filingFlag = false) : b.mayRead d = true := by
    simp [Core.mayRead, Core.drv, hb]
  unfold Core.claimJob
  simp only [first]
  rw [read _ (by simp [Core.takeClaim, Core.onDrive, hf])]
  simp only [Core.takeClaim, Core.onDrive, Four.set_set, Four.get_set_same, hs]
  rfl

end

end Sys2Proof.Machine
end

section
open Sys2Proof Sys2Proof.Machine

/-- Settles O47, by the binding of the drive, and of a mount operation by its requester. -/
theorem loadSpinUpMakesTheDriveReady : Obligations.LoadSpinUpMakesTheDriveReady := by
  intro d user second s hd hu ⟨t, ho⟩ x idle ready claimed leads
  have leadsTo {c : Core} (hc : loadGood s.toFixed (s.idled d).toCore d = c) : leads { s with toCore := c } := by
    refine loadDone_leads hd ho ?_ rfl
    unfold loadDone
    rw [if_neg hu]
    exact hc
  have drv : ((s.idled d).toCore.drv d) = { x with op := none } := s.idled_drive d
  have readied : (((s.idled d).toCore.drives.get d).readied s.settings.idle) = { ready with idle := idle } := by
    rw [s.idled_drive]
    rfl
  have base : ((s.idled d).toCore.makeReady d).startIdle s.toFixed d =
      { s.toCore with drives := s.drives.set d { ready with idle := idle } } := by
    rw [Core.readied_eq, readied]
    simp only [State.idled, Four.set_set]
  refine ⟨fun hb => leadsTo ?_, fun sv hb => leadsTo ?_, ?_, fun hs r hr => ?_⟩
  · unfold loadGood
    simp only [drv, hb]
    exact base
  · unfold loadGood
    simp only [drv, hb]
    rw [base, Core.mediaDone_told]
  · intro n m hb hm ended
    have at_ : loadGood s.toFixed (s.idled d).toCore d = m.requesters.foldl (fun c r => c.grantSide d r)
        { ended.toCore with drives := s.drives.set d { ready with idle := idle } } := by
      unfold loadGood
      simp only [drv, hb]
      rw [mountReady_eq (c := (s.idled d).toCore) hm, readied]
      simp only [State.idled, Four.set_set]
      rfl
    refine ⟨fun hr => leadsTo ?_, fun hr => leadsTo ?_, fun id hr hs hf => leadsTo ?_⟩
    · rw [at_, hr]
      rfl
    · rw [at_, hr]
      simp only [List.foldl_cons, List.foldl_nil, Core.grantSide, Core.takeClaim_eq, Four.set_set, Four.get_set_same]
      rfl
    · rw [at_, hr]
      refine (Core.claimJob_first (x := { ready with idle := idle }) (Four.get_set_same _ _ _) hs hf).trans ?_
      simp only [Four.set_set]
      rfl
  · refine loadDone_leads hd ho (c := ((s.idled d).toCore.issue d (.loadSpinUp true) .mechanism)) ?_ ?_
    · subst hs
      unfold loadDone
      rw [if_neg hu]
      cases r with
      | good => exact absurd rfl hr
      | noMedia => rfl
      | notReady => rfl
    · simp only [Core.issue, Core.onDrive, State.idled, Four.set_set, Four.get_set_same]
      rfl

end


section
/-! SUPPORT. The end of an EJECT: in a bound drive the move of the binding joins the set, in a drive being cleared the clearing goes
on (R26, R32, R34, R45, R150, R157). -/

namespace Sys2Proof.Machine

/-- An EJECT that ends leads to what `ejectDone` makes of it, and what follows (R32). -/
theorem ejectDone_leads {s : State} {d : DriveId} {user : OpUser} {c : Core} (hd : s.resetDue = false)
    (ho : InFlight s d .eject user) (hf : ejectDone (s.idled d).toCore d = c) :
    ∃ t, exec (.ejectComplete d) s = .next t ∧ ReachedThen t { s with toCore := c } := by
  obtain ⟨n, ho⟩ := ho
  exact idled_leads (ord := updateOrder) (f := takeEject d) hd ho rfl (congrArg some hf) rfl

section
variable {c : Core} {d : DriveId}

/-- In a bound drive that is not FAULTED the binding says what follows an EJECT (R32). -/
theorem ejectDone_bound {b : Binding} (hs : (c.drives.get d).state ≠ .faulted) (hb : (c.drives.get d).bound = some b) :
    ejectDone c d = ejectBound c d b := by
  unfold ejectDone Core.drv
  simp only [hb]
  split
  · next h _ => exact absurd h hs
  · next b' heq _ => rw [Option.some.inj heq]
  · next heq _ => cases heq

/-- In a drive being cleared the clearing goes on (R26). -/
theorem ejectDone_clearing {o : Orderer} (hs : (c.drives.get d).state = .faulted) (hc : (c.drives.get d).clearing = some o) :
    ejectDone c d = ejectCleared c d o := by
  unfold ejectDone Core.drv
  simp only [hs, hc]

theorem Core.positionOfDrive_eq {f : Face} (h : (c.drives.get d).presented = some f) : c.positionOfDrive d = .drive d f := by
  simp [Core.positionOfDrive, Core.drv, Drive.face, h]

theorem Core.turned_eq {f : Face} (h : (c.drives.get d).presented = some f) :
    c.turned d = .fixed (.drive d (otherFace f)) := by
  simp [Core.turned, Core.drv, Drive.face, h]

/-- Under the binding that a mount operation lasts as long as, the move has that operation's arrival number (R37, R150). -/
theorem Core.joinBoundMove_under {b : Binding} {k : MountOp} (h : c.mounts.find? (fun m => m.target.heldBy b) = some k)
    (src : Position) (dst : Dest) (by_ : Option LinkId) (serves : Serves) (carries : Option SlotId) :
    c.joinBoundMove b src dst by_ serves carries =
      { c with moves := c.moves ++
          [{ src, dst, cls := 4, prio := 0, arrival := k.arrival, orderedBy := by_, serves, carries }] } := by
  unfold Core.joinBoundMove
  rw [h]

/-- The mount operation that lasts as long as the binding of an IMPORT. -/
theorem heldBy_importing : (fun m : MountOp => m.target.heldBy .importing) = fun m => m.target == .importing := by
  funext m
  cases m.target <;> rfl

end

end Sys2Proof.Machine
end


section
/-! SUPPORT. The arbiter's choices, and the start of a move: the drive it takes, the drive it evicts, what leaves its source (R3, R23,
R31, R34, R37). -/

namespace Sys2Proof.Machine

/-! ### The first of a sorted list -/

/-- On an ascending list the least element that meets a condition is the first found. -/
theorem find?_least {α : Type} [LinearOrder α] {l : List α} {p : α → Bool} {a : α} (hs : l.Pairwise (· < ·)) (ha : a ∈ l)
    (hp : p a = true) (hl : ∀ b ∈ l, p b = true → a ≤ b) : l.find? p = some a := by
  induction l with
  | nil => cases ha
  | cons b l ih =>
    obtain ⟨hb, hs⟩ := List.pairwise_cons.mp hs
    by_cases h : p b = true
    · have := hl b List.mem_cons_self h
      rcases List.mem_cons.mp ha with rfl | ha
      · exact List.find?_cons_of_pos h
      · exact absurd (hb a ha) (not_lt.mpr this)
    · rw [List.find?_cons_of_neg h]
      refine ih hs ((List.mem_cons.mp ha).resolve_left fun e => h (e ▸ hp)) fun b hb => hl b (List.mem_cons_of_mem _ hb)

/-- On an ascending list the element of least value, the lower of equals, is `List.argmin`. -/
theorem argmin_least {α : Type} [LinearOrder α] {l : List α} {f : α → Nat} {a : α} (hs : l.Pairwise (· < ·)) (ha : a ∈ l)
    (hl : ∀ b ∈ l, f a < f b ∨ f a = f b ∧ a ≤ b) : l.argmin f = some a := by
  refine List.argmin_eq_some_iff.mpr ⟨ha, fun b hb => ?_, fun b hb h => ?_⟩
  · rcases hl b hb with h | ⟨h, -⟩ <;> omega
  · rcases hl b hb with h' | ⟨-, h'⟩
    · omega
    · by_contra hlt
      have ia := List.idxOf_lt_length_iff.mpr ha
      have ib := List.idxOf_lt_length_iff.mpr hb
      have := List.pairwise_iff_getElem.mp hs _ _ ib ia (not_le.mp hlt)
      rw [List.getElem_idxOf, List.getElem_idxOf] at this
      exact absurd this (not_lt.mpr h')

theorem Four.indices_ascend : Four.indices.Pairwise (· < ·) := by decide

theorem Four.mem_indices (d : Fin 4) : d ∈ Four.indices := by
  revert d
  decide

section
variable {c : Core} {d : DriveId}

theorem Core.findDrive_least {p : DriveId → Drive → Bool} (hp : p d (c.drives.get d) = true)
    (hl : ∀ k, p k (c.drives.get k) = true → d ≤ k) : c.findDrive p = some d :=
  find?_least Four.indices_ascend (Four.mem_indices d) hp fun k _ => hl k

/-- The eviction choice is the argument of the least last-use time (R31). -/
theorem Core.evictionChoice_eq (c : Core) : c.evictionChoice =
    (Four.indices.filter (fun d => c.evictable (c.drv d))).argmin (fun d => (c.drv d).lastUse) := by
  unfold Core.evictionChoice List.argmin
  congr 1
  funext best d
  cases best <;> rfl

theorem Core.evictionChoice_least (he : c.evictable (c.drives.get d) = true)
    (hl : ∀ k, c.evictable (c.drives.get k) = true → (c.drives.get d).lastUse < (c.drives.get k).lastUse ∨
      (c.drives.get d).lastUse = (c.drives.get k).lastUse ∧ d ≤ k) : c.evictionChoice = some d := by
  rw [c.evictionChoice_eq]
  refine argmin_least (Four.indices_ascend.filter _) (List.mem_filter.mpr ⟨Four.mem_indices d, he⟩) fun k hk => ?_
  exact hl k (List.mem_filter.mp hk).2

theorem Core.findDrive_none {p : DriveId → Drive → Bool} :
    c.findDrive p = none ↔ ∀ k, ¬p k (c.drives.get k) = true := by
  simp only [Core.findDrive, List.find?_eq_none, Core.drv]
  exact ⟨fun h k => h k (Four.mem_indices k), fun h k _ => h k⟩

theorem Core.evictionChoice_none : c.evictionChoice = none ↔ ∀ k, ¬c.evictable (c.drives.get k) = true := by
  rw [c.evictionChoice_eq, List.argmin_eq_none, List.filter_eq_nil_iff]
  exact ⟨fun h k => h k (Four.mem_indices k), fun h k _ => h k⟩

/-- A drive is unclaimed, unbound and quiet, with a cartridge that can be taken out (R31, R34). -/
theorem Core.swappable_iff (c : Core) (x : Drive) : c.swappable x = true ↔
    x.claims = 0 ∧ x.bound = none ∧ (x.op = none ∨ x.idleSpinDown = true) ∧ (x.state = .ready ∨ x.state = .spunDown) ∧
      ¬(x.filingFlag = true ∧ c.pendingList ≠ []) := by
  have filing : c.filingBusy x = false ↔ ¬(x.filingFlag = true ∧ c.pendingList ≠ []) := by
    rw [Core.filingBusy_iff]
    tauto
  simp only [Core.swappable, Drive.quiet, Bool.and_eq_true, Bool.or_eq_true, beq_iff_eq, Option.isNone_iff_eq_none,
    Bool.not_eq_true', filing]
  tauto

theorem Core.evictable_iff (c : Core) (x : Drive) : c.evictable x = true ↔
    c.swappable x = true ∧ x.unnamed = false ∧
      ∃ sd, x.loaded = some sd ∧ ∀ sel, c.selection = some sel → sel.side.slot ≠ sd.slot := by
  unfold Core.evictable Core.swappable
  cases hx : x.loaded with
  | none => simp
  | some sd =>
    simp only [Bool.and_eq_true, Bool.not_eq_true', Core.heldForOpening_iff, Option.some.injEq, exists_eq_left']
    tauto

end

/-! ### The start of a move -/

section
variable {c : Core}

/-- The volume table once a move has left its source: what is carried is IN_PICKER (R3). -/
def Core.volumesLeft (c : Core) (src dst : Position) (carries : Option SlotId) : Vector (Option Volume) 64 :=
  match carries with
  | some v => relocated c.volumes v (.inPicker src dst)
  | none => c.volumes

/-- The drives once a move has left its source: a drive source names no side (R23). -/
def Core.drivesLeft (c : Core) (src : Position) : Four Drive :=
  match src with
  | .drive d _ => c.drives.set d { c.drives.get d with loaded := none, filingFlag := false }
  | _ => c.drives

/-- The mailslot once a move has left its source: emptied, and RESERVED where it is the destination (R146). -/
def Core.mailslotLeft (c : Core) (src dst : Position) : Mailslot :=
  let emptied := if src = .mailslot then Mailslot.empty else c.mailslot
  if dst = .mailslot ∧ emptied = .empty then .reserved else emptied

theorem Core.mailslot_ite (c : Core) (p : Prop) [Decidable p] (x : Mailslot) :
    (if p then { c with mailslot := x } else c) = { c with mailslot := if p then x else c.mailslot } := by
  split <;> rfl

/-- What the start of a move leaves at its ends, whatever it carries (R23, R146). -/
theorem Core.depart_unnamed (c : Core) (src dst : Position) : c.depart src dst none =
    { c with drives := c.drivesLeft src, mailslot := c.mailslotLeft src dst } := by
  unfold Core.depart
  cases src <;> exact Core.mailslot_ite _ _ _

/-- What the start of a move leaves behind, the volume carried being anywhere but OUT (R3, R23, R146). -/
theorem Core.depart_eq {src dst : Position} {carries : Option SlotId}
    (h : ∀ v, carries = some v → ∃ loc, c.location v = some loc ∧ loc ≠ .out) : c.depart src dst carries =
      { c with
        volumes := c.volumesLeft src dst carries
        drives := c.drivesLeft src
        mailslot := c.mailslotLeft src dst } := by
  cases carries with
  | none => exact c.depart_unnamed src dst
  | some v =>
    obtain ⟨loc, hl, ho⟩ := h v rfl
    have gone : c.depart src dst (some v) = (c.setLoc v (.inPicker src dst)).depart src dst none := rfl
    rw [gone, Core.setLoc_inside c v loc (.inPicker src dst) hl ho nofun]
    exact Core.depart_unnamed _ src dst

/-- All that the start of a move does (R3, R23, R37, R146). -/
theorem Core.startMove_eq {m : Move} {p : Position}
    (h : ∀ v, m.carries = some v → ∃ loc, c.location v = some loc ∧ loc ≠ .out) : c.startMove m p =
      { c with
        moves := c.moves.erase m
        volumes := c.volumesLeft m.src p m.carries
        drives := c.drivesLeft m.src
        mailslot := c.mailslotLeft m.src p
        picker := pickerIn (.move { m with dst := .fixed p }) c.picker.by_ c.picker.clearing
        mounts := match m.serves with
          | .mount n => c.mounts.map (fun k => if k.arrival = n then { k with step := .moving } else k)
          | _ => c.mounts } := by
  unfold Core.startMove
  rw [Core.depart_eq (c := { c with moves := c.moves.erase m }) h]
  cases m.serves <;> rfl

end

end Sys2Proof.Machine
end


section
/-! SUPPORT. How an unloading goes on, operation by operation, and how the take of a mount's move begins one (R26, R29, R31, R32, R34,
R45, R150, R157). -/

namespace Sys2Proof.Machine

section
variable {s : State} {d : DriveId} {user : OpUser}

/-- A SPIN DOWN that is not a start probe's ends (R29, R32). -/
theorem spinDown_goes_on (hd : s.resetDue = false) (hu : user ≠ .probe) (ho : InFlight s d .spinDown user) :
    let x := s.drives.get d
    let down (z : Drive) : Prop :=
      ∃ t, exec (.spinDownComplete d) s = .next t ∧ ReachedThen t { s with drives := s.drives.set d z }
    (x.state = .unloading → down { x with op := issued .eject .mechanism }) ∧
      (x.state ≠ .unloading → down { x with op := none, state := .spunDown }) := by
  obtain ⟨n, ho⟩ := ho
  have drv : (s.idled d).toCore.drv d = { s.drives.get d with op := none } := s.idled_drive d
  refine ⟨fun hs => ?_, fun hs => ?_⟩
  · refine spinDownDone_leads hd ho (c := (s.idled d).toCore.issue d .eject .mechanism) ?_ ?_
    · simp only [spinDownDone, drv, hs, if_neg hu, if_true]
    · simp only [Core.issue, Core.onDrive, State.idled, Four.set_set, Four.get_set_same]
      rfl
  · refine spinDownDone_leads hd ho (c := (s.idled d).toCore.onDrive d (fun x => { x with state := .spunDown })) ?_ ?_
    · simp only [spinDownDone, drv, hs, if_neg hu, if_false]
    · simp only [Core.onDrive, State.idled, Four.set_set, Four.get_set_same]

end

/-! ### EJECT in a bound drive -/

section
variable {c : Core} {d : DriveId} {n : Nat} {m k : MountOp} {f : Face}

/-- An evicted volume's return joins the set under the arrival number of the move it makes room for (R32). -/
theorem ejectBound_evict {sd : Side} (hm : c.mount n = some m) (hs : m.step ≠ .swapping)
    (hl : (c.drives.get d).loaded = some sd) : ejectBound c d (.mount n) =
      { c with moves := c.moves ++
          [{ src := .drive d sd.face, dst := .fixed (.slot sd.slot), cls := 1, prio := 0, arrival := n,
             orderedBy := c.mountLink n, serves := .evict d, carries := some sd.slot }] } := by
  have step : (c.mount n).map (·.step) ≠ some .swapping := by
    rw [hm]
    simpa using hs
  refine (if_neg step).trans ?_
  unfold Core.joinReturn Core.drv
  rw [hl]

/-- A swap's move becomes startable (R34). -/
theorem ejectBound_swap (hm : c.mount n = some m) (hs : m.step = .swapping) :
    ejectBound c d (.mount n) = c.onMount n (fun op => { op with step := .moveReady }) := by
  have step : (c.mount n).map (·.step) = some .swapping := by
    rw [hm]
    simpa using hs
  exact if_pos step

theorem ejectBound_service {sv : ServiceMove} (hf : (c.drives.get d).presented = some f) : ejectBound c d (.service sv) =
    c.joinMove (.drive d f) (.fixed (.slot sv.slot)) 4 (some sv.by_.link) (.service sv) (some sv.slot) := by
  simp only [ejectBound, Core.positionOfDrive_eq hf]

theorem ejectBound_exporting {op : ExportOp} (hf : (c.drives.get d).presented = some f) (hx : c.exportOp = some op) :
    ejectBound c d .exporting =
      c.joinMove (.drive d f) (.fixed .mailslot) 4 (some op.by_.link) .exportOut (some op.slot) := by
  simp only [ejectBound, Core.positionOfDrive_eq hf, hx]

/-- The move of an IMPORT joins the set under its mount operation's arrival number (R37, R150). -/
theorem ejectBound_importing {op : ImportOp} (hf : (c.drives.get d).presented = some f) (hi : c.importOp = some op)
    (hk : c.mounts.find? (fun m => m.target == .importing) = some k) :
    let joined (dst : Dest) (serves : Serves) (carries : Option SlotId) : Core :=
      { c with moves := c.moves ++
          [{ src := .drive d f, dst, cls := 4, prio := 0, arrival := k.arrival, orderedBy := some op.by_.link, serves,
             carries }] }
    (op.phase = .turning → ejectBound c d .importing = joined (.fixed (.drive d (otherFace f))) .importTurn none) ∧
      (∀ v o, op.phase = .goingHome v o → ejectBound c d .importing = joined (.fixed (.slot v)) .importHome (some v)) ∧
      (∀ o, op.phase = .settingBack o → ejectBound c d .importing = joined (.fixed .mailslot) (.importBack o) none) := by
  have held : c.mounts.find? (fun m => m.target.heldBy .importing) = some k := by rw [heldBy_importing, hk]
  refine ⟨fun hp => ?_, fun v o hp => ?_, fun o hp => ?_⟩ <;>
    simp only [ejectBound, hi, hp, Core.positionOfDrive_eq hf, Core.turned_eq hf, Core.joinBoundMove_under held]

/-- So does the move of an inventory that reads a slot's cartridge (R37). -/
theorem ejectBound_inventory {i : Inventory} {rd : Reading} (hf : (c.drives.get d).presented = some f)
    (hi : c.inventory = some i) (hr : i.reading = some rd)
    (hk : c.mounts.find? (fun m => m.target.heldBy .inventory) = some k) :
    let joined (dst : Dest) (serves : Serves) (carries : Option SlotId) : Core :=
      { c with moves := c.moves ++
          [{ src := .drive d f, dst, cls := 4, prio := 0, arrival := k.arrival, orderedBy := i.link, serves, carries }] }
    (rd.phase = .turning → ejectBound c d .inventory = joined (.fixed (.drive d (otherFace f))) .inventoryTurn none) ∧
      (∀ v, rd.phase = .goingHome v → ejectBound c d .inventory = joined (.fixed (.slot v)) .inventoryHome (some v)) ∧
      (rd.phase = .settingOut → ejectBound c d .inventory = joined (.fixed .mailslot) .inventoryOut none) := by
  refine ⟨fun hp => ?_, fun v hp => ?_, fun hp => ?_⟩ <;>
    simp only [ejectBound, hi, hr, Option.map_some, hp, Core.positionOfDrive_eq hf, Core.turned_eq hf,
      Core.joinBoundMove_under hk]

end

/-! ### EJECT in a drive being cleared -/

section
variable {c : Core} {d : DriveId} {o : Orderer}

/-- EJECT in a drive being cleared that names no volume leaves it EMPTY, its alarm cleared and the clearing answered (R26). -/
theorem ejectCleared_unnamed (hl : (c.drives.get d).loaded = none) :
    let cleared := alarmCleared (c.alarms, c.links) (.driveFault d)
    ejectCleared c d o =
      { c with
        drives := c.drives.set d { c.drives.get d with state := .empty, clearing := none }
        alarms := cleared.1
        links := answered cleared.2 o (.media .cleared none) } := by
  unfold ejectCleared Core.drv
  split
  · next h => cases hl.symm.trans h
  · rw [Core.mediaDone_told, Core.clearAlarm_eq]
    rfl

/-- With a volume named its move home joins the set, the alarm cleared (R26). -/
theorem ejectCleared_named {sd : Side} (hl : (c.drives.get d).loaded = some sd) :
    let cleared := alarmCleared (c.alarms, c.links) (.driveFault d)
    ejectCleared c d o =
      ({ c with
        drives := c.drives.set d { c.drives.get d with state := .unloading }
        alarms := cleared.1
        links := cleared.2 } : Core).joinMove (.drive d sd.face) (.fixed (.slot sd.slot)) 4 (some o.link)
          (.clearReturn d) (some sd.slot) := by
  unfold ejectCleared Core.drv
  split
  · next sd' h =>
    obtain rfl := Option.some.inj (hl.symm.trans h)
    rw [Core.clearAlarm_eq]
    rfl
  · next h => cases hl.symm.trans h

end

/-! ### A mount's move is taken (R31, R34) -/

section
variable {c : Core} {m : Move} {n : Nat} {d : DriveId}

/-- A mount operation that takes a drive. -/
def Core.mountTakes (c : Core) (n : Nat) (d : DriveId) (st : MountStep) : List MountOp :=
  c.mounts.map (fun k => if k.arrival = n then { k with drive := some d, step := st } else k)

/-- A drive bound to a mount begins to unload (R32, R34). -/
theorem Core.bound_unloads (c : Core) (n : Nat) (d : DriveId) (st : MountStep) :
    ((c.onDrive d (fun x => { x with bound := some (.mount n) })).onMount n
      (fun op => { op with drive := some d, step := st })).beginUnload d =
    { c with
      mounts := c.mountTakes n d st
      drives := c.drives.set d (((c.drives.get d).boundBy (.mount n)).unloadingBy (c.drives.get d).unloadOp) } := by
  refine (Core.beginUnload_eq (x := (c.drives.get d).boundBy (.mount n)) (Four.get_set_same _ _ _)).trans ?_
  simp only [Core.onMount, Core.onDrive, Four.set_set]
  rfl

/-- A load move that binds a free drive starts at once (R31). -/
theorem Core.bindFree_eq {f : Face} (hm : m.serves = .mount n) (hs : ∀ d g, m.src ≠ .drive d g)
    (hv : ∀ v, m.carries = some v → ∃ loc, c.location v = some loc ∧ loc ≠ .out) : c.bindFree m n d f =
      { c with
        moves := c.moves.erase m
        mounts := c.mountTakes n d .moving
        drives := c.drives.set d { c.drives.get d with state := .loading, bound := some (.mount n) }
        volumes := c.volumesLeft m.src (.drive d f) m.carries
        mailslot := if m.src = .mailslot then .empty else c.mailslot
        picker := pickerIn (.move { m with dst := .fixed (.drive d f) }) c.picker.by_ c.picker.clearing } := by
  have undriven (b : Core) : b.drivesLeft m.src = b.drives := by
    unfold Core.drivesLeft
    split
    · next h => exact absurd h (hs _ _)
    · rfl
  have mail (b : Core) : b.mailslotLeft m.src (.drive d f) = if m.src = .mailslot then .empty else b.mailslot := by
    simp [Core.mailslotLeft]
  have twice (q : List MountOp) :
      (q.map (fun k => if k.arrival = n then { k with drive := some d } else k)).map
        (fun k => if k.arrival = n then { k with step := .moving } else k) =
      q.map (fun k => if k.arrival = n then { k with drive := some d, step := .moving } else k) := by
    rw [List.map_map]
    refine List.map_congr_left fun k _ => ?_
    by_cases h : k.arrival = n <;> simp [h]
  unfold Core.bindFree
  rw [Core.startMove_eq (by exact hv), undriven, mail, hm]
  simp only [Core.onMount, twice]
  rfl

/-- A load move that finds a free drive binds it and starts (R31). -/
theorem Core.take_free {f : Face} (hm : m.serves = .mount n) (hd : m.dst = .anyDrive f)
    (hf : c.findDrive (fun _ x => x.free) = some d) : c.take m = c.bindFree m n d f := by
  unfold Core.take
  simp only [hm, hd, hf]

/-- One that finds none binds the drive that the eviction choice gives (R31, R32). -/
theorem Core.take_evict {f : Face} (hm : m.serves = .mount n) (hd : m.dst = .anyDrive f)
    (hf : c.findDrive (fun _ x => x.free) = none) (he : c.evictionChoice = some d) : c.take m = c.bindEvict m n d f := by
  unfold Core.take
  simp only [hm, hd, hf, he]

/-- A swap's move that is taken at the first step binds its drive (R34). -/
theorem Core.take_swap {p : Position} {f : Face} {k : MountOp} (hm : m.serves = .mount n) (hd : m.dst = .fixed p)
    (hs : m.src = .drive d f) (hk : c.mount n = some k) (hw : k.step = .waiting) : c.take m = c.bindSwap n d := by
  unfold Core.take
  simp [hm, hd, hs, hk, hw]

end

end Sys2Proof.Machine
end

section
open Sys2Proof Sys2Proof.Machine

/-- Settles O46: of a completion by the kind of the operation and the binding, of the take of a mount's move by the drives that can be
bound to it. -/
theorem unloadingGoesOn : Obligations.UnloadingGoesOn := by
  refine ⟨fun d s hd => ?_, fun m n s hm => ?_⟩
  · intro x y down out with_ joined
    refine ⟨fun user hu ho => spinDown_goes_on hd hu ho, fun user ho => ⟨fun hs => ?_, fun o hs hc => ?_⟩⟩
    · have drv : (s.idled d).drives.get d = y := s.idled_drive d
      have state : ((s.idled d).drives.get d).state ≠ .faulted := by rw [drv]; exact hs
      have outBy {b : Binding} {c : Core} (hb : x.bound = some b) (hc : ejectBound (s.idled d).toCore d b = c) :
          out { s with toCore := c } :=
        ejectDone_leads hd ho ((ejectDone_bound state (by rw [drv]; exact hb)).trans hc)
      refine ⟨?_, ?_, ?_, ?_, ?_⟩
      · intro n m sd hb hm hst hl by_ move
        exact outBy hb (ejectBound_evict (c := (s.idled d).toCore) hm hst (by rw [drv]; exact hl))
      · intro n m hb hm hst
        exact outBy hb (ejectBound_swap (c := (s.idled d).toCore) hm hst)
      · intro sv f hb hf
        exact outBy hb (ejectBound_service (by rw [drv]; exact hf))
      · intro op f hb hx hf
        exact outBy hb (ejectBound_exporting (by rw [drv]; exact hf) hx)
      · intro f k hf underMount turned
        have shown : ((s.idled d).drives.get d).presented = some f := by rw [drv]; exact hf
        constructor
        · intro op hb hi hk
          obtain ⟨turn, home, back⟩ := ejectBound_importing (c := (s.idled d).toCore) shown hi hk
          exact ⟨fun hp => outBy hb (turn hp), fun v o hp => outBy hb (home v o hp), fun o hp => outBy hb (back o hp)⟩
        · intro i rd hb hi hrd hk
          have under : (s.idled d).toCore.mounts.find? (fun m => m.target.heldBy .inventory) = some k := by
            rw [← hk]
            congr 1
            funext m
            cases m.target <;> rfl
          obtain ⟨turn, home, out_⟩ := ejectBound_inventory (c := (s.idled d).toCore) shown hi hrd under
          exact ⟨fun hp => outBy hb (turn hp), fun v hp => outBy hb (home v hp), fun hp => outBy hb (out_ hp)⟩
    · have drv : (s.idled d).drives.get d = y := s.idled_drive d
      have outBy {c : Core} (hx : ejectCleared (s.idled d).toCore d o = c) : out { s with toCore := c } :=
        ejectDone_leads hd ho ((ejectDone_clearing (by rw [drv]; exact hs) (by rw [drv]; exact hc)).trans hx)
      intro cleared
      refine ⟨fun hl => outBy ?_, fun sd hl => outBy ?_⟩
      · refine (ejectCleared_unnamed (by rw [drv]; exact hl)).trans ?_
        simp only [State.idled, Four.set_set, Four.get_set_same]
        rfl
      · refine (ejectCleared_named (by rw [drv]; exact hl)).trans ?_
        simp only [State.idled, Four.set_set, Four.get_set_same]
        rfl
  · intro takes onMount unloads free evictable
    have isFree (d : DriveId) : (s.drives.get d).free = true ↔ free d := Drive.free_iff _
    have isEvictable (d : DriveId) : s.toCore.evictable (s.drives.get d) = true ↔ evictable d := by
      rw [Core.evictable_iff, Core.swappable_iff]
      simp only [evictable]
      tauto
    refine ⟨fun f hdst hsrc => ⟨fun d hf hl hv => ?_, fun hf d he hl => ?_, fun hf he k hk hw => ?_⟩,
      fun p d f k hdst hsrc hk hw => ?_⟩
    · have found : s.toCore.findDrive (fun _ x => x.free) = some d :=
        Core.findDrive_least ((isFree d).mpr hf) fun k hk => hl k ((isFree k).mp hk)
      exact (Core.take_free hm hdst found).trans (Core.bindFree_eq hm hsrc hv)
    · have none_ : s.toCore.findDrive (fun _ x => x.free) = none :=
        Core.findDrive_none.mpr fun k hk => hf k ((isFree k).mp hk)
      have choice : s.toCore.evictionChoice = some d :=
        Core.evictionChoice_least ((isEvictable d).mpr he) fun k hk => hl k ((isEvictable k).mp hk)
      refine (Core.take_evict hm hdst none_ choice).trans ?_
      unfold Core.bindEvict
      rw [Core.bound_unloads]
      rfl
    · have none_ : s.toCore.findDrive (fun _ x => x.free) = none :=
        Core.findDrive_none.mpr fun k hk => hf k ((isFree k).mp hk)
      have choice : s.toCore.evictionChoice = none :=
        Core.evictionChoice_none.mpr fun k hk => he k ((isEvictable k).mp hk)
      have stays : s.toCore.stepAllows m = false := by simp [Core.stepAllows, hm, hk, hw, hdst, none_, choice]
      simp [startable, stays]
    · refine (Core.take_swap hm hdst hsrc hk hw).trans ?_
      unfold Core.bindSwap
      rw [Core.bound_unloads]
      rfl

end


section
/-! SUPPORT. The arbiter (R37): the order of the pending moves, what makes one startable, and the move that is taken. -/

namespace Sys2Proof.Machine

/-! ### The order of moves -/

/-- The place of a move in the arbiter's order: class and priority descending, then arrival number. -/
def Move.rank (m : Move) : ℕᵒᵈ ×ₗ ℕᵒᵈ ×ₗ ℕ := toLex (OrderDual.toDual m.cls, toLex (OrderDual.toDual m.prio, m.arrival))

theorem Move.rank_lt_iff (x y : Move) : x.rank < y.rank ↔
    y.cls < x.cls ∨ (x.cls = y.cls ∧ (y.prio < x.prio ∨ (x.prio = y.prio ∧ x.arrival < y.arrival))) := by
  simp [Move.rank, Prod.Lex.toLex_lt_toLex]

theorem Move.before_eq (x y : Move) : x.before y = decide (x.rank < y.rank) := by
  rw [Bool.eq_iff_iff, decide_eq_true_iff, Move.rank_lt_iff]
  unfold Move.before
  split
  · simp; omega
  · split <;> simp <;> omega

/-- The arbiter chooses the startable move of least rank (R37). -/
theorem chooseMove_eq (e : Fixed) (c : Core) :
    chooseMove e c = (c.moves.filter (startable e c)).argmin Move.rank := by
  unfold chooseMove List.argmin
  congr 1
  funext best m
  cases best with
  | none => rfl
  | some b =>
    simp only [Move.before_eq, decide_eq_true_eq]
    rfl

theorem chooseMove_some {e : Fixed} {c : Core} {m : Move} (h : chooseMove e c = some m) :
    m ∈ c.moves ∧ startable e c m = true ∧ ∀ k ∈ c.moves, startable e c k = true → ¬k.rank < m.rank := by
  rw [chooseMove_eq] at h
  obtain ⟨hm, hs⟩ := List.mem_filter.mp (List.argmin_mem (Option.mem_def.mpr h))
  exact ⟨hm, hs, fun k hk hks => List.not_lt_of_mem_argmin (List.mem_filter.mpr ⟨hk, hks⟩) (Option.mem_def.mpr h)⟩

theorem chooseMove_none {e : Fixed} {c : Core} (h : chooseMove e c = none) :
    ∀ k ∈ c.moves, ¬startable e c k = true := by
  rw [chooseMove_eq, List.argmin_eq_none] at h
  exact List.filter_eq_nil_iff.mp h

/-! ### What makes a move startable -/

section
variable {c : Core} {m : Move} {n : Nat}

theorem Hold.permits_iff (h : Hold) (m : Move) :
    h.permits m = true ↔ (∀ l, h = .granted l → m.orderedBy = some l) ∧ ∀ o, h ≠ .waiting o := by
  cases h <;> simp [Hold.permits]

/-- A move that serves no mount operation waits for none (R31). -/
theorem Core.stepAllows_other (h : ∀ n, m.serves ≠ .mount n) : c.stepAllows m = true := by
  unfold Core.stepAllows
  split
  · next n hn => exact absurd hn (h n)
  · rfl

/-- Where the mount operation of a load or a swap can bind its drive (R31, R34). -/
theorem Core.stepAllows_mount (h : m.serves = .mount n) : c.stepAllows m = true ↔
    ∃ k, c.mount n = some k ∧ (k.step = .moveReady ∨ (k.step = .waiting ∧
      (((∃ f, m.dst = .anyDrive f) ∧ ∃ d, (c.drives.get d).free = true ∨ c.evictable (c.drives.get d) = true) ∨
        ∃ p d f, m.dst = .fixed p ∧ m.src = .drive d f ∧ c.swappable (c.drives.get d) = true))) := by
  unfold Core.stepAllows
  simp only [h]
  cases hk : c.mount n with
  | none => simp
  | some k =>
    have bindable : ((c.findDrive (fun _ x => x.free)).isSome || c.evictionChoice.isSome) = true ↔
        ∃ d, (c.drives.get d).free = true ∨ c.evictable (c.drives.get d) = true := by
      rw [← not_iff_not]
      simp only [Bool.or_eq_true, not_or, Option.not_isSome_iff_eq_none, Core.findDrive_none, Core.evictionChoice_none,
        not_exists, forall_and]
    simp only
    cases hs : k.step with
    | waiting =>
      cases hd : m.dst with
      | anyDrive f => simp [hs, bindable]
      | fixed p => cases hsrc : m.src <;> simp [hs, Core.drv]
    | _ => simp [hs]

/-- Whether the operation of a move is at a step that lets it start (R31, R34). -/
theorem Core.stepAllows_iff (c : Core) (m : Move) : c.stepAllows m = true ↔ ∀ n, m.serves = .mount n →
    ∃ k, c.mount n = some k ∧ (k.step = .moveReady ∨ (k.step = .waiting ∧
      (((∃ f, m.dst = .anyDrive f) ∧ ∃ d, (c.drives.get d).free = true ∨ c.evictable (c.drives.get d) = true) ∨
        ∃ p d f, m.dst = .fixed p ∧ m.src = .drive d f ∧ c.swappable (c.drives.get d) = true))) := by
  by_cases hm : ∃ n, m.serves = .mount n
  · obtain ⟨n, hm⟩ := hm
    rw [Core.stepAllows_mount hm]
    refine ⟨fun h k hk => ?_, fun h => h n hm⟩
    obtain rfl : n = k := by simpa using hm.symm.trans hk
    exact h
  · exact iff_of_true (Core.stepAllows_other fun n hn => hm ⟨n, hn⟩) fun n hn => absurd ⟨n, hn⟩ hm

/-- Whether the source of a move holds what it carries (R37). -/
def Core.holdsCarried (c : Core) (m : Move) : Prop :=
  match m.carries, m.src with
  | some v, src => c.location v = some src.location ∧ (src = .mailslot → c.mailslot = .volume v)
  | none, .drive d _ => (c.drives.get d).unnamed = true
  | none, .mailslot => c.mailslot = .inserted ∨ ∃ v, c.mailslot = .volume v
  | none, .slot _ => True

theorem Core.sourceHolds_iff (c : Core) (m : Move) : c.sourceHolds m = true ↔ c.holdsCarried m := by
  unfold Core.sourceHolds Core.holdsCarried
  cases m.carries with
  | some v =>
    simp only [Bool.and_eq_true, beq_iff_eq, Bool.or_eq_true, bne_iff_ne, ne_eq]
    tauto
  | none =>
    cases m.src with
    | slot w => simp
    | drive d f => rfl
    | mailslot => cases h : c.mailslot <;> simp [Mailslot.holds]

/-- A home slot is a free destination while no inventory runs where its own cartridge is not there (R37). -/
theorem Core.slotFree_iff (h : c.inventory = none) (v : SlotId) : c.slotFree v = true ↔ c.location v ≠ some .home := by
  simp [Core.slotFree, h]

/-- Whether the destination of a move is free (R37, R146). -/
def Core.hasRoom (e : Fixed) (c : Core) (m : Move) : Prop :=
  match m.dst with
  | .anyDrive _ => True
  | .fixed (.slot v) => c.slotFree v = true
  | .fixed .mailslot => c.mailslot = .empty ∧ e.panel.level.cartridgePresent = false
  | .fixed (.drive d _) =>
    (∃ f, m.src = .drive d f) ∨
      ((∀ k f, m.src ≠ .drive k f) ∧ (c.drives.get d).loaded = none ∧ (c.drives.get d).unnamed = false)

/-- The arbiter's test of a move's destination, one not yet chosen passing it (R37). -/
def destinationAllows (e : Fixed) (c : Core) (m : Move) : Bool :=
  match m.dst with
  | .anyDrive _ => true
  | .fixed p => destinationFree e c m p

theorem destinationAllows_iff (e : Fixed) (c : Core) (m : Move) : destinationAllows e c m = true ↔ c.hasRoom e m := by
  unfold destinationAllows Core.hasRoom
  cases m.dst with
  | anyDrive f => simp
  | fixed p =>
    cases p with
    | slot v => rfl
    | mailslot => simp [destinationFree, mailslotFree]
    | drive d f => cases hs : m.src <;> simp [destinationFree, hs, Core.drv, Drive.holdsCartridge]

/-- What makes a pending move startable (R37). -/
theorem startable_iff (e : Fixed) (c : Core) (m : Move) : startable e c m = true ↔
    ((∀ l, c.hold = .granted l → m.orderedBy = some l) ∧ (∀ o, c.hold ≠ .waiting o)) ∧ c.stepAllows m = true ∧
      (m.src = .mailslot ∨ m.dst = .fixed .mailslot →
        e.panel.level.mailslotDoor = false ∧ c.startPhase = .settled) ∧
      ((∃ v, m.serves = .inventoryProbe v) ∨ (c.holdsCarried m ∧ c.hasRoom e m)) := by
  have through : m.viaMailslot = true ↔ m.src = .mailslot ∨ m.dst = .fixed .mailslot := by simp [Move.viaMailslot]
  have probe : m.isProbe = true ↔ ∃ v, m.serves = .inventoryProbe v := by
    unfold Move.isProbe
    cases m.serves <;> simp
  have parts : startable e c m = (c.hold.permits m && c.stepAllows m &&
      (!m.viaMailslot || (!e.panel.level.mailslotDoor && c.startPhase == .settled)) &&
      (m.isProbe || (c.sourceHolds m && destinationAllows e c m))) := rfl
  rw [← Hold.permits_iff, ← probe, ← c.sourceHolds_iff, ← through, ← destinationAllows_iff, parts]
  simp only [Bool.and_eq_true, Bool.or_eq_true, Bool.not_eq_true', beq_iff_eq]
  cases m.viaMailslot <;> simp [and_assoc]

/-- A move whose operation has not still to bind a drive starts toward its destination (R37). -/
theorem Core.take_fixed {p : Position} (hd : m.dst = .fixed p)
    (h : ∀ n k, m.serves = .mount n → c.mount n = some k → k.step ≠ .waiting) : c.take m = c.startMove m p := by
  unfold Core.take
  split
  · next hf => cases hd.symm.trans hf
  · next n p' d f hm hf hs =>
    obtain rfl : p = p' := Dest.fixed.inj (hd.symm.trans hf)
    rw [if_neg]
    intro hw
    obtain ⟨k, hk, hks⟩ := Option.map_eq_some_iff.mp hw
    exact h n k hm hk hks
  · next hf _ => rw [Dest.fixed.inj (hd.symm.trans hf)]
  · next hn _ _ => exact absurd hd (hn _)

end

end Sys2Proof.Machine
end


section
/-! SUPPORT. The DONE of a move (R39): the picker IDLE, the cartridge set down, and what each operation served does next (R26, R32 to
R34, R45, R149, R150, R154, R157, R159, R160). -/

namespace Sys2Proof.Machine

/-! ### The picker's reports -/

/-- The core once the picker has set down what it carried. -/
def State.setDown (s : State) : Core := { s.toCore with picker := pickerFree }

/-- The core after a waiting hold is granted (R40). -/
def Core.holdGranted (c : Core) : Core :=
  { c with hold := (Machine.holdGranted c.hold c.links).1, links := (Machine.holdGranted c.hold c.links).2 }

section
variable {s : State} {m : Move} {c : Core}

/-- A picker MOVING or HALTED in a move is the one whose DONE is taken (R38, R39). -/
theorem Core.movingMove_eq (hp : s.picker.state = .moving ∨ s.picker.state = .halted)
    (hm : s.picker.motion = some (.move m)) : s.toCore.movingMove = some m := by
  have takes : s.picker.state.takesDone = true := by rcases hp with h | h <;> rw [h] <;> rfl
  simp [Core.movingMove, takes, hm]

/-- The DONE of a move leads to what its operation makes of the cartridge set down, a waiting hold granted last, and what follows
(R39, R40). -/
theorem moveDone_leads (hd : s.resetDue = false) (hp : s.picker.state = .moving ∨ s.picker.state = .halted)
    (hm : s.picker.motion = some (.move m)) (hs : m.isProbe = false) (hf : moveDone s.toFixed s.setDown m = c) :
    ∃ t, exec .pickerMoveDone s = .next t ∧ ReachedThen t { s with toCore := c.holdGranted } := by
  refine event_acted (f := fun e c => c.moveCompleted e m) hd ?_ ?_
  · unfold takeMoveDone
    rw [Core.movingMove_eq hp hm]
    simp only [hs]
    rfl
  · simp only [State.onCore, Core.moveCompleted]
    rw [show moveDone s.toFixed s.toCore.pickerIdle m = c from hf, Core.grantHold_eq]
    rfl

/-- The report of a probe goes into the probe table (R159). -/
theorem probeDone_leads {v : SlotId} {i : Inventory} (hd : s.resetDue = false)
    (hp : s.picker.state = .moving ∨ s.picker.state = .halted) (hm : s.picker.motion = some (.move m))
    (hs : m.serves = .inventoryProbe v) (hi : s.inventory = some i) (occupied : Bool) :
    ∃ t, exec (.inventoryProbeDone occupied) s = .next t ∧ ReachedThen t { s with
      toCore := Core.holdGranted { s.setDown with
        inventory := some { i with probes := i.probes.set v (if occupied = true then .occupied else .empty) } } } := by
  refine event_acted (f := fun _ c => c.probed v occupied) hd ?_ ?_
  · unfold takeProbeDone
    rw [Core.movingMove_eq hp hm]
    simp only [hs]
  · simp only [State.onCore, Core.probed]
    rw [Core.grantHold_eq]
    have inv : s.toCore.pickerIdle.inventory = some i := hi
    simp only [Core.recordProbe, Core.onInventory, inv]
    rfl

end

/-! ### The cartridge set down (R3, R23) -/

section
variable {c : Core} {e : Fixed} {m : Move} {d : DriveId}

/-- A volume that was IN_PICKER stands in a drive (R3, R23). -/
theorem Core.arrive_drive {v : SlotId} {f : Face} {src dst : Position} (h : c.location v = some (.inPicker src dst)) :
    c.arrive (.drive d f) (some v) =
      { c with
        volumes := relocated c.volumes v (.inDrive d f)
        drives := c.drives.set d (seated (c.drives.get d) ⟨v, f⟩ (c.isOpen ⟨v, f⟩)) } := by
  have put : c.arrive (.drive d f) (some v) = (c.setLoc v (.inDrive d f)).seat d ⟨v, f⟩ := rfl
  rw [put, Core.setLoc_gripped h (l := .inDrive d f) nofun, Core.seat_eq, Core.isOpen_relocated]

/-- It stands in the mailslot (R3). -/
theorem Core.arrive_mailslot {v : SlotId} {src dst : Position} (h : c.location v = some (.inPicker src dst)) :
    c.arrive .mailslot (some v) = { c with volumes := relocated c.volumes v .inMailslot } := Core.setLoc_gripped h nofun

/-- A drive record with a cartridge of no name on a face (R23). -/
def Drive.unnamedOn (x : Drive) (f : Face) : Drive := { x with loaded := none, unnamed := true, presented := some f }

theorem Core.arrive_unnamed_drive (c : Core) (d : DriveId) (f : Face) :
    c.arrive (.drive d f) none = { c with drives := c.drives.set d ((c.drives.get d).unnamedOn f) } := rfl

theorem Core.arrive_unnamed_mailslot (c : Core) : c.arrive .mailslot none = c := rfl

/-- A drive record under LOAD+SPIN UP (R33). -/
def Drive.spinningUp (x : Drive) : Drive := { x with state := .loading, op := issued (.loadSpinUp false) .mechanism }

theorem Core.beginLoad_eq {x : Drive} (hx : c.drives.get d = x) :
    c.beginLoad d = { c with drives := c.drives.set d x.spinningUp } := by
  subst hx
  simp only [Core.beginLoad, Core.issue, Core.onDrive, Four.set_set, Four.get_set_same]
  rfl

/-! ### The operation served goes on -/

/-- The mount operation whose move is done is loading (R33). -/
def Core.mountSteps (c : Core) (n : Nat) (st : MountStep) : List MountOp :=
  c.mounts.map (fun k => if k.arrival = n then { k with step := st } else k)

/-- A binding's mount operation ends with it (R150). -/
theorem Core.endBoundMount_eq (c : Core) (b : Binding) :
    c.endBoundMount b = { c with mounts := c.mounts.filter (fun k => k.target.heldBy b = false) } := by
  have test : (fun k : MountOp => !k.target.heldBy b) = fun k => decide (k.target.heldBy b = false) := by
    funext k
    cases k.target.heldBy b <;> rfl
  unfold Core.endBoundMount
  rw [test]

/-- A rejected cartridge lies in the mailslot, a FOREIGN one with its alarm (R146, R154). -/
theorem Core.rejectInto_eq (c : Core) (d : DriveId) (x : MediaOutcome) :
    let y := if x = .foreign then alarmSet (c.alarms, c.links) .foreignCartridge else (c.alarms, c.links)
    c.rejectInto d x =
      { c with
        drives := c.drives.set d (emptied (c.drives.get d))
        mailslot := .rejected x
        alarms := y.1
        links := y.2 } := by
  intro y
  unfold Core.rejectInto
  split
  · next h =>
    subst h
    exact Core.setAlarm_eq _ _
  · next h =>
    have unchanged : y = (c.alarms, c.links) := if_neg h
    rw [unchanged]
    rfl

section mounts
variable {n : Nat} {k : MountOp}

theorem moveServed_mount_side {sd : Side} (h : m.serves = .mount n) (hk : c.mount n = some k)
    (ht : k.target = .side sd) : moveServed e c m (some d) =
      { c with mounts := c.mountSteps n .loading, drives := c.drives.set d (c.drives.get d).spinningUp } := by
  unfold moveServed
  simp only [h, mountMoveDone, hk, ht]
  exact Core.beginLoad_eq rfl

theorem moveServed_mount_importing (h : m.serves = .mount n) (hk : c.mount n = some k)
    (ht : k.target = .importing) : moveServed e c m (some d) =
      { c with
        mounts := c.mountSteps n .loading
        drives := c.drives.set d ((c.drives.get d).boundBy .importing).spinningUp
        importOp := c.importOp.map (fun o => { o with drive := some d }) } := by
  unfold moveServed
  simp only [h, mountMoveDone, hk, ht]
  refine (Core.beginLoad_eq (x := (c.drives.get d).boundBy .importing) (Four.get_set_same _ _ _)).trans ?_
  simp only [Core.onImport, Core.onDrive, Core.onMount, Four.set_set]
  rfl

theorem moveServed_mount_slot {v : SlotId} (h : m.serves = .mount n) (hk : c.mount n = some k)
    (ht : k.target = .slotCartridge v) : moveServed e c m (some d) =
      { c with
        mounts := c.mountSteps n .loading
        drives := c.drives.set d ((c.drives.get d).boundBy .inventory).spinningUp
        inventory := c.inventory.map (fun i =>
          { i with reading := i.reading.map (fun r => { r with drive := some d, phase := .loading }) }) } := by
  unfold moveServed
  simp only [h, mountMoveDone, hk, ht]
  refine (Core.beginLoad_eq (x := (c.drives.get d).boundBy .inventory) (Four.get_set_same _ _ _)).trans ?_
  simp only [Core.onReading, Core.onInventory, Core.onDrive, Core.onMount, Four.set_set]
  rfl

theorem moveServed_evict {x : Option DriveId} (h : m.serves = .evict d) (hb : (c.drives.get d).bound = some (.mount n)) :
    moveServed e c m x =
      { c with
        mounts := c.mountSteps n .moveReady
        drives := c.drives.set d { c.drives.get d with state := .loading } } := by
  unfold moveServed
  simp only [h, evictDone, Core.drv]
  split
  · next n' hn =>
    obtain rfl : n = n' := by simpa using hb.symm.trans hn
    rfl
  · next hn => exact absurd hb (hn n)

end mounts

theorem moveServed_service_drive {sv : ServiceMove} (h : m.serves = .service sv) (hd : sv.toDrive = true) :
    moveServed e c m (some d) = { c with drives := c.drives.set d (c.drives.get d).spinningUp } := by
  unfold moveServed
  simp only [h, hd]
  exact Core.beginLoad_eq rfl

theorem moveServed_turn (h : m.serves = .importTurn ∨ m.serves = .inventoryTurn) :
    moveServed e c m (some d) = { c with drives := c.drives.set d (c.drives.get d).spinningUp } := by
  unfold moveServed
  rcases h with h | h <;> simp only [h] <;> exact Core.beginLoad_eq rfl

theorem moveServed_clearReturn {x : Option DriveId} {o : Orderer} (h : m.serves = .clearReturn d)
    (hc : (c.drives.get d).clearing = some o) : moveServed e c m x =
      { c with
        drives := c.drives.set d { emptied (c.drives.get d) with clearing := none }
        links := answered c.links o (.media .cleared none) } := by
  unfold moveServed
  simp only [h, Core.drv]
  split
  · next o' ho =>
    obtain rfl : o = o' := Option.some.inj (hc.symm.trans ho)
    simp only [Core.mediaDone_told, Core.emptyDrive, Core.onDrive, Four.set_set, Four.get_set_same]
    rfl
  · next hn => cases hc.symm.trans hn

theorem moveServed_importHome {op : ImportOp} {v : SlotId} {x : MediaOutcome} (h : m.serves = .importHome)
    (hi : c.importOp = some op) (hp : op.phase = .goingHome v x) : moveServed e c m (some d) =
      { c with
        mounts := c.mounts.filter (fun k => k.target.heldBy .importing = false)
        drives := c.drives.set d (emptied (c.drives.get d))
        importOp := none
        links := answered c.links op.by_ (.media x (some v)) } := by
  unfold moveServed
  simp only [h, hi, hp, Core.mediaDone_told, Core.endBoundMount_eq]
  rfl

theorem moveServed_importBack {op : ImportOp} {x : MediaOutcome} (h : m.serves = .importBack x)
    (hi : c.importOp = some op) :
    let y := if x = .foreign then alarmSet (c.alarms, c.links) .foreignCartridge else (c.alarms, c.links)
    moveServed e c m (some d) =
      { c with
        mounts := c.mounts.filter (fun k => k.target.heldBy .importing = false)
        drives := c.drives.set d (emptied (c.drives.get d))
        mailslot := .rejected x
        importOp := none
        alarms := y.1
        links := answered y.2 op.by_ (.media x none) } := by
  unfold moveServed
  simp only [h, hi, Core.mediaDone_told, Core.endBoundMount_eq, Core.rejectInto_eq]

theorem moveServed_exportOut {op : ExportOp} (h : m.serves = .exportOut) (hx : c.exportOp = some op) :
    moveServed e c m none =
      { c with
        mailslot := .volume op.slot
        exportOp := none
        links := answered c.links op.by_ (.media .exported (some op.slot)) } := by
  unfold moveServed
  simp only [h, hx, Core.mediaDone_told]

theorem moveServed_exportOut_drive {op : ExportOp} (h : m.serves = .exportOut) (hx : c.exportOp = some op) :
    moveServed e c m (some d) =
      { c with
        drives := c.drives.set d (emptied (c.drives.get d))
        mailslot := .volume op.slot
        exportOp := none
        links := answered c.links op.by_ (.media .exported (some op.slot)) } := by
  unfold moveServed
  simp only [h, hx, Core.mediaDone_told]
  rfl

theorem moveServed_inventoryHome {i : Inventory} (h : m.serves = .inventoryHome) (hi : c.inventory = some i) :
    moveServed e c m (some d) =
      { c with
        mounts := c.mounts.filter (fun k => k.target.heldBy .inventory = false)
        drives := c.drives.set d (emptied (c.drives.get d))
        inventory := some { i with reading := none } } := by
  unfold moveServed
  simp only [h, Core.endBoundMount_eq, Core.endReading, Core.onInventory, Core.emptyDrive, Core.onDrive, hi]
  rfl

theorem moveServed_inventoryOut {i : Inventory} (h : m.serves = .inventoryOut) (hi : c.inventory = some i) :
    let y := alarmSet (c.alarms, c.links) .foreignCartridge
    moveServed e c m (some d) =
      { c with
        mounts := c.mounts.filter (fun k => k.target.heldBy .inventory = false)
        drives := c.drives.set d (emptied (c.drives.get d))
        mailslot := .rejected .foreign
        inventory := some { i with reading := none, counts := { i.counts with setAside := i.counts.setAside + 1 } }
        alarms := y.1
        links := y.2 } := by
  unfold moveServed
  simp only [h, Core.endBoundMount_eq, Core.onInventory, Core.rejectInto_eq, hi]
  rfl

end

end Sys2Proof.Machine
end


section
/-! SUPPORT. The moves whose DONE the picker reports, by what they carry and where they set it down (R3, R39). -/

namespace Sys2Proof.Machine

section
variable {s : State} {m : Move} {d : DriveId} {f : Face} {v : SlotId} {src dst : Position} {c : Core} {p : Position}

theorem Move.isProbe_false {x : Serves} (h : m.serves = x) (hx : ∀ v, x ≠ .inventoryProbe v) : m.isProbe = false := by
  unfold Move.isProbe
  split
  · next v hv => exact absurd (h.symm.trans hv) (hx v)
  · rfl

/-- The DONE of a move that serves `x`: what it carries arrives, and its operation goes on. -/
theorem arrived_leads {x : Serves} {a : Core} {od : Option DriveId} (hd : s.resetDue = false)
    (hp : s.picker.state = .moving ∨ s.picker.state = .halted) (hm : s.picker.motion = some (.move m))
    (hx : m.serves = x) (hn : ∀ v, x ≠ .inventoryProbe v) (hdst : m.dst = .fixed p) (ho : driveOfMove m.src p = od)
    (ha : s.setDown.arrive p m.carries = a) (hf : moveServed s.toFixed a m od = c) :
    ∃ t, exec .pickerMoveDone s = .next t ∧ ReachedThen t { s with toCore := c.holdGranted } := by
  refine moveDone_leads hd hp hm (Move.isProbe_false hx hn) ?_
  rw [moveDone_fixed hdst, ha, ho]
  exact hf

/-- A present volume is where it has been put (R3). -/
theorem Core.location_relocated {c : Core} {l0 : Location} (h : c.location v = some l0) (l : Location) :
    Core.location { c with volumes := relocated c.volumes v l } v = some l := by
  unfold Core.location Core.vol at h ⊢
  obtain ⟨x, hx, -⟩ := Option.map_eq_some_iff.mp h
  have hx : c.volumes[(v : Nat)] = some x := hx
  simp [relocated, hx]

/-- The jobs placed again leave the alarms and the picker (R86). -/
theorem foldl_placedAgain_keeps (l : List Job) (t : State) :
    (l.foldl placedAgain t).alarms = t.alarms ∧ (l.foldl placedAgain t).picker = t.picker := by
  induction l generalizing t with
  | nil => exact ⟨rfl, rfl⟩
  | cons j l ih =>
    have one : (placedAgain t j).picker = t.picker := by
      unfold placedAgain
      cases j.side <;> rfl
    exact ⟨(ih _).1.trans (placedAgain_keeps t j).2.2.2.2.2, (ih _).2.trans one⟩

/-- An IMPORT's return from the mailslot ends it: the jobs that waited for the volume are placed again, and it is answered (R149,
R86). -/
theorem moveServed_importReturn {c : Core} {op : ImportOp} {od : Option DriveId} (hx : m.serves = .importReturn)
    (hi : c.importOp = some op) (hn : (s.queue.map (·.id)).Nodup) (hs : s.toCore = { c with importOp := none })
    (hw : ∀ j ∈ s.queue, j ∉ waitingOn s v → s.toCore.wakes j = false) (hl : s.toCore.location v = some .home)
    (he : s.exportOp = none) (hb : .noBlank ∉ s.alarms) :
    ∃ q, (waitingOn s v).foldl placedAgain s = { s with toCore := q } ∧ q.picker = s.picker ∧
      moveServed s.toFixed c m od = { q with links := answered q.links op.by_ (.media .returned m.carries) } := by
  have present : s.toCore.vol v ≠ none := fun h => by
    unfold Core.location at hl
    rw [h] at hl
    cases hl
  have reach : s.toCore.offline v = false := by simp [Core.offline, hl, Location.offline, Core.exportMarked, he]
  have woken := onCore_wakeJobs hn hw present reach
  obtain ⟨alarms, picker⟩ := foldl_placedAgain_keeps (waitingOn s v) s
  rw [← woken] at alarms picker
  refine ⟨_, woken.symm, picker, ?_⟩
  have unblocked : .noBlank ∉ (wakeJobs s.toFixed s.toCore).alarms := by
    rw [show (wakeJobs s.toFixed s.toCore).alarms = s.alarms from alarms]
    exact hb
  unfold moveServed
  simp only [hx, hi]
  rw [← hs, Core.reselect_none unblocked, Core.mediaDone_told]

end

end Sys2Proof.Machine
end

section
open Sys2Proof Sys2Proof.Machine

/-- Settles O49: the arbiter's order and what it asks of a move, then the DONE of each operation a move can serve. -/
theorem moveDoneSetsTheCartridgeDown : Obligations.MoveDoneSetsTheCartridgeDown := by
  refine ⟨fun s => ?_, fun m s hd hp hm => ?_⟩
  · intro before chosen starts driveFree unclaimedQuiet evictable binds held room
    refine ⟨fun m hc => ?_, fun hc => chooseMove_none hc, ?_, fun m => ?_, fun m p hdst hw hh => ?_⟩
    · obtain ⟨hm, hs, hk⟩ := chooseMove_some hc
      exact ⟨hm, hs, fun k hkm hks hb => hk k hkm hks ((Move.rank_lt_iff k m).mpr hb)⟩
    · simp only [arbiterStep, gateOpen, Bool.and_eq_true, Bool.not_eq_true']
      rfl
    · have isFree (d : DriveId) : (s.drives.get d).free = true ↔ driveFree d := Drive.free_iff _
      have isQuiet (x : Drive) : s.toCore.swappable x = true ↔ unclaimedQuiet x := Core.swappable_iff _ _
      have isEvictable (x : Drive) : s.toCore.evictable x = true ↔ evictable x := by
        rw [Core.evictable_iff, isQuiet]
      have isBinds : s.toCore.stepAllows m = true ↔ binds m := by
        rw [Core.stepAllows_iff]
        simp only [isFree, isEvictable, isQuiet]
        rfl
      have isHeld : s.toCore.holdsCarried m ↔ held m := Iff.rfl
      have isRoom : s.toCore.hasRoom s.toFixed m ↔ room m := by
        simp only [Core.hasRoom, room]
        cases m.dst with
        | anyDrive f => rfl
        | fixed p =>
          cases p with
          | slot v =>
            by_cases hi : s.inventory = none
            · simp only [hi, if_true]
              exact Core.slotFree_iff hi v
            · simp only [hi, if_false]
          | drive d f => rfl
          | mailslot => rfl
      refine (startable_iff _ _ m).trans ?_
      rw [isBinds, isHeld, isRoom]
      exact and_assoc
    · intro emptied started
      refine (Core.take_fixed hdst hw).trans ?_
      have inside (v : SlotId) (hv : m.carries = some v) : ∃ loc, s.toCore.location v = some loc ∧ loc ≠ .out := by
        have hh : s.toCore.holdsCarried m := hh
        unfold Core.holdsCarried at hh
        rw [hv] at hh
        exact ⟨_, hh.1, Position.location_inside _⟩
      have same : { m with dst := .fixed p } = m := by rw [← hdst]
      rw [Core.startMove_eq inside, same]
      rfl
  · intro leads granted held step without spunUp media
    have leadsTo {x : Serves} {p : Position} {a c : Core} {od : Option DriveId} {u : State} (hx : m.serves = x)
        (hn : ∀ v, x ≠ .inventoryProbe v) (hdst : m.dst = .fixed p) (ho : driveOfMove m.src p = od)
        (ha : s.setDown.arrive p m.carries = a) (hf : moveServed s.toFixed a m od = c)
        (hu : { s with toCore := c.holdGranted } = u) : leads u :=
      hu ▸ arrived_leads hd hp hm hx hn hdst ho ha hf
    have fromDrive {d f} (p : Position) (hsrc : m.src = .drive d f) : driveOfMove m.src p = some d := by rw [hsrc]; rfl
    refine ⟨fun v src dst hc hl => ⟨fun d f hdst => ?_, fun hdst d f hsrc => ?_, fun hdst op hx hsrc hi he hb => ?_,
      fun hdst op hx hi hv => ?_⟩, fun hc => ⟨fun d f g hsrc hdst hx => ?_, fun d f hsrc hdst => ?_,
      fun n k d g hx hk hdst => ?_⟩, fun v i occupied hs hi => ?_⟩
    · intro home
      have put : s.setDown.arrive (.drive d f) m.carries = _ := hc ▸ Core.arrive_drive (c := s.setDown) hl
      have toDrive (h : m.src = .slot v) : driveOfMove m.src (.drive d f) = some d := by rw [h]; rfl
      refine ⟨fun n k sd hx hk ht hsrc => ?_, fun sv hx hto hsrc => ?_⟩
      · have ends : driveOfMove m.src (.drive d f) = some d := hsrc.elim toDrive fun ⟨g, h⟩ => fromDrive _ h
        refine leadsTo hx nofun hdst ends put (moveServed_mount_side hx hk ht) ?_
        simp only [Four.set_set, Four.get_set_same]
        rfl
      · refine leadsTo hx nofun hdst (toDrive hsrc) put (moveServed_service_drive hx hto) ?_
        simp only [Four.set_set, Four.get_set_same]
        rfl
    · intro x emptied
      have put : s.setDown.arrive (.slot v) m.carries = _ := hc ▸ Core.arrive_slot (c := s.setDown) hl
      have from_ := fromDrive (.slot v) hsrc
      refine ⟨fun n hx hb => ?_, fun sv hx ht => ?_, fun o hx hcl => ?_, fun op o hx hi hph => ?_, fun i hx hi => ?_⟩
      · exact leadsTo hx nofun hdst from_ put (moveServed_evict hx hb) rfl
      · exact leadsTo hx nofun hdst from_ put (moveServed_service_home hx ht) rfl
      · exact leadsTo hx nofun hdst from_ put (moveServed_clearReturn hx hcl) rfl
      · exact leadsTo hx nofun hdst from_ put (moveServed_importHome hx hi hph) rfl
      · exact leadsTo hx nofun hdst from_ put (moveServed_inventoryHome hx hi) rfl
    · intro home waiting hq hw placed
      have put : s.setDown.arrive (.slot v) m.carries = _ := hc ▸ Core.arrive_slot (c := s.setDown) hl
      obtain ⟨-, -, jobs, -⟩ := hq
      obtain ⟨q, hq, picker, served⟩ := moveServed_importReturn (s := home) (v := v)
        (c := { s.setDown with volumes := relocated s.volumes v .home }) hx hi jobs rfl hw
        (Core.location_relocated hl .home) he hb
      refine leadsTo hx nofun hdst rfl put served ?_
      have placed_ : placed = { s with toCore := q } := hq
      rw [placed_]
      have idle : pickerFree = q.picker := picker.symm
      simp only [granted, idle, hc]
      rfl
    · intro out
      have put : s.setDown.arrive .mailslot m.carries = _ := hc ▸ Core.arrive_mailslot (c := s.setDown) hl
      subst hv
      refine ⟨fun hsrc => ?_, fun d f hsrc => ?_⟩
      · exact leadsTo hx nofun hdst (by rw [hsrc]; rfl) put (moveServed_exportOut hx hi) rfl
      · exact leadsTo hx nofun hdst (fromDrive _ hsrc) put (moveServed_exportOut_drive hx hi) rfl
    · have put : s.setDown.arrive (.drive d g) m.carries = _ := hc ▸ s.setDown.arrive_unnamed_drive d g
      have turns (x : Serves) (hs : m.serves = x) (hn : ∀ v, x ≠ .inventoryProbe v) :
          leads { held s.links with drives := s.drives.set d (spunUp d g) } := by
        refine leadsTo hs hn hdst (fromDrive _ hsrc) put (moveServed_turn hx) ?_
        simp only [Four.set_set, Four.get_set_same]
        rfl
      exact turns m.serves rfl (by rcases hx with h | h <;> rw [h] <;> nofun)
    · intro rejected
      have put : s.setDown.arrive .mailslot m.carries = _ := hc ▸ s.setDown.arrive_unnamed_mailslot
      refine ⟨fun op o hx hi => ?_, fun i hx hi => ?_⟩
      · exact leadsTo hx nofun hdst (fromDrive _ hsrc) put (moveServed_importBack hx hi) rfl
      · exact leadsTo hx nofun hdst (fromDrive _ hsrc) put (moveServed_inventoryOut hx hi) rfl
    · intro bound
      have put : s.setDown.arrive (.drive d g) m.carries = _ := hc ▸ s.setDown.arrive_unnamed_drive d g
      refine ⟨fun ht hsrc => ?_, fun v ht hsrc => ?_⟩
      · refine leadsTo hx nofun hdst (by rw [hsrc]; rfl) put (moveServed_mount_importing hx hk ht) ?_
        simp only [Four.set_set, Four.get_set_same]
        rfl
      · refine leadsTo hx nofun hdst (by rw [hsrc]; rfl) put (moveServed_mount_slot hx hk ht) ?_
        simp only [Four.set_set, Four.get_set_same]
        rfl
    · exact probeDone_leads hd hp hm hs hi occupied

end


section
/-! SUPPORT. A motion that fails, and a recovery: the cartridge back at the source, the move put back or given up, and the end of the
recovery (R38 to R40, R43, R44). -/

namespace Sys2Proof.Machine

section
variable {s : State} {c : Core} {m : Move} {p : Position} {d : DriveId} {f : Face} {v : SlotId}

/-- All that a failed motion does (R39, R40, R43). -/
theorem Core.pickerFail_eq (c : Core) (stalled : Bool) :
    let alarm := alarmSet (c.alarms, c.links) .pickerFault
    let told := Machine.holdGranted c.hold (recoveryTold c.picker.by_ alarm.2 .faulted)
    c.pickerFail stalled =
      { c with
        picker := { c.picker with
          state := .faulted, stall := none, stalled := stalled, lateDone := false, lateProbe := none, by_ := none }
        alarms := alarm.1
        hold := told.1
        links := told.2 } := by
  simp only [Core.pickerFail, Core.setAlarm_eq, Core.recoveryDone_eq, Core.grantHold_eq]

/-- The end of a recovery: its link is answered DONE, a waiting hold granted, the picker IDLE (R40, R43). -/
def Core.freed (c : Core) : Core :=
  let told := Machine.holdGranted c.hold (recoveryTold c.picker.by_ c.links .done)
  { c with picker := pickerFree, hold := told.1, links := told.2 }

theorem Core.freed_eq (c : Core) : ((c.recoveryDone .done).grantHold).pickerIdle = c.freed := by
  rw [Core.recoveryDone_eq, Core.grantHold_eq]
  rfl

/-! ### Back at the source (R43, R146) -/

/-- The mailslot after a recovery that goes elsewhere: free again where it was reserved for the move. -/
def Core.mailslotFreed (c : Core) (dst : Position) : Mailslot :=
  if dst = .mailslot ∧ c.mailslot = .reserved then .empty else c.mailslot

/-- The cartridge is back where the move took it; one without a name left the drive's record but for its face (R23, R43). -/
def Core.backAt (c : Core) (src : Position) (carries : Option SlotId) : Core :=
  match src with
  | .drive d f =>
    match carries with
    | some _ => c.arrive src carries
    | none => c.onDrive d (fun x => { x with presented := some f })
  | _ => c.arrive src carries

theorem Core.returnToSource_elsewhere {src : Position} {carries : Option SlotId} {b : Core} (hs : src ≠ .mailslot)
    (hb : c.backAt src carries = b) : c.returnToSource src p carries = { b with mailslot := b.mailslotFreed p } := by
  subst hb
  exact (if_neg hs).trans (Core.mailslot_ite _ (p = .mailslot ∧ (c.backAt src carries).mailslot = .reserved) .empty)

theorem Core.returnToSource_mailslot {carries : Option SlotId} {b : Core} (hb : c.backAt .mailslot carries = b) :
    c.returnToSource .mailslot p carries =
      { b with mailslot := match carries with
        | some v => .volume v
        | none => .inserted } := by
  subst hb
  unfold Core.returnToSource
  simp only [if_true]
  rw [show c.arrive .mailslot carries = c.backAt .mailslot carries from rfl, Core.mailslot_ite]
  cases carries <;> rfl

theorem Core.backAt_drive {a b : Position} (h : c.location v = some (.inPicker a b)) :
    c.backAt (.drive d f) (some v) =
      { c with
        volumes := relocated c.volumes v (.inDrive d f)
        drives := c.drives.set d (seated (c.drives.get d) ⟨v, f⟩ (c.isOpen ⟨v, f⟩)) } := Core.arrive_drive h

theorem Core.backAt_slot {w : SlotId} {a b : Position} (h : c.location v = some (.inPicker a b)) :
    c.backAt (.slot w) (some v) = { c with volumes := relocated c.volumes v .home } := Core.setLoc_gripped h nofun

theorem Core.backAt_mailslot {a b : Position} (h : c.location v = some (.inPicker a b)) :
    c.backAt .mailslot (some v) = { c with volumes := relocated c.volumes v .inMailslot } := Core.arrive_mailslot h

/-! ### The move put back, or given up (R43, R44) -/

section
variable {b : Core}

theorem recovered_mount {n : Nat} (hd : m.dst = .fixed p) (hb : c.returnToSource m.src p m.carries = b)
    (h : m.serves = .mount n) : c.recovered m =
      Core.freed { b with moves := b.moves ++ [m], mounts := b.mountSteps n .moveReady } := by
  unfold Core.recovered Core.putBack
  simp only [hd, hb, h]
  exact Core.freed_eq _

theorem recovered_other (hd : m.dst = .fixed p) (hb : c.returnToSource m.src p m.carries = b)
    (h : ∀ n, m.serves ≠ .mount n) (hs : ∀ sv, m.serves = .service sv → c.picker.clearing = false) : c.recovered m =
      Core.freed { b with moves := b.moves ++ [m] } := by
  have back : b.putBack m = { b with moves := b.moves ++ [m] } := by
    unfold Core.putBack
    split
    · next n hn => exact absurd hn (h n)
    · rfl
  unfold Core.recovered
  simp only [hd, hb, back]
  split
  · next sv hsv =>
    rw [hs sv hsv]
    exact Core.freed_eq _
  · exact Core.freed_eq _

/-- A service MOVE that CLEAR FAULT has recovered is answered FAILED (R44). -/
theorem recovered_failed {sv : ServiceMove} {g : Core} (hd : m.dst = .fixed p)
    (hb : c.returnToSource m.src p m.carries = b) (h : m.serves = .service sv) (hc : c.picker.clearing = true)
    (hg : b.failService m sv = g) : c.recovered m = g.freed := by
  unfold Core.recovered
  simp only [hd, hb, h, hc, hg]
  exact Core.freed_eq _

theorem Core.failService_fromDrive {sv : ServiceMove} (h : m.src = .drive d f) : b.failService m sv =
    { b with
      drives := b.drives.set d { b.drives.get d with state := .spunDown, bound := none }
      links := answered b.links sv.by_ (.media .failed (some sv.slot)) } := by
  unfold Core.failService
  simp only [h, Core.mediaDone_told]
  rfl

theorem Core.failService_toDrive {sv : ServiceMove} {w : SlotId} (h : m.src = .slot w) (hd : m.dst = .fixed (.drive d f)) :
    b.failService m sv =
      { b with
        drives := b.drives.set d (emptied (b.drives.get d))
        links := answered b.links sv.by_ (.media .failed (some sv.slot)) } := by
  unfold Core.failService
  simp only [h, hd, Core.mediaDone_told]
  rfl

end

end

end Sys2Proof.Machine
end


section
/-! SUPPORT. What the picker's reports of a failure, a stall and a late DONE lead to (R39). -/

namespace Sys2Proof.Machine

section
variable {s : State} {m : Move}

/-- A stalled move that has faulted the picker can record a late DONE (R39). -/
theorem Core.stalledMove_eq (hp : s.picker.state = .faulted) (hs : s.picker.stalled = true)
    (hm : s.picker.motion = some (.move m)) : s.toCore.stalledMove = some m := by
  simp [Core.stalledMove, hp, hs, hm]

/-- No other picker can. -/
theorem Core.stalledMove_none (h : s.picker.state ≠ .faulted ∨ s.picker.stalled = false) : s.toCore.stalledMove = none := by
  unfold Core.stalledMove
  rcases h with h | h <;> simp [h]

/-- A FAULTED picker carries no move out. -/
theorem Core.movingMove_none (hp : s.picker.state = .faulted) : s.toCore.movingMove = none := by
  simp [Core.movingMove, hp, PickerState.takesDone]

end

end Sys2Proof.Machine
end

section
open Sys2Proof Sys2Proof.Machine

/-- Settles O50, by the reports: a failure, a stall, a late DONE, and the parts of a recovery, which ends alike at either of its
last reports. -/
theorem failedMotionFaultsAndRecoveryReturns : Obligations.FailedMotionFaultsAndRecoveryReturns := by
  refine ⟨fun s hd => ?_, fun s hd hp hm => ?_, fun m returning s hd hp hm => ?_⟩
  · intro p alarm told faulted
    refine ⟨fun m hm hp => ?_, fun m hp hs hm => ?_, fun h => event_same (if_neg ?_), fun m hp hs hm => ⟨?_, ?_⟩,
      fun h => event_same (o := updateOrder) (g := (·.onCore Core.recordLate)) ?_⟩
    · have takes : s.picker.state.takesDone = true ∧ s.picker.motion.isSome = true := by
        rcases hp with h | h <;> rw [h, hm] <;> exact ⟨rfl, rfl⟩
      exact event_acted (f := fun _ c => c.pickerFail false) hd (if_pos takes)
        (State.onCore_of (s.toCore.pickerFail_eq false) rfl)
    · have isMove : (s.picker.motion.map Motion.isMove).getD false = m.isMove := by rw [hm]; rfl
      refine event_acted (f := fun _ c => c.pickerFail ((c.picker.motion.map Motion.isMove).getD false)) hd
        (if_pos ⟨hp, hs⟩) (State.onCore_of (c := s.toCore.pickerFail m.isMove) ?_ ?_)
      · rw [isMove]
      · rw [Core.pickerFail_eq]
    · rw [not_and_or]
      exact h
    · refine event_reached (f := (·.onCore Core.recordLate)) hd (State.onCore_of (if_pos ?_) rfl)
      rw [Core.stalledMove_eq hp hs hm]
      rfl
    · intro v occupied hv
      refine event_reached (f := takeProbeDone occupied) hd ?_
      unfold takeProbeDone
      rw [Core.movingMove_none hp]
      refine State.onCore_of (c := { s.toCore with picker := { p with lateDone := true, lateProbe := some occupied } }) ?_ rfl
      unfold Core.recordLateProbe
      rw [Core.stalledMove_eq hp hs hm]
      simp only [Move.isProbe, hv]
      rfl
    · refine State.onCore_of (if_neg ?_) rfl
      rw [Core.stalledMove_none h]
      nofun
  · intro told
    refine report_leads (f := rehomed false) hd ?_
    unfold rehomed
    rw [s.toCore.motionNow_eq hp, hm]
    exact s.toCore.freed_eq
  · have now : s.toCore.motionNow = some (.recovery m returning) := (s.toCore.motionNow_eq hp).trans hm
    intro leads ends free
    have recovers {c : Core} (hc : s.toCore.recovered m = c) : ends { s with toCore := c } := by
      refine ⟨fun h => report_leads (f := rehomed false) hd ?_, fun h => report_leads (f := returned) hd ?_⟩
      · unfold rehomed
        rw [now, h]
        exact hc
      · unfold returned
        rw [now, h]
        exact hc
    refine ⟨fun h => report_leads (f := rehomed true) hd ?_, fun p hdst => ?_⟩
    · unfold rehomed
      rw [now, h]
      rfl
    · intro mailslot goesOn failed
      have goes {b : Core} (hb : s.toCore.returnToSource m.src p m.carries = b) (hv : b.moves = s.moves)
          (ho : b.mounts = s.mounts) : goesOn { s with toCore := b.freed } := by
        refine ⟨fun n hn => ?_, fun hn hsv => ?_⟩
        · rw [← hv, ← ho]
          exact recovers (recovered_mount hdst hb hn)
        · rw [← hv]
          exact recovers (recovered_other hdst hb hn hsv)
      refine ⟨fun v src dst hc hl => ⟨fun w hsrc => ?_, fun d f hsrc => ?_, fun hsrc => ?_⟩,
        fun hc => ⟨fun hsrc => ?_, fun d f hsrc => ?_⟩⟩ <;> rw [hsrc, hc] at goes
      · have back := Core.returnToSource_elsewhere (p := p) (src := .slot w) nofun (Core.backAt_slot hl)
        refine ⟨goes back rfl rfl, fun sv d f hsv hcl hp => ?_⟩
        subst hp
        rw [← hsrc, ← hc] at back
        exact recovers (recovered_failed hdst back hsv hcl (Core.failService_toDrive hsrc hdst))
      · have back := Core.returnToSource_elsewhere (p := p) (src := .drive d f) nofun (Core.backAt_drive hl)
        intro again
        refine ⟨goes back rfl rfl, fun sv w hsv hcl hp => ?_⟩
        subst hp
        rw [← hsrc, ← hc] at back
        have failed_ := recovers (recovered_failed hdst back hsv hcl (Core.failService_fromDrive hsrc))
        simp only [Four.set_set, Four.get_set_same] at failed_
        exact failed_
      · exact goes (Core.returnToSource_mailslot (Core.backAt_mailslot hl)) rfl rfl
      · exact goes (Core.returnToSource_mailslot rfl) rfl rfl
      · exact goes (Core.returnToSource_elsewhere nofun rfl) rfl rfl

end

section
/-! SUPPORT. The writers of the counter, the schedule, the settings, the clock, the window, the close result and the start record
(R49, R50, R56, R114, R134, R135, R139, R163, R186, R196): which of these values each command can write, and that its effect writes
no other. What the blocks do of themselves changes the core only, and with it none of them. -/

namespace Sys2Proof.Machine

/-- The values that have writers of their own. -/
@[ext] structure Ledger where
  counter : Option Counter
  schedule : Schedule
  settings : Settings
  clock : Option Nat
  window : Option Nat
  closeResult : Option CloseResult
  startRecord : StartRecord

/-- Those values as the state holds them. -/
def Fixed.ledger (e : Fixed) : Ledger :=
  { counter := e.counter, schedule := e.schedule, settings := e.settings, clock := e.clock, window := e.window,
    closeResult := e.closeResult, startRecord := e.startRecord }

/-- What a command other than RESET can make of the ledger. -/
def Writes (c : Instr) (e e' : Fixed) : Prop :=
  match c with
  | .data _ => e'.ledger = e.ledger ∨
      ∃ k, e.counter = some k ∧ e'.ledger = { e.ledger with counter := some { k with nextRn := k.nextRn + 1 } }
  | .closeDay _ => e'.ledger = e.ledger ∨
      ∃ k, e.counter = some k ∧
        e'.ledger = { e.ledger with counter := some { k with day := e'.tallyDay }, closeResult := e'.closeResult }
  | .restoreCounter _ => e'.ledger = { e.ledger with counter := e'.counter }
  | .setSchedule _ => e'.ledger = { e.ledger with schedule := e'.schedule }
  | .setConfig _ => e'.ledger = { e.ledger with settings := e'.settings }
  | .setClock _ => e'.ledger = { e.ledger with clock := e'.clock }
  | .clockSecondTick => e'.ledger = { e.ledger with clock := e'.clock, window := e'.window }
  | .openReception _ | .closeReception _ | .receptionWindowExpiry => e'.ledger = { e.ledger with window := e'.window }
  | _ => e'.ledger = e.ledger

/-- A command that changes nothing writes what it may. -/
theorem Writes.refl (c : Instr) (e : Fixed) : Writes c e e := by
  unfold Writes
  split
  · exact .inl rfl
  · exact .inl rfl
  all_goals rfl

/-- A command taken as an event writes what its effect writes. -/
theorem event_writes {c : Instr} {o : List Section} {s t : State} {f : State → State}
    (ht : event o s f = .next t) (hf : Writes c s.toFixed (f s).toFixed) : Writes c s.toFixed t.toFixed := by
  rw [event_eq] at ht
  cases ht
  split
  · exact .refl c _
  · exact hf

/-- A request writes what its owner writes. -/
theorem request_writes {c : Instr} {k : RequestKind} {r : Request} {s t : State} {own : State → State}
    (ht : request k r own s = .next t) (hown : ∀ u : State, Writes c u.toFixed (own u).toFixed) :
    Writes c s.toFixed t.toFixed := by
  refine event_writes ht ?_
  rcases examine_cases k r own s with ⟨-, h⟩ | ⟨-, -, h⟩ | ⟨-, -, h⟩ <;> rw [h]
  · exact .refl c _
  · exact .refl c _
  · exact hown (s.validFrame r.link)

/-! ### Effects that write none of them -/

section
variable (u : State)

theorem State.dropTransfer_ledger (l : LinkId) : (u.dropTransfer l).ledger = u.ledger := by
  unfold State.dropTransfer
  split <;> rfl

theorem takeFetch_ledger (r : Request) : (takeFetch r u).ledger = u.ledger := by
  unfold takeFetch
  split
  · rfl
  · split <;> rfl

theorem takeWalk_ledger (r : Request) : (takeWalk r u).ledger = u.ledger := by
  unfold takeWalk
  split
  · rfl
  · split <;> rfl

theorem takeCancel_ledger (r : Request) : (takeCancel r u).ledger = u.ledger := by
  unfold takeCancel
  split <;> rfl

theorem takeSubmit_ledger (r : Request) : (takeSubmit r u).ledger = u.ledger := by
  unfold takeSubmit
  split
  · rfl
  · split <;> rfl

theorem takeAbandon_ledger (r : Request) : (takeAbandon r u).ledger = u.ledger := by
  unfold takeAbandon
  split
  · exact u.dropTransfer_ledger r.link
  · rfl

theorem takeResubmit_ledger (r : Request) : (takeResubmit r u).ledger = u.ledger := by
  unfold takeResubmit
  split
  · rfl
  · split <;> rfl

theorem takeReadTally_ledger (r : Request) : (takeReadTally r u).ledger = u.ledger := by
  unfold takeReadTally
  extract_lets
  split
  · rfl
  · split <;> rfl

theorem takeMove_ledger (r : Request) : (takeMove r u).ledger = u.ledger := by
  unfold takeMove
  split
  · rfl
  · split <;> rfl

theorem takeResume_ledger (r : Request) : (takeResume r u).ledger = u.ledger := by
  unfold takeResume
  split
  · rfl
  · simp only
    split <;> rfl

theorem takeClearFault_ledger (r : Request) : (takeClearFault r u).ledger = u.ledger := by
  unfold takeClearFault
  split <;> rfl

theorem takeImport_ledger (r : Request) : (takeImport r u).ledger = u.ledger := by
  unfold takeImport
  split
  · rfl
  · split <;> rfl

theorem takeExport_ledger (r : Request) : (takeExport r u).ledger = u.ledger := by
  unfold takeExport
  split
  · rfl
  · split <;> rfl

theorem takeInventory_ledger (r : Request) : (takeInventory r u).ledger = u.ledger := by
  unfold takeInventory
  split
  · rfl
  · split <;> rfl

theorem takeWithdraw_ledger (r : Request) : (takeWithdraw r u).ledger = u.ledger := by
  unfold takeWithdraw
  split
  · rfl
  · split
    · rfl
    · split <;> rfl
    · rfl

theorem takeRestart_ledger (r : Request) : (takeRestart r u).ledger = u.ledger := by
  unfold takeRestart
  split <;> rfl

theorem takeSetNoticeMask_ledger (r : Request) : (takeSetNoticeMask r u).ledger = u.ledger := by
  unfold takeSetNoticeMask
  split <;> rfl

theorem takeEdge_ledger (i : Input) : (takeEdge i u).ledger = u.ledger := by
  unfold takeEdge
  split <;> rfl

theorem takeSilent_ledger (l : LinkId) : (takeSilent l u).ledger = u.ledger := by
  unfold takeSilent
  simp only
  split
  · exact State.dropTransfer_ledger { u with resetDue := _ } l
  · rfl

theorem takeOperationTimeout_ledger (d : DriveId) : (takeOperationTimeout d u).ledger = u.ledger := by
  unfold takeOperationTimeout
  split
  · split <;> rfl
  · rfl

theorem takeStall_ledger : (takeStall u).ledger = u.ledger := by
  unfold takeStall
  split <;> rfl

theorem takeMoveDone_ledger : (takeMoveDone u).ledger = u.ledger := by
  unfold takeMoveDone
  split
  · split <;> rfl
  · rfl

theorem takeMoveFailed_ledger : (takeMoveFailed u).ledger = u.ledger := by
  unfold takeMoveFailed
  split <;> rfl

theorem takeProbeDone_ledger (occupied : Bool) : (takeProbeDone occupied u).ledger = u.ledger := by
  unfold takeProbeDone
  split
  · split <;> rfl
  · rfl

theorem completion_ledger (d : DriveId) (f : Fixed → Core → DriveOp → Option Core) :
    (completion d f u).ledger = u.ledger := by
  unfold completion
  split
  · split <;> rfl
  · rfl

/-! ### Effects that write one of them -/

theorem takeSetSchedule_writes (r : Request) : Writes (.setSchedule r) u.toFixed (takeSetSchedule r u).toFixed := by
  unfold takeSetSchedule
  split <;> rfl

theorem takeSetConfig_writes (r : Request) : Writes (.setConfig r) u.toFixed (takeSetConfig r u).toFixed := by
  unfold takeSetConfig
  split <;> rfl

theorem takeSetClock_writes (r : Request) : Writes (.setClock r) u.toFixed (takeSetClock r u).toFixed := by
  unfold takeSetClock
  simp only
  split <;> rfl

theorem takeOpenReception_writes (r : Request) : Writes (.openReception r) u.toFixed (takeOpenReception r u).toFixed := by
  unfold takeOpenReception
  simp only
  split <;> rfl

theorem takeWindowExpiry_writes : Writes .receptionWindowExpiry u.toFixed (takeWindowExpiry u).toFixed := by
  unfold takeWindowExpiry
  split <;> rfl

theorem takeRestoreCounter_writes (r : Request) :
    Writes (.restoreCounter r) u.toFixed (takeRestoreCounter r u).toFixed := by
  unfold takeRestoreCounter
  split
  · rfl
  · split
    · rfl
    · split
      · rfl
      · split <;> rfl

/-- A CLOSE DAY that is not refused finds COUNTER valid (R137). -/
theorem closeRefusal_none (h : closeRefusal u = none) : ∃ k, u.counter = some k := by
  unfold closeRefusal at h
  split at h
  · cases h
  · next valid => exact Option.isSome_iff_exists.mp (by simpa [Option.isSome_iff_ne_none] using valid)

/-- The day number is the next day, which the tally day mark shows (R139). -/
theorem takeCloseDay_writes (r : Request) : Writes (.closeDay r) u.toFixed (takeCloseDay r u).toFixed := by
  unfold takeCloseDay
  split
  · exact .inl rfl
  · split
    · exact .inl rfl
    · next due =>
      obtain ⟨k, hk⟩ := closeRefusal_none u due
      have dated : u.counter.map (fun k : Counter => { k with day := nextDay u.tallyDay }) =
          some { k with day := nextDay u.tallyDay } := congrArg (Option.map _) hk
      exact .inr ⟨k, hk, Ledger.ext dated rfl rfl rfl rfl rfl rfl⟩

theorem State.restoreEntry_ledger (r : Request) (x : Transfer) (rn : Nat) : (u.restoreEntry r x rn).ledger = u.ledger := by
  unfold State.restoreEntry
  split
  · rfl
  · exact u.dropTransfer_ledger r.link

/-- Of all ends of a transfer the receipt alone writes the counter (R55). -/
theorem State.endTransfer_writes (r : Request) (x : Transfer) :
    Writes (.data r) u.toFixed (u.endTransfer r x).toFixed := by
  have dropped : (u.dropTransfer r.link).ledger = u.ledger := u.dropTransfer_ledger r.link
  unfold State.endTransfer
  split
  · exact .inl dropped
  · split
    · exact .inl (u.restoreEntry_ledger r x _)
    · split
      · next hk => exact .inr ⟨_, hk, rfl⟩
      · exact .inl dropped
      · exact .inl dropped

theorem takeData_writes (r : Request) : Writes (.data r) u.toFixed (takeData r u).toFixed := by
  unfold takeData
  split
  · exact .inl rfl
  · simp only
    split
    · exact .inl rfl
    · split
      · exact .inl (u.dropTransfer_ledger r.link)
      · split
        · exact State.endTransfer_writes (u.setTransfer r.link _) r _
        · exact .inl rfl

end

/-! ### Command by command -/

/-- Every command but RESET writes of the ledger what it may. -/
theorem exec_writes (c : Instr) {s t : State} (notReset : isReset c = false) (ht : exec c s = .next t) :
    Writes c s.toFixed t.toFixed := by
  cases c with
  | reset => cases notReset
  | data r => exact request_writes ht (takeData_writes · r)
  | closeDay r => exact request_writes ht (takeCloseDay_writes · r)
  | restoreCounter r => exact request_writes ht (takeRestoreCounter_writes · r)
  | setSchedule r => exact request_writes ht (takeSetSchedule_writes · r)
  | setConfig r => exact request_writes ht (takeSetConfig_writes · r)
  | setClock r => exact request_writes ht (takeSetClock_writes · r)
  | openReception r => exact request_writes ht (takeOpenReception_writes · r)
  | closeReception r => exact request_writes ht fun _ => rfl
  | clockSecondTick => exact event_writes ht rfl
  | receptionWindowExpiry => exact event_writes ht (takeWindowExpiry_writes s)
  | fetch r => exact request_writes ht (takeFetch_ledger · r)
  | walk r => exact request_writes ht (takeWalk_ledger · r)
  | cancel r => exact request_writes ht (takeCancel_ledger · r)
  | submit r => exact request_writes ht (takeSubmit_ledger · r)
  | abandon r => exact request_writes ht (takeAbandon_ledger · r)
  | resubmit r => exact request_writes ht (takeResubmit_ledger · r)
  | readSchedule r => exact request_writes ht fun _ => rfl
  | readTally r => exact request_writes ht (takeReadTally_ledger · r)
  | readCloseResult r => exact request_writes ht fun _ => rfl
  | hold r => exact request_writes ht fun _ => rfl
  | release r => exact request_writes ht fun _ => rfl
  | moveSlotToDrive r => exact request_writes ht (takeMove_ledger · r)
  | moveDriveToSlot r => exact request_writes ht (takeMove_ledger · r)
  | resumeMechanism r => exact request_writes ht (takeResume_ledger · r)
  | clearFaultDrive r => exact request_writes ht (takeClearFault_ledger · r)
  | clearFaultPicker r => exact request_writes ht (takeClearFault_ledger · r)
  | importCartridge r => exact request_writes ht (takeImport_ledger · r)
  | exportVolume r => exact request_writes ht (takeExport_ledger · r)
  | inventory r => exact request_writes ht (takeInventory_ledger · r)
  | withdraw r => exact request_writes ht (takeWithdraw_ledger · r)
  | panelAck r => exact request_writes ht fun _ => rfl
  | restart r => exact request_writes ht (takeRestart_ledger · r)
  | status r => exact request_writes ht fun _ => rfl
  | readStartRecord r => exact request_writes ht fun _ => rfl
  | setNoticeMask r => exact request_writes ht (takeSetNoticeMask_ledger · r)
  | unknownKindFrame kind r => exact event_writes (f := fun s => (s.validFrame r.link).refuse r .format) ht rfl
  | frameDiscarded l why => exact event_writes ht rfl
  | frameSent l => exact event_writes ht rfl
  | rawInputChange i active => exact event_writes ht rfl
  | debouncedEdge i => exact event_writes ht (takeEdge_ledger s i)
  | silentEvent l => exact event_writes ht (takeSilent_ledger s l)
  | idleTimerExpiry d => exact event_writes (f := (·.onCore (·.idleExpiry d))) ht rfl
  | driveOperationTimeout d => exact event_writes ht (takeOperationTimeout_ledger s d)
  | pickerStall => exact event_writes ht (takeStall_ledger s)
  | pickerMoveDone => exact event_writes ht (takeMoveDone_ledger s)
  | pickerMoveFailed => exact event_writes ht (takeMoveFailed_ledger s)
  | lateMoveDone => exact event_writes (f := (·.onCore Core.recordLate)) ht rfl
  | inventoryProbeDone x => exact event_writes ht (takeProbeDone_ledger s x)
  | recoveryRehomeDone x => exact event_writes (f := (·.act (rehomed x))) ht rfl
  | recoveryReturnDone => exact event_writes (f := (·.act returned)) ht rfl
  | startRecoveryRehomeDone x => exact event_writes (f := (·.act (rehomed x))) ht rfl
  | startRecoveryDestinationProbeDone x => exact event_writes (f := (·.act (destinationProbed x))) ht rfl
  | lateDriveCompletion d => exact event_writes ht rfl
  -- The completions of drive operations.
  | _ => exact event_writes ht (completion_ledger s _ _)

end Sys2Proof.Machine

open Sys2Proof Sys2Proof.Machine

/-- Settles O16, command by command: a writer changes its own value of the ledger, and no other command changes one. -/
theorem eachValueHasItsWriters : Obligations.EachValueHasItsWriters := by
  intro c s t ht notReset
  cases c with
  | reset => exact absurd rfl (notReset _ _ _ _)
  | data r =>
    rcases exec_writes (.data r) rfl ht with same | ⟨k, hk, given⟩
    · obtain ⟨counter, schedule, settings, clock, window, close, start⟩ := Ledger.mk.inj same
      exact ⟨.inl counter, .inl schedule, .inl settings, .inl clock, .inl window, .inl close, start⟩
    · obtain ⟨counter, schedule, settings, clock, window, close, start⟩ := Ledger.mk.inj given
      exact ⟨.inr (.inl ⟨r, k, rfl, hk, counter⟩), .inl schedule, .inl settings, .inl clock, .inl window, .inl close, start⟩
  | closeDay r =>
    rcases exec_writes (.closeDay r) rfl ht with same | ⟨k, hk, closed⟩
    · obtain ⟨counter, schedule, settings, clock, window, close, start⟩ := Ledger.mk.inj same
      exact ⟨.inl counter, .inl schedule, .inl settings, .inl clock, .inl window, .inl close, start⟩
    · obtain ⟨counter, schedule, settings, clock, window, -, start⟩ := Ledger.mk.inj closed
      exact ⟨.inr (.inr (.inl ⟨r, k, rfl, hk, counter⟩)), .inl schedule, .inl settings, .inl clock, .inl window,
        .inr ⟨r, rfl⟩, start⟩
  | restoreCounter r =>
    obtain ⟨-, schedule, settings, clock, window, close, start⟩ := Ledger.mk.inj (exec_writes (.restoreCounter r) rfl ht)
    exact ⟨.inr (.inr (.inr ⟨r, rfl⟩)), .inl schedule, .inl settings, .inl clock, .inl window, .inl close, start⟩
  | setSchedule r =>
    obtain ⟨counter, -, settings, clock, window, close, start⟩ := Ledger.mk.inj (exec_writes (.setSchedule r) rfl ht)
    exact ⟨.inl counter, .inr ⟨r, rfl⟩, .inl settings, .inl clock, .inl window, .inl close, start⟩
  | setConfig r =>
    obtain ⟨counter, schedule, -, clock, window, close, start⟩ := Ledger.mk.inj (exec_writes (.setConfig r) rfl ht)
    exact ⟨.inl counter, .inl schedule, .inr ⟨r, rfl⟩, .inl clock, .inl window, .inl close, start⟩
  | setClock r =>
    obtain ⟨counter, schedule, settings, -, window, close, start⟩ := Ledger.mk.inj (exec_writes (.setClock r) rfl ht)
    exact ⟨.inl counter, .inl schedule, .inl settings, .inr (.inl ⟨r, rfl⟩), .inl window, .inl close, start⟩
  | clockSecondTick =>
    obtain ⟨counter, schedule, settings, -, -, close, start⟩ := Ledger.mk.inj (exec_writes .clockSecondTick rfl ht)
    exact ⟨.inl counter, .inl schedule, .inl settings, .inr (.inr rfl), .inr (.inr (.inr (.inl rfl))), .inl close, start⟩
  | openReception r =>
    obtain ⟨counter, schedule, settings, clock, -, close, start⟩ := Ledger.mk.inj (exec_writes (.openReception r) rfl ht)
    exact ⟨.inl counter, .inl schedule, .inl settings, .inl clock, .inr (.inl ⟨r, rfl⟩), .inl close, start⟩
  | closeReception r =>
    obtain ⟨counter, schedule, settings, clock, -, close, start⟩ := Ledger.mk.inj (exec_writes (.closeReception r) rfl ht)
    exact ⟨.inl counter, .inl schedule, .inl settings, .inl clock, .inr (.inr (.inl ⟨r, rfl⟩)), .inl close, start⟩
  | receptionWindowExpiry =>
    obtain ⟨counter, schedule, settings, clock, -, close, start⟩ := Ledger.mk.inj (exec_writes .receptionWindowExpiry rfl ht)
    exact ⟨.inl counter, .inl schedule, .inl settings, .inl clock, .inr (.inr (.inr (.inr rfl))), .inl close, start⟩
  -- A command that is no writer.
  | _ =>
    obtain ⟨counter, schedule, settings, clock, window, close, start⟩ := Ledger.mk.inj (exec_writes _ rfl ht)
    exact ⟨.inl counter, .inl schedule, .inl settings, .inl clock, .inl window, .inl close, start⟩
end

section
/-! SUPPORT. The requests of a FILING link, and WITHDRAW, in the terms of Sys2Proof/Safety.lean: what an answered request leads to,
the refusals of SUBMIT and RESUBMIT by their checks, the ways of a DATA frame, and the ends of a transfer (R51 to R55, R71, R73,
R74). -/

namespace Sys2Proof.Machine

/-! ### Requests answered with one frame (R176 to R178) -/

section
variable (k : RequestKind) {role : Role} {r : Request} {own : State → State} {s : State}

/-- A request whose owner makes `u` of the state and produces one frame in answer leads to `u` with that frame sent. -/
theorem request_tells (h : From s r.link role) (hp : k.permitted role = true) (hl : k.lengthOk r.body = true) (u : State)
    {f : OutFrame} (ho : own (s.validFrame r.link) = (u.validFrame r.link).onCore (·.emit r.link f)) :
    ∃ t, request k r own s = .next t ∧ Reached t { u with links := linksAfter u r.link [f] } := by
  obtain ⟨hd, rfl⟩ := h
  exact request_reached hd hp hl (ho.trans (validFrame_emit u r.link f))

/-- The same where the work of the blocks follows the answer. -/
theorem request_tells_then (h : From s r.link role) (hp : k.permitted role = true) (hl : k.lengthOk r.body = true) (u : State)
    {f : OutFrame} (ho : own (s.validFrame r.link) = ((u.validFrame r.link).onCore (·.emit r.link f)).settled) :
    ∃ t, request k r own s = .next t ∧ ReachedThen t { u with links := linksAfter u r.link [f] } := by
  obtain ⟨hd, rfl⟩ := h
  exact request_reached hd hp hl (ho.trans (congrArg State.settled (validFrame_emit u r.link f)))

/-- A request that changes the transfers and the staging store, and is answered with one frame. -/
theorem request_transfers (h : From s r.link role) (hp : k.permitted role = true) (hl : k.lengthOk r.body = true)
    {ts : Four (Option Transfer)} {map : List Bool} {f : OutFrame}
    (ho : own (s.validFrame r.link) =
      ({ s with transfers := ts, blockMap := map }.validFrame r.link).onCore (·.emit r.link f)) :
    ∃ t, request k r own s = .next t ∧
      Reached t { s with transfers := ts, blockMap := map, links := linksAfter s r.link [f] } :=
  request_tells k h hp hl { s with transfers := ts, blockMap := map } ho

end

/-! ### The checks of SUBMIT (R52) -/

section
variable {s : State} {l : LinkId} {d : Descriptor} {k : Counter}

theorem submitRefusal_busy (counter : s.counter = some k) (valid : s.pendingValid = true) (opened : s.window ≠ none)
    (busy : s.transfers.get l ≠ none) : submitRefusal s l d = some .busy := by
  simp [submitRefusal, State.transfer, counter, valid, opened, Option.isSome_iff_ne_none.mpr busy]

/-- The checks of a SUBMIT on a link without a transfer, with COUNTER and PENDING valid and the window OPEN (R52). -/
theorem submitRefusal_idle (counter : s.counter = some k) (valid : s.pendingValid = true) (opened : s.window ≠ none)
    (idle : s.transfers.get l = none) :
    submitRefusal s l d =
      if 16 ≤ s.pendingList.length + s.submissions ∨ freeCount s.blockMap < blocksOf d.size ∨
          4294967294 < k.nextRn + s.submissions then some .full
      else match d.prior with
        | some p => if p < k.nextRn then none else some .badLink
        | none => none := by
  unfold submitRefusal State.transfer
  simp only [counter, valid, opened, idle, Bool.not_true, Bool.false_eq_true, if_false]
  rfl

theorem submitRefusal_lost (lost : s.counter = none ∨ s.pendingValid = false) : submitRefusal s l d = some .storeLost := by
  unfold submitRefusal
  rcases lost with lost | lost
  · rw [lost]
  · split
    · rfl
    · simp [lost]

theorem submitRefusal_closed (counter : s.counter = some k) (valid : s.pendingValid = true) (closed : s.window = none) :
    submitRefusal s l d = some .closed := by
  simp [submitRefusal, counter, valid, closed]

end

/-! ### The checks of RESUBMIT (R73) -/

section
variable {s : State} {l : LinkId} {f : ResubmitFields} {p : PendingEntry}

theorem resubmitRefusal_busy (busy : s.transfers.get l ≠ none) : resubmitRefusal s l f = some .busy := by
  simp [resubmitRefusal, State.transfer, Option.isSome_iff_ne_none.mpr busy]

theorem resubmitRefusal_unknown (idle : s.transfers.get l = none) (unknown : ∀ p ∈ s.pendingList, p.rn ≠ f.rn) :
    resubmitRefusal s l f = some .unknownRn := by
  have missing : s.pendingList.find? (fun p => p.rn == f.rn) = none := by simpa using unknown
  simp [resubmitRefusal, State.transfer, idle, missing]

/-- The checks of a RESUBMIT on a link without a transfer, of a number that an entry has (R73). -/
theorem resubmitRefusal_found (idle : s.transfers.get l = none)
    (found : s.pendingList.find? (fun p => p.rn == f.rn) = some p) :
    resubmitRefusal s l f =
      if ¬(p.state = .awaitingResubmit ∧ s.resubmitting f.rn = false) then some .mediaBusy
      else if ¬(f.size = p.desc.size ∧ f.crc = p.desc.crc) then some .badImage
      else if freeCount s.blockMap < blocksOf f.size then some .full
      else none := by
  simp only [resubmitRefusal, State.transfer, idle, found, Option.isSome_none, Bool.false_eq_true, if_false,
    Decidable.not_and_iff_not_or_not, Bool.not_eq_false, ne_eq]

end

/-! ### Transfers (R52, R54) -/

section
variable {s : State} {r : Request} {x : Transfer}

/-- A valid frame leaves the transfers and the staging store. -/
theorem validFrame_setTransfer (s : State) (l : LinkId) (x : Option Transfer) (map : List Bool) :
    { s.validFrame l with blockMap := map }.setTransfer l x =
      { s with transfers := s.transfers.set l x, blockMap := map }.validFrame l := rfl

/-- A transfer that begins has its blocks reserved, and ACCEPTED goes (R52, R73). -/
theorem validFrame_beginTransfer (s : State) (r : Request) (kind : TransferKind) (size : Nat) (crc : Word) :
    (s.validFrame r.link).beginTransfer r kind size crc =
      ({ s with
          transfers := s.transfers.set r.link (some
            { tag := r.tag, kind, size, crc, expected := sectorsOf size, nextSeq := 0,
              blocks := pickBlocks s.blockMap (blocksOf size), image := [] })
          blockMap := reserve s.blockMap (pickBlocks s.blockMap (blocksOf size)) }.validFrame r.link).accept r
        (.frames (sectorsOf size)) :=
  congrArg (·.accept r (.frames (sectorsOf size))) (validFrame_setTransfer s r.link _ _)

theorem takeSubmit_begins {d : Descriptor} (fields : Descriptor.parse r.body = some d)
    (passes : submitRefusal s r.link d = none) : takeSubmit r s = s.beginTransfer r (.submission d) d.size d.crc := by
  unfold takeSubmit
  simp only [fields, passes]

theorem takeSubmit_refused {d : Descriptor} {code : RefusalCode} (fields : Descriptor.parse r.body = some d)
    (fails : submitRefusal s r.link d = some code) : takeSubmit r s = s.refuse r code := by
  unfold takeSubmit
  simp only [fields, fails]

theorem takeResubmit_begins {f : ResubmitFields} (fields : ResubmitFields.parse r.body = some f)
    (passes : resubmitRefusal s r.link f = none) :
    takeResubmit r s = s.beginTransfer r (.resubmission f.rn) f.size f.crc := by
  unfold takeResubmit
  simp only [fields, passes]

theorem takeResubmit_refused {f : ResubmitFields} {code : RefusalCode} (fields : ResubmitFields.parse r.body = some f)
    (fails : resubmitRefusal s r.link f = some code) : takeResubmit r s = s.refuse r code := by
  unfold takeResubmit
  simp only [fields, fails]

/-- The state without the transfer of a link, whose blocks `bs` are returned (R54). -/
def State.abandoned (s : State) (l : LinkId) (bs : List Nat) : State :=
  { s with transfers := s.transfers.set l none, blockMap := freeBlocks s.blockMap bs }

theorem State.dropTransfer_eq {l : LinkId} (h : s.transfers.get l = some x) : s.dropTransfer l = s.abandoned l x.blocks := by
  unfold State.dropTransfer State.transfer
  rw [h]
  rfl

/-- A transfer that has stored its frames ends without a receipt as one that has not. -/
theorem State.dropTransfer_stored (s : State) (l : LinkId) (x : Transfer) :
    (s.setTransfer l (some x)).dropTransfer l = s.abandoned l x.blocks := by
  rw [State.dropTransfer_eq (Four.get_set_same _ _ _)]
  simp only [State.abandoned, State.setTransfer, Four.set_set]

/-! ### DATA (R53, R55, R74) -/

/-- The body of a DATA frame is of a permitted length (R53). -/
theorem data_lengthOk {body : List Byte} (low : 3 ≤ body.length) (high : body.length ≤ 1026) :
    RequestKind.data.lengthOk body = true := by
  simp [RequestKind.lengthOk, low, high]

theorem takeData_noTransfer (h : ∀ x, s.transfers.get r.link = some x → x.tag ≠ r.tag) :
    takeData r s = s.refuse r .noTransfer := by
  unfold takeData State.transfer
  split
  · rfl
  · next x hx => exact if_pos (h x hx).symm

/-- A DATA frame has the number and the length that its transfer waits for (R53). -/
def Transfer.Awaits (x : Transfer) (body : List Byte) : Prop :=
  fieldNat body 0 2 = x.nextSeq ∧ (body.drop 2).length = frameLength x (fieldNat body 0 2)

/-- The length of a frame is that of its body but for the sequence number (R53). -/
theorem Transfer.awaits_iff {body : List Byte} (low : 3 ≤ body.length) :
    x.Awaits body ↔ fieldNat body 0 2 = x.nextSeq ∧ body.length = frameLength x (fieldNat body 0 2) + 2 := by
  unfold Transfer.Awaits
  rw [List.length_drop]
  omega

/-- The transfer with a frame stored (R53). -/
def Transfer.stored (x : Transfer) (body : List Byte) : Transfer :=
  { x with nextSeq := x.nextSeq + 1, image := x.image ++ body.drop 2 }

theorem takeData_wrong (h : s.transfers.get r.link = some x) (tag : x.tag = r.tag) (wrong : ¬x.Awaits r.body) :
    takeData r s = (s.abandoned r.link x.blocks).refuse r .format := by
  unfold takeData State.transfer
  rw [h, ← State.dropTransfer_eq h]
  exact (if_neg (not_not.mpr tag.symm)).trans (if_pos (Decidable.not_and_iff_not_or_not.mp wrong))

/-- A good DATA frame is stored; the last one ends the transfer (R53). -/
theorem takeData_good (h : s.transfers.get r.link = some x) (tag : x.tag = r.tag) (good : x.Awaits r.body) :
    takeData r s =
      if fieldNat r.body 0 2 + 1 = x.expected then
        (s.setTransfer r.link (some (x.stored r.body))).endTransfer r (x.stored r.body)
      else (s.setTransfer r.link (some (x.stored r.body))).accept r (.sequence (fieldNat r.body 0 2)) := by
  unfold takeData State.transfer
  rw [h]
  obtain ⟨number, length⟩ := good
  refine (if_neg (not_not.mpr tag.symm)).trans (if_neg ?_)
  rintro (wrong | wrong)
  · exact wrong number
  · exact wrong length

/-- The last good frame ends its transfer (R53). -/
theorem takeData_last (low : 3 ≤ r.body.length) (h : s.transfers.get r.link = some x) (tag : x.tag = r.tag)
    (number : fieldNat r.body 0 2 = x.nextSeq) (last : x.nextSeq + 1 = x.expected)
    (length : r.body.length = x.size - 1024 * x.nextSeq + 2) :
    takeData r s = (s.setTransfer r.link (some (x.stored r.body))).endTransfer r (x.stored r.body) := by
  have awaits : x.Awaits r.body := by
    rw [Transfer.awaits_iff low, number, frameLength, if_pos last]
    exact ⟨rfl, length⟩
  rw [takeData_good h tag awaits, if_pos (number ▸ last)]

/-! ### ABANDON (R54) -/

theorem takeAbandon_begun (h : s.transfers.get r.link = some x) :
    takeAbandon r s = (s.abandoned r.link x.blocks).answer r .empty := by
  unfold takeAbandon State.transfer
  rw [h, State.dropTransfer_eq h]
  rfl

theorem takeAbandon_idle (h : s.transfers.get r.link = none) : takeAbandon r s = s.refuse r .noTransfer := by
  unfold takeAbandon State.transfer
  rw [h]
  rfl

/-! ### The ends of a transfer whose frames are stored (R55, R74) -/

theorem State.endTransfer_badImage (s : State) (r : Request) (bad : crc32 x.image ≠ x.crc) :
    (s.setTransfer r.link (some x)).endTransfer r x = (s.abandoned r.link x.blocks).refuse r .badImage := by
  unfold State.endTransfer
  rw [if_pos bad, State.dropTransfer_stored]

/-- The entry of a submission received under the counter `k` (R55). -/
def State.receivedEntry (s : State) (l : LinkId) (x : Transfer) (d : Descriptor) (k : Counter) : PendingEntry :=
  { rn := k.nextRn, link := l, desc := d, day := k.day, time := s.clock, state := .staged, blocks := some x.blocks,
    image := x.image }

/-- The receipt event: an image that passes while the window is OPEN (R55). -/
theorem State.endTransfer_receipt {d : Descriptor} {k : Counter} (good : crc32 x.image = x.crc)
    (kind : x.kind = .submission d) (opened : s.window ≠ none) (counter : s.counter = some k) :
    (s.setTransfer r.link (some x)).endTransfer r x =
      ({ s with
          counter := some { k with nextRn := k.nextRn + 1 }
          pendingList := s.pendingList ++ [s.receivedEntry r.link x d k]
          engine := s.engine.reached
          transfers := s.transfers.set r.link none }.answer r (.receipt k.nextRn k.day s.clock)).settled := by
  obtain ⟨n, window⟩ := Option.ne_none_iff_exists'.mp opened
  unfold State.endTransfer
  simp only [good, kind, ne_eq, not_true, if_false, State.setTransfer, window, counter, State.receive, State.receivedEntry,
    Four.set_set]

theorem State.endTransfer_closed {d : Descriptor} (good : crc32 x.image = x.crc) (kind : x.kind = .submission d)
    (closed : s.window = none) :
    (s.setTransfer r.link (some x)).endTransfer r x = (s.abandoned r.link x.blocks).refuse r .closed := by
  rw [← State.dropTransfer_stored]
  unfold State.endTransfer
  simp only [good, kind, ne_eq, not_true, if_false, State.setTransfer, closed]

theorem State.endTransfer_resubmission {rn : Nat} (s : State) (r : Request) (good : crc32 x.image = x.crc)
    (kind : x.kind = .resubmission rn) :
    (s.setTransfer r.link (some x)).endTransfer r x =
      ((s.setTransfer r.link (some x)).restoreEntry r x rn).settled := by
  unfold State.endTransfer
  simp only [good, kind, ne_eq, not_true, if_false]

/-- The first entry of a number that awaits it is the first entry of the number, where that one awaits it. -/
theorem find_awaiting {ps : List PendingEntry} {rn : Nat} {p : PendingEntry}
    (found : ps.find? (fun p => p.rn == rn) = some p) (awaits : p.state = .awaitingResubmit) :
    ps.find? (fun p => p.rn == rn && p.state == .awaitingResubmit) = some p := by
  obtain ⟨number, pre, post, rfl, before⟩ := List.find?_eq_some_iff_append.mp found
  refine List.find?_eq_some_iff_append.mpr ⟨by simp [number, awaits], pre, post, rfl, fun q hq => ?_⟩
  have other := before q hq
  simp only [Bool.not_eq_true'] at other
  simp [other]

/-- The entry that awaits its resubmission takes the image (R74). -/
theorem State.restoreEntry_found {rn : Nat} {p : PendingEntry} (found : s.pendingList.find? (fun p => p.rn == rn) = some p)
    (awaits : p.state = .awaitingResubmit) :
    (s.setTransfer r.link (some x)).restoreEntry r x rn =
      { s with
        pendingList := s.pendingList.map (restored r.link x rn)
        engine := s.engine.reached
        transfers := s.transfers.set r.link none }.answer r (.receipt p.rn p.day p.time) := by
  unfold State.restoreEntry
  simp only [State.setTransfer, find_awaiting found awaits, Four.set_set]

theorem State.restoreEntry_gone {rn : Nat} (gone : ∀ p ∈ s.pendingList, p.rn = rn → p.state ≠ .awaitingResubmit) :
    (s.setTransfer r.link (some x)).restoreEntry r x rn = (s.abandoned r.link x.blocks).refuse r .badImage := by
  have missing : s.pendingList.find? (fun p => p.rn == rn && p.state == .awaitingResubmit) = none := by simpa using gone
  rw [← State.dropTransfer_stored]
  unfold State.restoreEntry
  simp only [State.setTransfer, missing]

/-! ### WITHDRAW (R71) -/

/-- The entry of a WITHDRAW may be given up: it is STAGED, or awaits a resubmission with none in transfer (R71). -/
def State.Withdrawable (s : State) (p : PendingEntry) : Prop :=
  p.state = .staged ∨ p.state = .awaitingResubmit ∧ s.resubmitting p.rn = false

theorem takeWithdraw_free {p : PendingEntry} (found : s.pendingList.find? (fun p => p.rn == fieldNat r.body 0 4) = some p)
    (free : s.Withdrawable p) : takeWithdraw r s = s.act (withdrawRequest r p) := by
  unfold takeWithdraw
  rw [found]
  rcases free with staged | ⟨awaits, none⟩
  · simp only [staged]
  · simp only [awaits, none, Bool.false_eq_true, if_false]

theorem takeWithdraw_busy {p : PendingEntry} (found : s.pendingList.find? (fun p => p.rn == fieldNat r.body 0 4) = some p)
    (busy : ¬s.Withdrawable p) : takeWithdraw r s = s.refuse r .mediaBusy := by
  unfold takeWithdraw
  rw [found]
  simp only
  split
  · next staged => exact absurd (.inl staged) busy
  · next awaits =>
    refine if_pos ?_
    by_contra none
    exact busy (.inr ⟨awaits, by simpa using none⟩)
  · rfl

theorem takeWithdraw_unknown (unknown : ∀ p ∈ s.pendingList, p.rn ≠ fieldNat r.body 0 4) :
    takeWithdraw r s = s.refuse r .unknownRn := by
  have missing : s.pendingList.find? (fun p => p.rn == fieldNat r.body 0 4) = none := by simpa using unknown
  unfold takeWithdraw
  rw [missing]

end

end Sys2Proof.Machine

open Sys2Proof Sys2Proof.Machine

/-- Settles O23, each request by whether its field lies in its range. -/
theorem receptionAndClockAreSet : Obligations.ReceptionAndClockAreSet := by
  constructor
  · intro r s h n
    refine ⟨fun hl low high => ?_, fun hl out => ?_, fun hl => ?_⟩
    · have within : inRange 1 n 720 = true := Bool.and_eq_true_iff.mpr ⟨decide_eq_true low, decide_eq_true high⟩
      exact request_tells .openReception (own := takeOpenReception r) h rfl (beq_iff_eq.mpr hl)
        { s with window := some (n * 60) } (if_pos within)
    · have without : ¬inRange 1 n 720 = true := by
        simp only [inRange, Bool.and_eq_true, decide_eq_true_eq]
        omega
      exact request_tells .openReception (own := takeOpenReception r) h rfl (beq_iff_eq.mpr hl) s (if_neg without)
    · exact request_tells .closeReception (own := takeCloseReception r) h rfl (by rw [hl]; rfl) { s with window := none } rfl
  · intro r s h hl n
    have leads := request_tells .setClock (own := takeSetClock r) h rfl (beq_iff_eq.mpr hl)
    exact ⟨fun low => leads { s with clock := some n } (if_pos low), fun high => leads s (if_neg (Nat.not_le.mpr high))⟩

/-- Settles O28, by the checks of R52 in their order. -/
theorem submitBeginsATransferOrIsRefused : Obligations.SubmitBeginsATransferOrIsRefused := by
  constructor
  · intro r d k s h hl hd counter valid opened idle entries free numbers prior blocks t
    have passes : submitRefusal s r.link d = none := by
      rw [submitRefusal_idle counter valid opened idle, if_neg (by omega)]
      cases hp : d.prior with
      | none => rfl
      | some p => exact if_pos (prior p hp)
    exact request_transfers .submit h rfl (beq_iff_eq.mpr hl)
      ((takeSubmit_begins (s := s.validFrame r.link) hd passes).trans (validFrame_beginTransfer ..))
  · intro r d s h hl hd refused
    have refuse {code : RefusalCode} (fails : submitRefusal s r.link d = some code) : refused code :=
      request_tells .submit h rfl (beq_iff_eq.mpr hl) s (takeSubmit_refused (s := s.validFrame r.link) hd fails)
    refine ⟨fun lost => refuse (submitRefusal_lost lost), fun k counter valid => ⟨fun closed => ?_, fun opened => ?_⟩⟩
    · exact refuse (submitRefusal_closed counter valid closed)
    · refine ⟨fun busy => refuse (submitRefusal_busy counter valid opened busy), fun idle => ?_⟩
      have checks := submitRefusal_idle (d := d) counter valid opened idle
      refine ⟨fun full => refuse ?_, fun room p prior unknown => refuse ?_⟩
      · rw [checks, if_pos full]
      · rw [checks, if_neg room, prior]
        exact if_neg (Nat.not_lt.mpr unknown)

/-- Settles O29, by the frame that the link's transfer waits for. -/
theorem dataFramesAreStoredInOrderUntilAbandoned : Obligations.DataFramesAreStoredInOrderUntilAbandoned := by
  constructor
  · intro r s h low high seq
    have leads := request_tells .data (own := takeData r) h rfl (data_lengthOk low high)
    constructor
    · intro t ht tag length good
      have awaits : good ↔ t.Awaits r.body := (Transfer.awaits_iff low).symm
      refine ⟨fun fits more => ?_, fun wrong => ?_⟩
      · have number : seq = t.nextSeq := fits.1
        have frame : { t with nextSeq := seq + 1, image := t.image ++ r.body.drop 2 } = t.stored r.body := by
          rw [number]
          rfl
        rw [frame]
        exact leads { s with transfers := s.transfers.set r.link (some (t.stored r.body)) }
          ((takeData_good (s := s.validFrame r.link) ht tag (awaits.mp fits)).trans (if_neg more))
      · exact leads (s.abandoned r.link t.blocks)
          (takeData_wrong (s := s.validFrame r.link) ht tag (wrong ∘ awaits.mpr))
    · exact fun idle => leads s (takeData_noTransfer (s := s.validFrame r.link) idle)
  · intro r s h hl
    have leads := request_tells .abandon (own := takeAbandon r) h rfl (by rw [hl]; rfl)
    exact ⟨fun t ht => leads (s.abandoned r.link t.blocks) (takeAbandon_begun (s := s.validFrame r.link) ht),
      fun idle => leads s (takeAbandon_idle (s := s.validFrame r.link) idle)⟩

/-- Settles O30, by the check of the image and the window at the last frame. -/
theorem lastDataFrameGivesTheReceipt : Obligations.LastDataFrameGivesTheReceipt := by
  intro r t d k s h low high ht tag kind seq last length counter image entry dropped
  have hl := data_lengthOk low high
  have ends := takeData_last (s := s.validFrame r.link) low ht tag seq last length
  refine ⟨fun good opened => ?_, fun good closed => ?_, fun bad => ?_⟩
  · refine request_tells_then .data (own := takeData r) h rfl hl
      { s with
        counter := some { k with nextRn := k.nextRn + 1 }
        pendingList := s.pendingList ++ [entry]
        engine := s.engine.reached
        transfers := s.transfers.set r.link none } ?_
    exact ends.trans (State.endTransfer_receipt (s := s.validFrame r.link) good kind opened counter)
  · exact request_tells .data (own := takeData r) h rfl hl (s.abandoned r.link t.blocks)
      (ends.trans (State.endTransfer_closed (s := s.validFrame r.link) good kind closed))
  · exact request_tells .data (own := takeData r) h rfl hl (s.abandoned r.link t.blocks)
      (ends.trans ((s.validFrame r.link).endTransfer_badImage r bad))

/-- Settles O31: the checks of R73 in their order, the end of a resubmission, and the state of the entry at a WITHDRAW. -/
theorem resubmitAndWithdrawSettleAnEntry : Obligations.ResubmitAndWithdrawSettleAnEntry := by
  constructor
  · intro r s h
    refine ⟨?_, ?_, ?_⟩
    · intro f p hl hf idle found awaits quiet size crc free blocks t
      have passes : resubmitRefusal s r.link f = none := by
        rw [resubmitRefusal_found idle found, if_neg (by simp [awaits, quiet]), if_neg (by simp [size, crc]),
          if_neg (Nat.not_lt.mpr free)]
      exact request_transfers .resubmit h rfl (beq_iff_eq.mpr hl)
        ((takeResubmit_begins (s := s.validFrame r.link) hf passes).trans (validFrame_beginTransfer ..))
    · intro f hl hf refused
      have refuse {code : RefusalCode} (fails : resubmitRefusal s r.link f = some code) : refused code :=
        request_tells .resubmit h rfl (beq_iff_eq.mpr hl) s (takeResubmit_refused (s := s.validFrame r.link) hf fails)
      refine ⟨fun busy => refuse (resubmitRefusal_busy busy), fun idle =>
        ⟨fun unknown => refuse (resubmitRefusal_unknown idle unknown), ?_⟩⟩
      intro p found awaits same
      have checks := resubmitRefusal_found idle found
      refine ⟨fun other => refuse ?_, fun waits differs => refuse ?_, fun waits agrees full => refuse ?_⟩
      · rw [checks, if_pos other]
      · rw [checks, if_neg (not_not.mpr waits), if_pos differs]
      · rw [checks, if_neg (not_not.mpr waits), if_neg (not_not.mpr agrees), if_pos full]
    · intro t rn low high ht tag kind seq last length good image renew
      have leads := request_tells_then .data (own := takeData r) h rfl (data_lengthOk low high)
      have restores := (takeData_last (s := s.validFrame r.link) low ht tag seq last length).trans
        ((s.validFrame r.link).endTransfer_resubmission r good kind)
      refine ⟨fun p found awaits => ?_, fun gone => ?_⟩
      · refine leads
          { s with
            pendingList := s.pendingList.map renew
            engine := s.engine.reached
            transfers := s.transfers.set r.link none } ?_
        exact restores.trans (congrArg State.settled (State.restoreEntry_found (s := s.validFrame r.link) found awaits))
      · exact leads (s.abandoned r.link t.blocks)
          (restores.trans (congrArg State.settled (State.restoreEntry_gone (s := s.validFrame r.link) gone)))
  · intro r s h hl rn refused
    have refuse {code : RefusalCode} (fails : takeWithdraw r (s.validFrame r.link) = (s.validFrame r.link).refuse r code) :
        refused code := request_tells .withdraw h rfl (beq_iff_eq.mpr hl) s fails
    constructor
    · intro p found free withdraw
      have number : p.rn = rn := by simpa using List.find?_some found
      have may : free ↔ s.Withdrawable p := by rw [State.Withdrawable, number]
      refine ⟨fun given => ?_, fun kept => refuse (takeWithdraw_busy found (kept ∘ may.mpr))⟩
      have entries : withdraw = withdrawn p.rn := by rw [number]; rfl
      rw [entries]
      exact request_tells_then .withdraw (own := takeWithdraw r) h rfl (beq_iff_eq.mpr hl)
        { s with
          pendingList := s.pendingList.map (withdrawn p.rn)
          engine := s.engine.reached
          blockMap := freeBlocks s.blockMap (p.blocks.getD []) }
        (takeWithdraw_free (s := s.validFrame r.link) found (may.mp given))
    · exact fun unknown => refuse (takeWithdraw_unknown unknown)
end

section
/-! SUPPORT. The order of the work queue and of the claims, as a predicate of the core alone: the queue in its bounds (R80), the
claims with the service orders (R27, R28), those who wait for a side (R30) and the numbers of the mount operations. `State.inOrder_iff`
ties it to `State.queueBounded` and `State.claimsKept` (Sys2Proof/Safety.lean). -/

namespace Sys2Proof.Machine

/-- The job for which an operation reads (R24). -/
def OpUser.jobOf : OpUser → Option JobId
  | .jobDirectory id | .jobChunk id => some id
  | _ => none

/-- The job for which a READ is in flight on a drive (R24, R89). -/
def Drive.reader (x : Drive) : Option JobId := x.op.bind (·.user.jobOf)

/-- A job of a queue holds its claim on a drive (R88). -/
def HoldsClaim (q : List Job) (id : JobId) (d : DriveId) : Prop := ∃ j ∈ q, j.id = id ∧ j.drive = some d

/-- A job of a queue has its side and no claim on a drive, as one that waits for its side (R30, R85). -/
def Unclaimed (q : List Job) (id : JobId) : Prop := ∃ j ∈ q, j.id = id ∧ j.drive = none ∧ j.side ≠ none

/-- A job with a claim has a side and a state that goes with one. -/
def Job.Fits (j : Job) : Prop :=
  j.drive ≠ none → j.side ≠ none ∧ (j.state = .waitDrive ∨ j.state = .readingDirectory ∨ j.state = .sending)

/-- A queue is in its bounds, `n` being the next acceptance number (R80). -/
def QueueInBounds (q : List Job) (n : Nat) : Prop :=
  q.length ≤ 24 ∧ (∀ l : LinkId, (q.filter (fun j => j.id.link == l)).length ≤ 8) ∧ (q.map (·.id)).Nodup ∧
    q.Pairwise (fun a b => a.acceptNo < b.acceptNo) ∧ ∀ j ∈ q, j.acceptNo < n

/-- The record of drive `d` is in keeping with the claims of the queue's jobs and with the engine's (R27, R28). -/
def Drive.InOrder (q : List Job) (claim : Option DriveId) (d : DriveId) (x : Drive) : Prop :=
  x.service.Nodup ∧ (∀ id, id ∈ x.service ↔ HoldsClaim q id d) ∧
    x.claims = x.service.length + (if claim = some d then 1 else 0) ∧ ∀ id, x.reader = some id → HoldsClaim q id d

/-- Whoever waits for a side waits once and holds no claim (R30). -/
def WaitersInOrder (q : List Job) (claim : Option DriveId) (rs : List Requester) : Prop :=
  rs.Nodup ∧ (∀ id, .job id ∈ rs → Unclaimed q id) ∧ (.engine ∈ rs → claim = none)

/-- No two mount operations have one arrival number, and all lie below the next one, `n`. -/
def MountsInOrder (ms : List MountOp) (n : Nat) : Prop := (ms.map (·.arrival)).Nodup ∧ ∀ m ∈ ms, m.arrival < n

/-- The queue and the claims of a core are in order. -/
def Core.InOrder (c : Core) : Prop :=
  QueueInBounds c.queue c.nextAccept ∧ (∀ d, (c.drives.get d).InOrder c.queue c.engine.claim d) ∧ (∀ j ∈ c.queue, j.Fits) ∧
    WaitersInOrder c.queue c.engine.claim c.requesters ∧ MountsInOrder c.mounts c.nextArrival

/-! ### The tie to the state -/

theorem OpUser.jobOf_eq_some {u : OpUser} {id : JobId} : u.jobOf = some id ↔ u = .jobDirectory id ∨ u = .jobChunk id := by
  cases u <;> simp [OpUser.jobOf]

theorem Drive.reader_eq_some {x : Drive} {id : JobId} :
    x.reader = some id ↔ ∃ o, x.op = some o ∧ (o.user = .jobDirectory id ∨ o.user = .jobChunk id) := by
  simp [Drive.reader, Option.bind_eq_some_iff, OpUser.jobOf_eq_some]

/-- A state keeps the bounds of its queue and its claims exactly where its core is in order. -/
theorem State.inOrder_iff (s : State) : s.toCore.InOrder ↔ s.queueBounded ∧ s.claimsKept := by
  have drive (d : DriveId) : (s.drives.get d).InOrder s.queue s.engine.claim d ↔
      (let x := s.drives.get d
       x.service.Nodup ∧ (∀ id, id ∈ x.service ↔ s.holdsClaim id d) ∧
       x.claims = x.service.length + (if s.engine.claim = some d then 1 else 0) ∧
       ∀ o id, x.op = some o → o.user = .jobDirectory id ∨ o.user = .jobChunk id → s.holdsClaim id d) := by
    simp only [Drive.InOrder, Drive.reader_eq_some]
    exact and_congr_right fun _ => and_congr_right fun _ => and_congr_right fun _ =>
      ⟨fun h o id ho hu => h id ⟨o, ho, hu⟩, fun h id ⟨o, ho, hu⟩ => h o id ho hu⟩
  constructor
  · rintro ⟨bounds, drives, fits, ⟨once, jobs, engine⟩, mounts, below⟩
    exact ⟨bounds, fun d => (drive d).mp (drives d), fits, once, jobs, engine, mounts, below⟩
  · rintro ⟨bounds, drives, fits, once, jobs, engine, mounts, below⟩
    exact ⟨bounds, fun d => (drive d).mpr (drives d), fits, ⟨once, jobs, engine⟩, mounts, below⟩

/-! ### Queues -/

section
variable {q : List Job} {n : Nat}

/-- The jobs of a queue are known by their ids (R80). -/
theorem QueueInBounds.same (h : QueueInBounds q n) {j k : Job} (hj : j ∈ q) (hk : k ∈ q) (hid : j.id = k.id) : j = k :=
  List.inj_on_of_nodup_map h.2.2.1 hj hk hid

/-- A job holds one claim at most. -/
theorem QueueInBounds.oneClaim (h : QueueInBounds q n) {id : JobId} {d d' : DriveId} (hd : HoldsClaim q id d)
    (hd' : HoldsClaim q id d') : d = d' := by
  obtain ⟨j, hj, rfl, hjd⟩ := hd
  obtain ⟨k, hk, hid, hkd⟩ := hd'
  cases h.same hk hj hid
  exact Option.some.inj (hjd.symm.trans hkd)

/-- A job without a claim holds none. -/
theorem QueueInBounds.unclaimed (h : QueueInBounds q n) {id : JobId} (hu : Unclaimed q id) (d : DriveId) :
    ¬HoldsClaim q id d := by
  rintro ⟨j, hj, rfl, hjd⟩
  obtain ⟨k, hk, hid, hkd, -⟩ := hu
  cases h.same hk hj hid
  simp [hjd] at hkd

/-- A queue whose jobs change, but for their ids and acceptance numbers. -/
theorem QueueInBounds.map (h : QueueInBounds q n) {g : Job → Job} (hg : ∀ j ∈ q, (g j).id = j.id ∧ (g j).acceptNo = j.acceptNo) :
    QueueInBounds (q.map g) n := by
  obtain ⟨len, links, ids, order, below⟩ := h
  refine ⟨by simpa using len, fun l => ?_, ?_, ?_, ?_⟩
  · rw [← List.countP_eq_length_filter, List.countP_map, List.countP_congr (q := fun j : Job => j.id.link == l)]
    · rw [List.countP_eq_length_filter]
      exact links l
    · intro j hj
      simp [(hg j hj).1]
  · have same : (q.map g).map (·.id) = q.map (·.id) := by
      rw [List.map_map]
      exact List.map_congr_left fun j hj => (hg j hj).1
    rw [same]
    exact ids
  · exact List.pairwise_map.mpr (order.imp_of_mem fun ha hb hab => by rw [(hg _ ha).2, (hg _ hb).2]; exact hab)
  · intro k hk
    obtain ⟨j, hj, rfl⟩ := List.mem_map.mp hk
    rw [(hg j hj).2]
    exact below j hj

/-- A queue from which jobs leave. -/
theorem QueueInBounds.sublist (h : QueueInBounds q n) {q' : List Job} (hs : q'.Sublist q) : QueueInBounds q' n := by
  obtain ⟨len, links, ids, order, below⟩ := h
  exact ⟨hs.length_le.trans len, fun l => (hs.filter _).length_le.trans (links l), ids.sublist (hs.map _), order.sublist hs,
    fun j hj => below j (hs.subset hj)⟩

/-- A job of a new id joins a queue that has room for it, with the next acceptance number (R80). -/
theorem QueueInBounds.join (h : QueueInBounds q n) {j : Job} (hn : j.acceptNo = n) (hid : ∀ k ∈ q, k.id ≠ j.id)
    (hq : q.length < 24) (hl : (q.filter (fun k => k.id.link == j.id.link)).length < 8) : QueueInBounds (q ++ [j]) (n + 1) := by
  obtain ⟨len, links, ids, order, below⟩ := h
  refine ⟨by simpa using hq, fun l => ?_, ?_, ?_, ?_⟩
  · rw [List.filter_append, List.length_append]
    by_cases hlink : j.id.link = l
    · subst hlink
      simpa using hl
    · have none_ : (j.id.link == l) = false := by simpa using hlink
      simpa [none_] using links l
  · rw [List.map_append, List.nodup_append]
    refine ⟨ids, List.nodup_singleton _, ?_⟩
    rintro a ha b hb rfl
    obtain ⟨k, hk, rfl⟩ := List.mem_map.mp ha
    exact hid k hk (List.mem_singleton.mp hb)
  · rw [List.pairwise_append]
    refine ⟨order, List.pairwise_singleton _ _, fun a ha b hb => ?_⟩
    rw [List.mem_singleton.mp hb, hn]
    exact below a ha
  · intro k hk
    rcases List.mem_append.mp hk with hk | hk
    · exact Nat.lt_succ_of_lt (below k hk)
    · rw [List.mem_singleton.mp hk, hn]
      exact Nat.lt_succ_self n

end

/-! ### Waiters and mount operations -/

section
variable {q : List Job} {claim : Option DriveId} {rs : List Requester}

/-- Who may ask for a side: the engine without its claim, a job without one (R30). -/
def MayWait (q : List Job) (claim : Option DriveId) : Requester → Prop
  | .engine => claim = none
  | .job id => Unclaimed q id

theorem waitersInOrder_iff : WaitersInOrder q claim rs ↔ rs.Nodup ∧ ∀ r ∈ rs, MayWait q claim r := by
  refine and_congr_right fun _ => ⟨fun ⟨jobs, engine⟩ r hr => ?_, fun h => ⟨fun id => h (.job id), h .engine⟩⟩
  cases r with
  | engine => exact engine hr
  | job id => exact jobs id hr

/-- Some leave, and the order may change. -/
theorem WaitersInOrder.subperm (h : WaitersInOrder q claim rs) {rs' : List Requester} (hs : rs'.Subperm rs) :
    WaitersInOrder q claim rs' := by
  rw [waitersInOrder_iff] at h ⊢
  obtain ⟨once, may⟩ := h
  obtain ⟨l, hp, hl⟩ := hs
  exact ⟨hp.nodup_iff.mp (once.sublist hl), fun r hr => may r (hl.subset (hp.mem_iff.mpr hr))⟩

/-- One that did not wait, and may, comes to wait. -/
theorem WaitersInOrder.cons (h : WaitersInOrder q claim rs) {r : Requester} (hr : r ∉ rs) (hm : MayWait q claim r) :
    WaitersInOrder q claim (r :: rs) := by
  rw [waitersInOrder_iff] at h ⊢
  exact ⟨List.nodup_cons.mpr ⟨hr, h.1⟩, List.forall_mem_cons.mpr ⟨hm, h.2⟩⟩

/-- The claims change, but not for those who wait. -/
theorem WaitersInOrder.congr (h : WaitersInOrder q claim rs) {q' : List Job} {claim' : Option DriveId}
    (hm : ∀ r ∈ rs, MayWait q claim r → MayWait q' claim' r) : WaitersInOrder q' claim' rs := by
  rw [waitersInOrder_iff] at h ⊢
  exact ⟨h.1, fun r hr => hm r hr (h.2 r hr)⟩

end

section
variable {ms : List MountOp} {n : Nat}

/-- Mount operations change, but for their arrival numbers. -/
theorem MountsInOrder.map (h : MountsInOrder ms n) {g : MountOp → MountOp} (hg : ∀ m ∈ ms, (g m).arrival = m.arrival) :
    MountsInOrder (ms.map g) n := by
  obtain ⟨once, below⟩ := h
  constructor
  · have same : (ms.map g).map (·.arrival) = ms.map (·.arrival) := by
      rw [List.map_map]
      exact List.map_congr_left hg
    rw [same]
    exact once
  · intro k hk
    obtain ⟨m, hm, rfl⟩ := List.mem_map.mp hk
    rw [hg m hm]
    exact below m hm

theorem MountsInOrder.sublist (h : MountsInOrder ms n) {ms' : List MountOp} (hs : ms'.Sublist ms) : MountsInOrder ms' n :=
  ⟨h.1.sublist (hs.map _), fun m hm => h.2 m (hs.subset hm)⟩

/-- The next arrival number grows. -/
theorem MountsInOrder.mono (h : MountsInOrder ms n) {k : Nat} (hk : n ≤ k) : MountsInOrder ms k :=
  ⟨h.1, fun m hm => (h.2 m hm).trans_le hk⟩

/-- A mount operation is created with the next arrival number (R30). -/
theorem MountsInOrder.join (h : MountsInOrder ms n) {m : MountOp} (hm : m.arrival = n) : MountsInOrder (ms ++ [m]) (n + 1) := by
  obtain ⟨once, below⟩ := h
  constructor
  · rw [List.map_append, List.nodup_append]
    refine ⟨once, List.nodup_singleton _, ?_⟩
    rintro a ha b hb rfl
    obtain ⟨k, hk, hka⟩ := List.mem_map.mp ha
    exact (below k hk).ne (hka.trans ((List.mem_singleton.mp hb).trans hm))
  · intro k hk
    rcases List.mem_append.mp hk with hk | hk
    · exact Nat.lt_succ_of_lt (below k hk)
    · rw [List.mem_singleton.mp hk, hm]
      exact Nat.lt_succ_self n

/-- The requesters of a mount operation of the list stand in it beside those of the operations of other arrival numbers. -/
theorem requesters_dropMount {m : MountOp} (hm : m ∈ ms) :
    (m.requesters ++ (ms.filter (fun k => k.arrival ≠ m.arrival)).flatMap (·.requesters)).Subperm
      (ms.flatMap (·.requesters)) := by
  have split : ms.Perm (m :: ms.erase m) := List.perm_cons_erase hm
  have rest : (ms.filter (fun k => k.arrival ≠ m.arrival)).Subperm (ms.erase m) := by
    refine ⟨(ms.erase m).filter (fun k => k.arrival ≠ m.arrival), ?_, List.filter_sublist⟩
    have := split.filter (fun k => k.arrival ≠ m.arrival)
    simpa using this.symm
  obtain ⟨l, hp, hl⟩ := rest
  have left : (m.requesters ++ l.flatMap (·.requesters)).Sublist ((m :: ms.erase m).flatMap (·.requesters)) := by
    rw [List.flatMap_cons]
    exact List.Sublist.append_left (hl.flatMap _) _
  exact ((hp.flatMap_right _).append_left _).symm.subperm.trans
    (left.subperm.trans (split.flatMap_right (·.requesters)).symm.subperm)

/-- A requester joins the mount operation of an arrival number (R30). -/
theorem requesters_joinMount (h : (ms.map (·.arrival)).Nodup) (a : Nat) (r : Requester) {g : MountOp → MountOp}
    (hg : ∀ m, (g m).requesters = m.requesters ++ [r]) :
    ((ms.map (fun m => if m.arrival = a then g m else m)).flatMap (·.requesters)).Subperm (r :: ms.flatMap (·.requesters)) := by
  induction ms with
  | nil => simp
  | cons m ms ih =>
    obtain ⟨fresh, once⟩ := List.nodup_cons.mp h
    by_cases ha : m.arrival = a
    · have same : ms.map (fun m => if m.arrival = a then g m else m) = ms := by
        refine (List.map_congr_left fun k hk => if_neg fun hka => fresh ?_).trans (List.map_id ms)
        exact List.mem_map.mpr ⟨k, hk, hka.trans ha.symm⟩
      simp only [List.map_cons, if_pos ha, same, List.flatMap_cons, hg, List.append_assoc]
      exact List.perm_middle.subperm
    · simp only [List.map_cons, if_neg ha, List.flatMap_cons]
      exact ((List.subperm_append_left _).mpr (ih once)).trans List.perm_middle.subperm

end

end Sys2Proof.Machine
end

section
/-! SUPPORT. The rules of the order of queue and claims: what a change of one part of the core must leave for the order to be kept,
how a claim is taken and released, how a job leaves, and how a requester comes to wait. A change of fields of which the order says
nothing keeps it by definition. -/

namespace Sys2Proof.Machine

section
variable {e : Fixed} {c : Core}

theorem Core.InOrder.bounds (h : c.InOrder) : QueueInBounds c.queue c.nextAccept := h.1
theorem Core.InOrder.drive (h : c.InOrder) (d : DriveId) : (c.drives.get d).InOrder c.queue c.engine.claim d := h.2.1 d
theorem Core.InOrder.fits (h : c.InOrder) {j : Job} (hj : j ∈ c.queue) : j.Fits := h.2.2.1 j hj
theorem Core.InOrder.waiters (h : c.InOrder) : WaitersInOrder c.queue c.engine.claim c.requesters := h.2.2.2.1
theorem Core.InOrder.mounts (h : c.InOrder) : MountsInOrder c.mounts c.nextArrival := h.2.2.2.2

/-- Both ways of a choice keep the order. -/
theorem Core.InOrder.ite {p : Prop} [Decidable p] {a b : Core} (ha : a.InOrder) (hb : b.InOrder) :
    (if p then a else b).InOrder := by
  split
  · exact ha
  · exact hb

/-! ### Drives -/

/-- A drive's record with the same claims, and a READ in flight for no other job. -/
def Drive.SameClaims (x y : Drive) : Prop := y.service = x.service ∧ y.claims = x.claims ∧ (y.reader = none ∨ y.reader = x.reader)

/-- A drive's record whose service order, claim count and operation have not changed. -/
theorem Drive.sameClaims {x y : Drive} (hs : y.service = x.service) (hc : y.claims = x.claims) (ho : y.op = x.op) :
    x.SameClaims y := ⟨hs, hc, .inr (by rw [Drive.reader, ho, Drive.reader])⟩

/-- One that has no operation in flight any more. -/
theorem Drive.sameClaims_ended {x y : Drive} (hs : y.service = x.service) (hc : y.claims = x.claims) (ho : y.op = none) :
    x.SameClaims y := ⟨hs, hc, .inl (by rw [Drive.reader, ho]; rfl)⟩

theorem Drive.InOrder.same {q : List Job} {claim : Option DriveId} {d : DriveId} {x y : Drive} (h : x.InOrder q claim d)
    (hs : x.SameClaims y) : y.InOrder q claim d := by
  obtain ⟨once, serves, count, reads⟩ := h
  obtain ⟨service, claims, reader⟩ := hs
  refine ⟨service ▸ once, fun id => service ▸ serves id, by rw [claims, service, count], fun id hid => ?_⟩
  rcases reader with reader | reader
  · rw [reader] at hid
    cases hid
  · exact reads id (reader ▸ hid)

/-- A change of the drives that leaves the claims. -/
theorem Core.InOrder.withDrives (h : c.InOrder) {drives : Four Drive}
    (hd : ∀ d, (c.drives.get d).SameClaims (drives.get d)) : Core.InOrder { c with drives := drives } :=
  ⟨h.1, fun d => (h.drive d).same (hd d), h.2.2⟩

theorem Core.InOrder.onDrive (h : c.InOrder) (d : DriveId) {f : Drive → Drive} (hf : ∀ x : Drive, x.SameClaims (f x)) :
    (c.onDrive d f).InOrder := by
  refine h.withDrives fun k => ?_
  by_cases hk : k = d
  · subst hk
    simpa using hf _
  · rw [Four.get_set_other _ _ _ _ hk]
    exact Drive.sameClaims rfl rfl rfl

theorem Core.InOrder.mapDrives (h : c.InOrder) {f : Drive → Drive} (hf : ∀ x : Drive, x.SameClaims (f x)) :
    Core.InOrder { c with drives := c.drives.map f } := h.withDrives fun d => by simpa using hf _

/-- An operation is issued for a job with its claim on the drive, or for no job (R24). -/
theorem Core.InOrder.issueUser (h : c.InOrder) (d : DriveId) (kind : OpKind) (user : OpUser)
    (hu : ∀ id, user.jobOf = some id → HoldsClaim c.queue id d) : (c.issue d kind user).InOrder := by
  refine ⟨h.1, fun k => ?_, h.2.2⟩
  have order := h.drive k
  by_cases hk : k = d
  · subst hk
    obtain ⟨once, serves, count, -⟩ := order
    simp only [Core.issue, Core.onDrive, Four.get_set_same]
    exact ⟨once, serves, count, hu⟩
  · simp only [Core.issue, Core.onDrive, Four.get_set_other _ _ _ _ hk]
    exact order

theorem Core.InOrder.issue (h : c.InOrder) (d : DriveId) (kind : OpKind) (user : OpUser)
    (hu : user.jobOf = none) : (c.issue d kind user).InOrder :=
  h.issueUser d kind user fun _ hid => absurd (hu.symm.trans hid) (Option.some_ne_none _).symm

/-! ### The engine's record -/

/-- A change of the engine's record that leaves its claim. -/
theorem Core.InOrder.onEngine (h : c.InOrder) {f : Engine → Engine} (hf : (f c.engine).claim = c.engine.claim) :
    (c.onEngine f).InOrder := by
  unfold Core.InOrder
  rw [show (c.onEngine f).engine.claim = c.engine.claim from hf]
  exact h

theorem Engine.reached_claim (g : Engine) : g.reached.claim = g.claim := by
  unfold Engine.reached
  split <;> rfl

/-! ### Jobs -/

/-- What the order of queue and claims knows a job by: its id, its acceptance number and its claim. -/
def Job.known (j : Job) : JobId × Nat × Option DriveId := (j.id, j.acceptNo, j.drive)

theorem Job.known_eq {f : Job → Job} (hf : Job.known ∘ f = Job.known) (j : Job) :
    (f j).id = j.id ∧ (f j).acceptNo = j.acceptNo ∧ (f j).drive = j.drive := by
  simpa [Job.known] using congrFun hf j

/-- Where a job stands: its side and its state. -/
def Job.standing (j : Job) : Option Side × JobState := (j.side, j.state)

theorem Job.standing_eq {f : Job → Job} (hs : Job.standing ∘ f = Job.standing) (j : Job) :
    (f j).side = j.side ∧ (f j).state = j.state := by
  simpa [Job.standing] using congrFun hs j

/-- A change of a job's record that leaves its id, its acceptance number and its claim, and its side where it waits for one. -/
theorem Core.InOrder.onJob (h : c.InOrder) (id : JobId) {f : Job → Job}
    (hf : Job.known ∘ f = Job.known)
    (hfits : ∀ j ∈ c.queue, j.id = id → (f j).Fits)
    (hside : ∀ j ∈ c.queue, j.id = id → .job id ∈ c.requesters → (f j).side ≠ none) : (c.onJob id f).InOrder := by
  let g (j : Job) : Job := if j.id = id then f j else j
  have hg (j : Job) : (g j).id = j.id ∧ (g j).acceptNo = j.acceptNo ∧ (g j).drive = j.drive := by
    by_cases hid : j.id = id
    · simpa only [g, if_pos hid] using Job.known_eq hf j
    · simp only [g, if_neg hid, and_self]
  have claim (k : JobId) (d : DriveId) : HoldsClaim (c.queue.map g) k d ↔ HoldsClaim c.queue k d := by
    constructor
    · rintro ⟨m, hm, hid, hd⟩
      obtain ⟨j, hj, rfl⟩ := List.mem_map.mp hm
      exact ⟨j, hj, (hg j).1.symm.trans hid, (hg j).2.2.symm.trans hd⟩
    · rintro ⟨j, hj, hid, hd⟩
      exact ⟨g j, List.mem_map_of_mem hj, (hg j).1.trans hid, (hg j).2.2.trans hd⟩
  refine ⟨h.bounds.map fun j _ => ⟨(hg j).1, (hg j).2.1⟩, fun d => ?_, fun k hk => ?_, h.waiters.congr fun r hr hm => ?_, h.mounts⟩
  · obtain ⟨once, serves, count, reads⟩ := h.drive d
    exact ⟨once, fun k => (serves k).trans (claim k d).symm, count, fun k hk => (claim k d).mpr (reads k hk)⟩
  · obtain ⟨j, hj, rfl⟩ := List.mem_map.mp hk
    show (g j).Fits
    by_cases hid : j.id = id
    · simp only [g, if_pos hid]
      exact hfits j hj hid
    · simp only [g, if_neg hid]
      exact h.fits hj
  · cases r with
    | engine => exact hm
    | job k =>
      obtain ⟨j, hj, hid, hd, hs⟩ := hm
      refine ⟨g j, List.mem_map_of_mem hj, (hg j).1.trans hid, (hg j).2.2.trans hd, ?_⟩
      by_cases hjid : j.id = id
      · simp only [g, if_pos hjid]
        exact hside j hj hjid (hjid ▸ hid ▸ hr)
      · simp only [g, if_neg hjid]
        exact hs

/-- A change of a job's record that leaves its side and its state too. -/
theorem Core.InOrder.onJob_same (h : c.InOrder) (id : JobId) {f : Job → Job}
    (hf : Job.known ∘ f = Job.known) (hs : Job.standing ∘ f = Job.standing) : (c.onJob id f).InOrder := by
  refine h.onJob id hf (fun j hj _ => ?_) fun j hj hid hr => ?_
  · obtain ⟨-, -, drive⟩ := Job.known_eq hf j
    obtain ⟨side, state⟩ := Job.standing_eq hs j
    have fits := h.fits hj
    rwa [Job.Fits, ← drive, ← side, ← state] at fits
  · obtain ⟨k, hk, hkid, -, side⟩ := h.waiters.2.1 id hr
    rw [(Job.standing_eq hs j).1, h.bounds.same hj hk (hid.trans hkid.symm)]
    exact side

/-- A job with a claim takes another state that goes with one. -/
theorem Core.InOrder.onJob_working (h : c.InOrder) (id : JobId) {f : Job → Job}
    (hst : ∀ j : Job, (f j).state = .waitDrive ∨ (f j).state = .readingDirectory ∨ (f j).state = .sending)
    (hf : Job.known ∘ f = Job.known) (hside : Job.side ∘ f = Job.side) : (c.onJob id f).InOrder := by
  have side (j : Job) : (f j).side = j.side := congrFun hside j
  refine h.onJob id hf (fun j hj _ hd => ⟨?_, hst j⟩) fun j hj hid hr => ?_
  · rw [side]
    exact (h.fits hj fun hn => hd ((Job.known_eq hf j).2.2.trans hn)).1
  · obtain ⟨k, hk, hkid, -, hs⟩ := h.waiters.2.1 id hr
    rw [side, h.bounds.same hj hk (hid.trans hkid.symm)]
    exact hs

/-- A job without a claim changes as it may, but for the side that it waits for. -/
theorem Core.InOrder.onJob_free (h : c.InOrder) (id : JobId) {f : Job → Job} (hfree : ∀ j ∈ c.queue, j.id = id → j.drive = none)
    (hf : Job.known ∘ f = Job.known) (hside : .job id ∈ c.requesters → ∀ j : Job, j.side ≠ none → (f j).side ≠ none) :
    (c.onJob id f).InOrder := by
  refine h.onJob id hf (fun j hj hid hd => ?_) fun j hj hid hr => ?_
  · exact absurd ((Job.known_eq hf j).2.2.trans (hfree j hj hid)) hd
  · obtain ⟨k, hk, hkid, -, hs⟩ := h.waiters.2.1 id hr
    exact hside hr j (by rw [h.bounds.same hj hk (hid.trans hkid.symm)]; exact hs)

/-! ### Claims (R27, R28) -/

/-- A job that waits for a side holds no claim (R30). -/
theorem Core.InOrder.waiting_free (h : c.InOrder) {id : JobId} (hu : Unclaimed c.queue id) :
    ∀ j ∈ c.queue, j.id = id → j.drive = none := by
  rintro j hj rfl
  obtain ⟨k, hk, hid, hd, -⟩ := hu
  rw [h.bounds.same hj hk hid.symm]
  exact hd

/-- No READ is in flight for a job. -/
def Core.NoRead (c : Core) (id : JobId) : Prop := ∀ d, (c.drives.get d).reader ≠ some id

/-- A job's READ is on the drive of its claim, so that none is in flight where that drive reads for another (R97). -/
theorem Core.InOrder.noRead (h : c.InOrder) {id : JobId}
    (hd : ∀ d, HoldsClaim c.queue id d → (c.drives.get d).reader ≠ some id) : c.NoRead id :=
  fun d hr => hd d ((h.drive d).2.2.2 id hr) hr

theorem Core.InOrder.noRead_of_free (h : c.InOrder) {id : JobId} (hf : ∀ j ∈ c.queue, j.id = id → j.drive = none) : c.NoRead id :=
  h.noRead fun d ⟨j, hj, hid, hd⟩ => by simp [hf j hj hid] at hd

/-- A job with its claim on a drive that reads for no job has no READ in flight. -/
theorem Core.InOrder.noRead_of_claim (h : c.InOrder) {id : JobId} {d : DriveId} (hd : HoldsClaim c.queue id d)
    (hr : (c.drives.get d).reader = none) : c.NoRead id :=
  h.noRead fun k hk => by simp [← h.bounds.oneClaim hd hk, hr]

/-- A requester that does not wait and may (R30). -/
def Core.Asks (c : Core) (r : Requester) : Prop := r ∉ c.requesters ∧ MayWait c.queue c.engine.claim r

/-- The engine takes its claim (R60). -/
theorem Core.InOrder.claimEngine (h : c.InOrder) (d : DriveId) (ha : c.Asks .engine) :
    ((c.takeClaim d).onEngine (fun g => { g with claim := some d })).InOrder := by
  obtain ⟨hr, hn⟩ := ha
  refine ⟨h.bounds, fun k => ?_, h.2.2.1, h.waiters.congr fun r hw hm => ?_, h.mounts⟩
  · obtain ⟨once, serves, count, reads⟩ := h.drive k
    have noClaim : c.engine.claim = none := hn
    simp only [noClaim, reduceCtorEq, if_false] at count
    by_cases hk : k = d
    · subst hk
      simp only [Core.takeClaim, Core.onDrive, Core.onEngine, Four.get_set_same]
      exact ⟨once, serves, by simp [count], reads⟩
    · simp only [Core.takeClaim, Core.onDrive, Core.onEngine, Four.get_set_other _ _ _ _ hk]
      exact ⟨once, serves, by simp [count, Ne.symm hk], reads⟩
  · cases r with
    | engine => exact absurd hw hr
    | job id => exact hm

/-- The engine releases its claim (R60). -/
theorem Core.InOrder.engineRelease (h : c.InOrder) : (c.engineRelease e).InOrder := by
  unfold Core.engineRelease
  split
  · next d hd =>
    refine ⟨h.bounds, fun k => ?_, h.2.2.1, h.waiters.congr fun r _ hm => ?_, h.mounts⟩
    · obtain ⟨once, serves, count, reads⟩ := h.drive k
      by_cases hk : k = d
      · subst hk
        simp only [Core.releaseClaim, Core.onDrive, Core.onEngine, Four.get_set_same]
        exact ⟨once, serves, by simp [count, hd], reads⟩
      · simp only [Core.releaseClaim, Core.onDrive, Core.onEngine, Four.get_set_other _ _ _ _ hk]
        exact ⟨once, serves, by simp [count, hd, Ne.symm hk], reads⟩
    · cases r with
      | engine => exact rfl
      | job id => exact hm
  · exact h

/-- A change of the jobs of one id, but for their ids, leaves the claims of the others. -/
theorem holdsClaim_onJob {q : List Job} {id k : JobId} {f : Job → Job} (hf : ∀ j, (f j).id = j.id) (hk : k ≠ id) (d : DriveId) :
    HoldsClaim (q.map (fun j => if j.id = id then f j else j)) k d ↔ HoldsClaim q k d := by
  constructor
  · rintro ⟨m, hm, hid, hd⟩
    obtain ⟨j, hj, rfl⟩ := List.mem_map.mp hm
    by_cases hjid : j.id = id
    · rw [if_pos hjid] at hid
      exact absurd (hid.symm.trans ((hf j).trans hjid)) hk
    · rw [if_neg hjid] at hid hd
      exact ⟨j, hj, hid, hd⟩
  · rintro ⟨j, hj, hid, hd⟩
    have other : j.id ≠ id := fun hjid => hk (hid.symm.trans hjid)
    exact ⟨j, List.mem_map.mpr ⟨j, hj, if_neg other⟩, hid, hd⟩

theorem unclaimed_onJob {q : List Job} {id k : JobId} {f : Job → Job} (hk : k ≠ id) (hu : Unclaimed q k) :
    Unclaimed (q.map (fun j => if j.id = id then f j else j)) k := by
  obtain ⟨j, hj, hid, hd⟩ := hu
  have other : j.id ≠ id := fun hjid => hk (hid.symm.trans hjid)
  exact ⟨j, List.mem_map.mpr ⟨j, hj, if_neg other⟩, hid, hd⟩

/-- A job takes its claim (R88). -/
theorem Core.InOrder.claimJob (h : c.InOrder) (d : DriveId) {id : JobId} (ha : c.Asks (.job id)) : (c.claimJob d id).InOrder := by
  obtain ⟨hr, hu⟩ := ha
  have free : ∀ k, ¬HoldsClaim c.queue id k := h.bounds.unclaimed hu
  let st : JobState :=
    if (c.drv d).service.isEmpty && (((c.takeClaim d).onDrive d (fun x => { x with service := x.service ++ [id] })).mayRead d)
    then .readingDirectory else .waitDrive
  let f (j : Job) : Job := { j with drive := some d, state := st }
  let q := c.queue.map (fun j => if j.id = id then f j else j)
  have own (k : DriveId) : HoldsClaim q id k ↔ k = d := by
    constructor
    · rintro ⟨m, hm, hid, hd⟩
      obtain ⟨j, hj, rfl⟩ := List.mem_map.mp hm
      by_cases hjid : j.id = id
      · rw [if_pos hjid] at hd
        exact (Option.some.inj hd).symm
      · rw [if_neg hjid] at hid
        exact absurd hid hjid
    · rintro rfl
      obtain ⟨j, hj, hid, -⟩ := hu
      exact ⟨f j, List.mem_map.mpr ⟨j, hj, if_pos hid⟩, hid, rfl⟩
  have claims (k : JobId) (hk : k ≠ id) (d : DriveId) : HoldsClaim q k d ↔ HoldsClaim c.queue k d :=
    holdsClaim_onJob (f := f) (fun _ => rfl) hk d
  refine ⟨?_, fun k => ?_, fun m hm => ?_, h.waiters.congr fun r hw hm => ?_, h.mounts⟩
  · exact h.bounds.map fun j _ => by split <;> exact ⟨rfl, rfl⟩
  · obtain ⟨once, serves, count, reads⟩ := h.drive k
    have fresh : id ∉ (c.drives.get k).service := fun hs => free k ((serves id).mp hs)
    have reads' (i : JobId) (hi : (c.drives.get k).reader = some i) : HoldsClaim q i k :=
      (claims i (fun hid => free k (hid ▸ reads i hi)) k).mpr (reads i hi)
    by_cases hk : k = d
    · subst hk
      show Drive.InOrder q c.engine.claim k _
      simp only [Core.claimJob, Core.takeClaim, Core.onDrive, Core.onJob, Four.get_set_same]
      refine ⟨?_, fun i => ?_, ?_, reads'⟩
      · exact List.nodup_append.mpr ⟨once, List.nodup_singleton _, fun a ha b hb hab =>
          fresh (List.mem_singleton.mp hb ▸ hab ▸ ha)⟩
      · by_cases hi : i = id
        · subst hi
          simp [own]
        · simp [claims i hi, hi, serves]
      · simp only [List.length_append, List.length_singleton, count]
        omega
    · show Drive.InOrder q c.engine.claim k _
      simp only [Core.claimJob, Core.takeClaim, Core.onDrive, Core.onJob, Four.get_set_other _ _ _ _ hk]
      refine ⟨once, fun i => ?_, count, reads'⟩
      by_cases hi : i = id
      · subst hi
        simp [own, hk, fresh]
      · rw [serves, claims i hi]
  · obtain ⟨j, hj, rfl⟩ := List.mem_map.mp hm
    show Job.Fits (if j.id = id then f j else j)
    by_cases hjid : j.id = id
    · rw [if_pos hjid]
      obtain ⟨i, hi, hiid, -, hs⟩ := hu
      refine fun _ => ⟨h.bounds.same hj hi (hjid.trans hiid.symm) ▸ hs, ?_⟩
      show st = _ ∨ st = _ ∨ st = _
      unfold st
      split <;> simp
    · rw [if_neg hjid]
      exact h.fits hj
  · cases r with
    | engine => exact hm
    | job k => exact unclaimed_onJob (fun hk => hr (hk ▸ hw)) hm

/-- A job for which no READ is in flight releases its claim (R27, R28). -/
theorem Core.InOrder.unclaimJob (h : c.InOrder) {id : JobId} (hn : c.NoRead id) : (c.unclaimJob e id).InOrder := by
  unfold Core.unclaimJob
  split
  · next d hd =>
    obtain ⟨j, hj, hjd⟩ := Option.bind_eq_some_iff.mp hd
    have hjid : j.id = id := by simpa using List.find?_some (p := fun j : Job => j.id == id) hj
    have held : HoldsClaim c.queue id d := ⟨j, List.mem_of_find?_eq_some hj, hjid, hjd⟩
    let f (j : Job) : Job := { j with drive := none }
    let q := c.queue.map (fun j => if j.id = id then f j else j)
    have own (k : DriveId) : ¬HoldsClaim q id k := by
      rintro ⟨m, hm, hid, hk⟩
      obtain ⟨i, hi, rfl⟩ := List.mem_map.mp hm
      by_cases hiid : i.id = id
      · rw [if_pos hiid] at hk
        cases hk
      · rw [if_neg hiid] at hid
        exact hiid hid
    have claims (k : JobId) (hk : k ≠ id) (d : DriveId) : HoldsClaim q k d ↔ HoldsClaim c.queue k d :=
      holdsClaim_onJob (f := f) (fun _ => rfl) hk d
    refine ⟨?_, fun k => ?_, fun m hm => ?_, h.waiters.congr fun r hw hm => ?_, h.mounts⟩
    · exact h.bounds.map fun j _ => by split <;> exact ⟨rfl, rfl⟩
    · obtain ⟨once, serves, count, reads⟩ := h.drive k
      have reads' (i : JobId) (hi : (c.drives.get k).reader = some i) : HoldsClaim q i k :=
        (claims i (fun hid => hn k (hid ▸ hi)) k).mpr (reads i hi)
      by_cases hk : k = d
      · subst hk
        show Drive.InOrder q c.engine.claim k _
        simp only [Core.releaseClaim, Core.onDrive, Core.onJob, Four.get_set_same, Four.set_set]
        refine ⟨once.filter _, fun i => ?_, ?_, reads'⟩
        · by_cases hi : i = id
          · subst hi
            simp [own]
          · simp [claims i hi, hi, serves]
        · have there : id ∈ (c.drives.get k).service := (serves id).mpr held
          have shorter : ((c.drives.get k).service.filter (· ≠ id)).length + 1 = (c.drives.get k).service.length := by
            have erased : (c.drives.get k).service.erase id = (c.drives.get k).service.filter (· ≠ id) := by
              rw [once.erase_eq_filter]
              exact List.filter_congr fun i _ => Bool.eq_iff_iff.mpr (by simp)
            rw [← erased, List.length_erase_of_mem there]
            exact Nat.sub_add_cancel (List.length_pos_of_mem there)
          simp only [count]
          omega
      · show Drive.InOrder q c.engine.claim k _
        simp only [Core.releaseClaim, Core.onDrive, Core.onJob, Four.get_set_other _ _ _ _ hk]
        refine ⟨once, fun i => ?_, count, reads'⟩
        by_cases hi : i = id
        · subst hi
          have other : i ∉ (c.drives.get k).service := fun hs => hk (h.bounds.oneClaim ((serves i).mp hs) held)
          simp [own, other]
        · rw [serves, claims i hi]
    · obtain ⟨i, hi, rfl⟩ := List.mem_map.mp hm
      split
      · exact fun hd => absurd rfl hd
      · exact h.fits hi
    · cases r with
      | engine => exact hm
      | job k =>
        refine unclaimed_onJob (fun hk => ?_) hm
        exact h.bounds.unclaimed (hk ▸ hm) d held
  · exact h

/-- After that no job of the id has a claim. -/
theorem Core.unclaimJob_free (c : Core) (id : JobId) (hb : QueueInBounds c.queue c.nextAccept) :
    ∀ j ∈ (c.unclaimJob e id).queue, j.id = id → j.drive = none := by
  intro k hk hid
  unfold Core.unclaimJob at hk
  split at hk
  · obtain ⟨j, -, rfl⟩ := List.mem_map.mp hk
    by_cases hj : j.id = id
    · rw [if_pos hj]
    · rw [if_neg hj] at hid
      exact absurd hid hj
  · next none_ =>
    cases hj : c.job id with
    | none => exact absurd hid (by simpa using List.find?_eq_none.mp hj k hk)
    | some j =>
      have hjid : j.id = id := by simpa using List.find?_some (p := fun j : Job => j.id == id) hj
      rwa [hj, Option.bind_some, hb.same (List.mem_of_find?_eq_some hj) hk (hjid.trans hid.symm)] at none_

/-! ### Those who wait (R30, R36) -/

/-- A change of waiting requests and mount operations in which none comes to wait. -/
theorem Core.InOrder.withWaiters (h : c.InOrder) {requests : List MountRequest} {mounts : List MountOp} {n : Nat}
    (hm : MountsInOrder mounts n)
    (hs : (requests.map (·.who) ++ mounts.flatMap (·.requesters)).Subperm c.requesters) :
    Core.InOrder { c with requests := requests, mounts := mounts, nextArrival := n } :=
  ⟨h.bounds, h.2.1, h.2.2.1, h.waiters.subperm hs, hm⟩

/-- One in which one comes to wait that may. -/
theorem Core.InOrder.withWaiter (h : c.InOrder) {r : Requester} (ha : c.Asks r) {requests : List MountRequest}
    {mounts : List MountOp} {n : Nat} (hm : MountsInOrder mounts n)
    (hs : (requests.map (·.who) ++ mounts.flatMap (·.requesters)).Subperm (r :: c.requesters)) :
    Core.InOrder { c with requests := requests, mounts := mounts, nextArrival := n } :=
  ⟨h.bounds, h.2.1, h.2.2.1, (h.waiters.cons ha.1 ha.2).subperm hs, hm⟩

/-- The requesters once one has left. -/
theorem Core.requesters_dropRequester (c : Core) (r : Requester) :
    (c.dropRequester r).requesters = c.requesters.filter (· ≠ r) := by
  simp only [Core.requesters, Core.dropRequester, List.filter_append, List.filter_map, List.flatMap_map, List.filter_flatMap]
  rfl

theorem Core.InOrder.dropRequester (h : c.InOrder) (r : Requester) : (c.dropRequester r).InOrder := by
  refine h.withWaiters (h.mounts.map fun _ _ => rfl) ?_
  have left : (c.dropRequester r).requesters.Subperm c.requesters := by
    rw [c.requesters_dropRequester]
    exact List.filter_sublist.subperm
  exact left

/-- What the order of queue and claims knows a mount operation by: its number and its requesters. -/
def MountOp.known (m : MountOp) : Nat × List Requester := (m.arrival, m.requesters)

theorem Core.InOrder.onMount (h : c.InOrder) (n : Nat) {f : MountOp → MountOp} (hf : MountOp.known ∘ f = MountOp.known) :
    (c.onMount n f).InOrder := by
  have same (m : MountOp) : (if m.arrival = n then f m else m).arrival = m.arrival ∧
      (if m.arrival = n then f m else m).requesters = m.requesters := by
    split
    · simpa [MountOp.known] using congrFun hf m
    · exact ⟨rfl, rfl⟩
  refine h.withWaiters (h.mounts.map fun m _ => (same m).1) (List.Sublist.subperm ?_)
  have same' : (c.mounts.map (fun m => if m.arrival = n then f m else m)).flatMap (·.requesters) =
      c.mounts.flatMap (·.requesters) := by
    rw [List.flatMap_map]
    exact List.flatMap_congr fun m _ => (same m).2
  rw [same']
  exact List.Sublist.refl _

/-- Mount operations end. -/
theorem Core.InOrder.filterMounts (h : c.InOrder) (p : MountOp → Bool) : Core.InOrder { c with mounts := c.mounts.filter p } :=
  h.withWaiters (h.mounts.sublist List.filter_sublist) (List.Sublist.append_left (List.filter_sublist.flatMap _) _).subperm

/-- The next arrival number is given away. -/
theorem Core.InOrder.bumpArrival (h : c.InOrder) : Core.InOrder { c with nextArrival := c.nextArrival + 1 } :=
  h.withWaiters (h.mounts.mono (Nat.le_succ _)) (List.Subperm.refl _)

end

end Sys2Proof.Machine
end

section
/-! SUPPORT. What the shared operations keep of the order of queue and claims: frames and notices, the volume table, drives, mounts,
moves and the picker (chapters 1, 2, 8 and 10). -/

namespace Sys2Proof.Machine

section
variable {e : Fixed} {c : Core}

/-! ### Frames and notices (10-3, 10-4) -/

theorem Core.InOrder.withLinks (h : c.InOrder) (links : Four LinkUnit) : Core.InOrder { c with links := links } := h
theorem Core.InOrder.emit (h : c.InOrder) (l : LinkId) (f : OutFrame) : (c.emit l f).InOrder := h
theorem Core.InOrder.mediaDone (h : c.InOrder) (o : Orderer) (x : MediaOutcome) (v : Option SlotId) :
    (c.mediaDone o x v).InOrder := h
theorem Core.InOrder.notifyRole (h : c.InOrder) (role : Role) (n : Notice) : (c.notifyRole role n).InOrder := h

theorem Core.InOrder.setAlarm (h : c.InOrder) (a : Alarm) : (c.setAlarm a).InOrder := by
  rw [Core.setAlarm_eq]
  exact h

theorem Core.InOrder.clearAlarm (h : c.InOrder) (a : Alarm) : (c.clearAlarm a).InOrder := by
  rw [Core.clearAlarm_eq]
  exact h

theorem Core.InOrder.evalSuspect (h : c.InOrder) : c.evalSuspect.InOrder := .ite (h.setAlarm _) (h.clearAlarm _)

/-! ### The volume table (chapter 1) -/

theorem Core.InOrder.setVol (h : c.InOrder) (v : SlotId) (x : Option Volume) : (c.setVol v x).InOrder := h

theorem Core.InOrder.setLoc (h : c.InOrder) (v : SlotId) (loc : Location) : (c.setLoc v loc).InOrder := by
  unfold Core.setLoc
  split
  · exact .ite (h.setVol v _).evalSuspect (h.setVol v _)
  · exact h

theorem Core.InOrder.makeVacant (h : c.InOrder) (v : SlotId) : (c.makeVacant v).InOrder := (h.setVol v none).evalSuspect

theorem Core.InOrder.onSide (h : c.InOrder) (sd : Side) (f : SideRecord → SideRecord) : (c.onSide sd f).InOrder := by
  unfold Core.onSide
  split
  · exact h.setVol _ _
  · exact h

/-! ### Drives (2-1) -/

/-- A drive's service order and claim count, and its operation in flight. -/
def Drive.known (x : Drive) : List JobId × Nat × Option DriveOp := (x.service, x.claims, x.op)

/-- A change of a drive's record that leaves its service order, its claim count and its operation. -/
theorem Core.InOrder.setDrive (h : c.InOrder) (d : DriveId) {f : Drive → Drive} (hf : Drive.known ∘ f = Drive.known) :
    (c.onDrive d f).InOrder := by
  refine h.onDrive d fun x => ?_
  obtain ⟨service, claims, op⟩ : (f x).service = x.service ∧ (f x).claims = x.claims ∧ (f x).op = x.op := by
    simpa [Drive.known] using congrFun hf x
  exact Drive.sameClaims service claims op

/-- One that ends the operation in flight. -/
theorem Core.InOrder.endDrive (h : c.InOrder) (d : DriveId) {f : Drive → Drive}
    (hf : Drive.known ∘ f = fun x => (x.service, x.claims, none)) : (c.onDrive d f).InOrder := by
  refine h.onDrive d fun x => ?_
  obtain ⟨service, claims, op⟩ : (f x).service = x.service ∧ (f x).claims = x.claims ∧ (f x).op = none := by
    simpa [Drive.known] using congrFun hf x
  exact Drive.sameClaims_ended service claims op

theorem Core.InOrder.endOp (h : c.InOrder) (d : DriveId) : (c.endOp e d).InOrder := h.endDrive d (by rfl)

theorem Core.InOrder.seat (h : c.InOrder) (d : DriveId) (sd : Side) : (c.seat d sd).InOrder := h.setDrive d (by rfl)

theorem Core.InOrder.startIdle (h : c.InOrder) (d : DriveId) : (c.startIdle e d).InOrder := by
  refine h.onDrive d fun x => ?_
  split <;> exact Drive.sameClaims rfl rfl rfl

theorem Core.InOrder.beginUnload (h : c.InOrder) (d : DriveId) : (c.beginUnload d).InOrder := by
  have unloading : (c.onDrive d (fun x => { x with state := .unloading, idle := none })).InOrder := h.setDrive d (by rfl)
  exact .ite unloading (.ite (unloading.issue d _ _ (by rfl)) (unloading.issue d _ _ (by rfl)))

theorem Core.InOrder.emptyDrive (h : c.InOrder) (d : DriveId) : (c.emptyDrive d).InOrder := h.setDrive d (by rfl)
theorem Core.InOrder.beginLoad (h : c.InOrder) (d : DriveId) : (c.beginLoad d).InOrder :=
  (h.setDrive d (by rfl)).issue d _ _ (by rfl)
theorem Core.InOrder.makeReady (h : c.InOrder) (d : DriveId) : (c.makeReady d).InOrder := h.setDrive d (by rfl)

/-! ### Mount requests and mount operations (2-3) -/

theorem Core.InOrder.dropMount (h : c.InOrder) (n : Nat) : (c.dropMount n).InOrder := h.filterMounts _
theorem Core.InOrder.endBoundMount (h : c.InOrder) (b : Binding) : (c.endBoundMount b).InOrder := h.filterMounts _

theorem Core.InOrder.joinBoundMove (h : c.InOrder) (b : Binding) (src : Position) (dst : Dest) (by_ : Option LinkId)
    (serves : Serves) (carries : Option SlotId) : (c.joinBoundMove b src dst by_ serves carries).InOrder := by
  unfold Core.joinBoundMove
  split
  · exact h
  · exact h.bumpArrival

theorem Core.InOrder.joinMove (h : c.InOrder) (src : Position) (dst : Dest) (cls : Nat) (by_ : Option LinkId) (serves : Serves)
    (carries : Option SlotId) : (c.joinMove src dst cls by_ serves carries).InOrder := h.bumpArrival

/-- A mount operation for nobody, as an import's (R150, R160). -/
theorem Core.InOrder.newMount (h : c.InOrder) (target : MountTarget) (cls prio : Nat) (src : Position)
    (dst : Dest) (by_ : Option LinkId) (carries : Option SlotId) : (c.newMount target [] cls prio src dst by_ carries).InOrder := by
  refine h.withWaiters (requests := c.requests) (mounts := c.mounts ++ [_]) (h.mounts.join rfl) (List.Perm.subperm ?_)
  simp [Core.requesters]

/-- A mount operation for one that asks (R30). -/
theorem Core.InOrder.newMountFor (h : c.InOrder) {r : Requester} (ha : c.Asks r) (target : MountTarget) (cls prio : Nat)
    (src : Position) (dst : Dest) (by_ : Option LinkId) (carries : Option SlotId) :
    (c.newMount target [r] cls prio src dst by_ carries).InOrder := by
  refine h.withWaiter ha (requests := c.requests) (mounts := c.mounts ++ [_]) (h.mounts.join rfl) (List.Perm.subperm ?_)
  rw [List.flatMap_append, ← List.append_assoc]
  exact List.perm_append_singleton r _

/-- One that asks joins a mount operation (R30). -/
theorem Core.InOrder.joinMount (h : c.InOrder) {r : Requester} (ha : c.Asks r) (n : Nat) : (c.joinMount n r).InOrder := by
  refine h.withWaiter (mounts := c.mounts.map _) ha (h.mounts.map fun m _ => ?_) ?_
  · split <;> rfl
  · exact ((List.subperm_append_left _).mpr (requesters_joinMount h.mounts.1 n r fun _ => rfl)).trans List.perm_middle.subperm

/-- One that asks has its request wait (R30). -/
theorem Core.InOrder.request (h : c.InOrder) {r : Requester} (ha : c.Asks r) (sd : Side) : (c.request r sd).InOrder := by
  refine h.withWaiter ha h.mounts (List.Perm.subperm ?_)
  rw [List.map_append, List.append_assoc]
  exact List.perm_middle

/-- The requesters of a mount operation that ends wait anew (R25, R30). -/
theorem Core.InOrder.dissolveMount (h : c.InOrder) {m : MountOp} (hm : m ∈ c.mounts) : (c.dissolveMount m).InOrder := by
  unfold Core.dissolveMount
  simp only
  split
  · refine h.withWaiters (h.mounts.sublist List.filter_sublist) ?_
    rw [List.map_append, List.map_map, List.append_assoc]
    refine (List.subperm_append_left _).mpr (List.Subperm.trans (List.Perm.subperm ?_) (requesters_dropMount hm))
    exact List.Perm.of_eq (congrArg (· ++ _) (List.map_id _))
  · exact h.dropMount _

/-! ### Moves and the picker (R37 to R43) -/

theorem Core.InOrder.depart (h : c.InOrder) (src dst : Position) (carries : Option SlotId) :
    (c.depart src dst carries).InOrder := by
  unfold Core.depart
  extract_lets c1 c2
  have carried : c1.InOrder := by
    unfold c1
    split
    · exact h.setLoc _ _
    · exact h
  have left : c2.InOrder := by
    unfold c2
    split
    · exact carried.setDrive _ (by rfl)
    · exact carried
    · exact carried
  exact .ite left left

theorem Core.InOrder.arrive (h : c.InOrder) (p : Position) (carries : Option SlotId) : (c.arrive p carries).InOrder := by
  unfold Core.arrive
  extract_lets c1
  have carried : c1.InOrder := by
    unfold c1
    split
    · exact h.setLoc _ _
    · exact h
  split
  · exact carried.seat _ _
  · exact carried.setDrive _ (by rfl)
  · exact carried

theorem Core.InOrder.withMailslot (h : c.InOrder) (m : Mailslot) : Core.InOrder { c with mailslot := m } := h

theorem Core.InOrder.returnToSource (h : c.InOrder) (src dst : Position) (carries : Option SlotId) :
    (c.returnToSource src dst carries).InOrder := by
  unfold Core.returnToSource
  extract_lets c1 c2
  have back : c1.InOrder := by
    unfold c1
    split
    · split
      · exact h.arrive _ _
      · exact h.setDrive _ (by rfl)
    · exact h.arrive _ _
  have put : c2.InOrder := .ite back back
  exact .ite put put

theorem Core.InOrder.beginMotion (h : c.InOrder) (m : Motion) : (c.beginMotion m).InOrder := h
theorem Core.InOrder.pickerIdle (h : c.InOrder) : c.pickerIdle.InOrder := h

theorem Core.InOrder.grantHold (h : c.InOrder) : c.grantHold.InOrder := by
  rw [Core.grantHold_eq]
  exact h

theorem Core.InOrder.recoveryDone (h : c.InOrder) (x : MediaOutcome) : (c.recoveryDone x).InOrder := by
  rw [Core.recoveryDone_eq]
  exact h

/-- A fold of operations each of which keeps the order. -/
theorem Core.InOrder.foldl {α : Type} {f : Core → α → Core} (hf : ∀ c x, c.InOrder → (f c x).InOrder) (xs : List α)
    (h : c.InOrder) : (xs.foldl f c).InOrder := by
  induction xs generalizing c with
  | nil => exact h
  | cons x xs ih => exact ih (hf c x h)

end

end Sys2Proof.Machine
end

section
/-! SUPPORT. What the Work Queue keeps of the order of queue and claims: the ends of jobs, their placing, the reading of an entry and
of an extent, and the steps of a walk (chapters 4 and 5). -/

namespace Sys2Proof.Machine

section
variable {e : Fixed} {c : Core}

/-! ### The ends of jobs (R96 to R101, R110, R111) -/

/-- A job without a claim leaves the queue and what it waited for (R36, R80). -/
theorem Core.InOrder.removeJob (h : c.InOrder) {id : JobId} (hf : ∀ j ∈ c.queue, j.id = id → j.drive = none) :
    (c.removeJob id).InOrder := by
  have claims (k : JobId) (d : DriveId) : HoldsClaim (c.queue.filter (fun j => j.id ≠ id)) k d ↔ HoldsClaim c.queue k d := by
    constructor
    · rintro ⟨j, hj, held⟩
      exact ⟨j, (List.mem_filter.mp hj).1, held⟩
    · rintro ⟨j, hj, hid, hd⟩
      refine ⟨j, List.mem_filter.mpr ⟨hj, decide_eq_true fun hjid => ?_⟩, hid, hd⟩
      simp [hf j hj hjid] at hd
  have left : Core.InOrder { c.dropRequester (.job id) with queue := c.queue.filter (fun j => j.id ≠ id) } := by
    have dropped := h.dropRequester (.job id)
    refine ⟨h.bounds.sublist List.filter_sublist, fun d => ?_, fun j hj => h.fits (List.mem_filter.mp hj).1,
      dropped.waiters.congr fun r hr hm => ?_, dropped.mounts⟩
    · obtain ⟨once, serves, count, reads⟩ := h.drive d
      exact ⟨once, fun k => (serves k).trans (claims k d).symm, count, fun k hk => (claims k d).mpr (reads k hk)⟩
    · rw [c.requesters_dropRequester] at hr
      have other : r ≠ .job id := by simpa using (List.mem_filter.mp hr).2
      cases r with
      | engine => exact hm
      | job k =>
        obtain ⟨j, hj, hid, hd⟩ := hm
        have stays : j.id ≠ id := fun hjid => other (congrArg Requester.job (hid.symm.trans hjid))
        exact ⟨j, List.mem_filter.mpr ⟨hj, decide_eq_true stays⟩, hid, hd⟩
  unfold Core.removeJob
  split
  · simp only
    split
    · exact left.notifyRole _ _
    · exact left
  · exact h

/-- A job for which no READ is in flight releases its claim and leaves (R27, R28, R80). -/
theorem Core.InOrder.leave (h : c.InOrder) {id : JobId} (hn : c.NoRead id) : ((c.unclaimJob e id).removeJob id).InOrder :=
  (h.unclaimJob hn).removeJob (c.unclaimJob_free id h.bounds)

/-- It leaves likewise where it is charged between (R96, R111). -/
theorem Core.InOrder.leaveCharged (h : c.InOrder) {id : JobId} (hn : c.NoRead id) (it : Item) :
    ((((c.unclaimJob e id).charge it).1).removeJob id).InOrder := by
  have books (b : Core) : ∃ ts l, (b.charge it).1 = { b with tallies := ts, courtesy := l } := by
    unfold Core.charge
    split <;> exact ⟨_, _, rfl⟩
  obtain ⟨ts, l, charged⟩ := books (c.unclaimJob e id)
  rw [charged]
  exact Core.InOrder.removeJob (c := { c.unclaimJob e id with tallies := ts, courtesy := l }) (h.unclaimJob hn)
    (c.unclaimJob_free id h.bounds)

theorem Core.InOrder.endFetch (h : c.InOrder) {j : Job} (hn : c.NoRead j.id) (o : JobOutcome) : (endFetch e c j o).InOrder :=
  (h.leave hn).emit _ _

theorem Core.InOrder.endFetchCharged (h : c.InOrder) {j : Job} (hn : c.NoRead j.id) : (endFetchCharged e c j).InOrder :=
  (h.leaveCharged hn _).emit _ _

theorem Core.InOrder.endWalk (h : c.InOrder) {j : Job} (hn : c.NoRead j.id) (w : WalkFields) (stop : StopReason) :
    (endWalk e c j w stop).InOrder := by
  have told : (c.onJob j.id (fun k => { k with walk := some { w with stop := some stop } })).InOrder :=
    h.onJob_same j.id (by rfl) (by rfl)
  unfold Machine.endWalk
  exact .ite ((told.leave hn).emit _ _) ((told.leaveCharged hn _).emit _ _)

theorem Core.InOrder.endCancelled (h : c.InOrder) {j : Job} (hn : c.NoRead j.id) : (endCancelled e c j).InOrder := by
  unfold Machine.endCancelled
  split
  · exact h.endWalk hn _ _
  · exact h.endFetch hn _

theorem Core.InOrder.endUnreadable (h : c.InOrder) {j : Job} (hn : c.NoRead j.id) : (endUnreadable e c j).InOrder := by
  unfold Machine.endUnreadable
  split
  · exact h.endWalk hn _ _
  · exact h.endFetch hn _

theorem Core.InOrder.endFaulted (h : c.InOrder) {j : Job} (hn : c.NoRead j.id) : (endFaulted e c j).InOrder := by
  unfold Machine.endFaulted
  split
  · exact h.endCancelled hn
  · split
    · exact h.endWalk hn _ _
    · exact h.endFetch hn _

/-- A job with no READ in flight on the drive of its claim has none in flight (R97). -/
theorem Core.InOrder.noRead_of_readInFlight (h : c.InOrder) {j : Job} (hr : c.readInFlight j = false)
    (hd : ∀ k ∈ c.queue, k.id = j.id → k.drive = none ∨ k.drive = j.drive) : c.NoRead j.id := by
  refine h.noRead fun d ⟨k, hk, hid, hkd⟩ hread => ?_
  obtain ⟨o, ho, hu⟩ := Drive.reader_eq_some.mp hread
  have on : j.drive = some d := by
    rcases hd k hk hid with free | same
    · simp [free] at hkd
    · exact same.symm.trans hkd
  have inFlight : c.readInFlight j = true := by
    simp only [Core.readInFlight, on, Core.drv, ho]
    rcases hu with hu | hu <;> simp [hu]
  simp [inFlight] at hr

theorem Core.InOrder.cancelJob (h : c.InOrder) {j : Job}
    (hd : ∀ k ∈ c.queue, k.id = j.id → k.drive = none ∨ k.drive = j.drive) : (cancelJob e c j).InOrder := by
  unfold Machine.cancelJob
  split
  · exact h.onJob_same j.id (by rfl) (by rfl)
  · next hr => exact h.endCancelled (h.noRead_of_readInFlight (by simpa using hr) hd)

/-- A CANCEL gives no job a claim (R97). -/
theorem cancelJob_drives (e : Fixed) (c : Core) (j : Job) :
    ∀ k ∈ (cancelJob e c j).queue, ∃ i ∈ c.queue, i.id = k.id ∧ (k.drive = none ∨ k.drive = i.drive) := by
  have kept : Core.FaultKept 0 c (cancelJob e c j) := by
    unfold cancelJob endCancelled
    refine .ite (.onJob j.id fun _ => ⟨rfl, .inr rfl⟩) ?_
    split
    · exact .endWalk _ _ _
    · exact .endFetch _ _
  exact kept.queue

theorem Core.InOrder.cancelJobsOf (h : c.InOrder) (l : LinkId) : (cancelJobsOf e c l).InOrder := by
  have all (js : List Job) : ∀ b : Core, b.InOrder →
      (∀ j ∈ js, ∀ k ∈ b.queue, k.id = j.id → k.drive = none ∨ k.drive = j.drive) →
      (js.foldl (fun b j => Machine.cancelJob e b j) b).InOrder := by
    induction js with
    | nil => exact fun _ hb _ => hb
    | cons j js ih =>
      intro b hb hd
      refine ih _ (hb.cancelJob (hd j (List.mem_cons_self ..))) fun i hi k hk hid => ?_
      obtain ⟨m, hm, hmid, hdrive⟩ := cancelJob_drives e b j k hk
      refine hdrive.elim .inl fun hdrive => ?_
      rw [hdrive]
      exact hd i (List.mem_cons_of_mem _ hi) m hm (hmid.trans hid)
  refine all _ c h fun j hj k hk hid => .inr ?_
  rw [h.bounds.same hk (List.mem_filter.mp hj).1 hid]

/-! ### Placing (R85 to R87, R104, R109) -/

/-- A job of the queue that holds no claim and waits for no side, as between two placings. -/
def Core.AtRest (c : Core) (id : JobId) : Prop :=
  (∃ j ∈ c.queue, j.id = id) ∧ (∀ j ∈ c.queue, j.id = id → j.drive = none) ∧ .job id ∉ c.requesters

/-- A job without a claim that changes, but for its claim and its having a side. -/
theorem Unclaimed.onJob {q : List Job} {k : JobId} (hu : Unclaimed q k) (id : JobId) {f : Job → Job}
    (hf : ∀ j, (f j).id = j.id ∧ (f j).drive = j.drive ∧ (j.side ≠ none → (f j).side ≠ none)) :
    Unclaimed (q.map (fun j => if j.id = id then f j else j)) k := by
  obtain ⟨j, hj, hid, hd, hs⟩ := hu
  refine ⟨_, List.mem_map_of_mem hj, ?_⟩
  split
  · exact ⟨(hf j).1.trans hid, (hf j).2.1.trans hd, (hf j).2.2 hs⟩
  · exact ⟨hid, hd, hs⟩

/-- A job that asks for its side is placed (R85). -/
theorem Core.InOrder.placeJob (h : c.InOrder) {id : JobId} (ha : c.Asks (.job id)) (sd : Side) : (c.placeJob id sd).InOrder := by
  have free := h.waiting_free ha.2
  unfold Core.placeJob
  split
  · exact (h.onJob_free id free (by rfl) (by exact fun _ _ hs => hs)).notifyRole _ _
  · exact (h.onJob_free id free (by rfl) (by exact fun _ _ hs => hs)).request
      ⟨ha.1, ha.2.onJob id (by exact fun _ => ⟨rfl, rfl, fun hs => hs⟩)⟩ sd

/-- A job at rest has its number resolved to a side and is placed (R85, R87). -/
theorem Core.InOrder.placeAt (h : c.InOrder) {id : JobId} (hr : c.AtRest id) (sd : Side) {f : Job → Job}
    (hf : Job.known ∘ f = Job.known) (hs : ∀ j, (f j).side ≠ none) :
    ((c.onJob id f).placeJob id sd).InOrder := by
  obtain ⟨⟨j, hj, hid⟩, free, quiet⟩ := hr
  obtain ⟨same, -, claim⟩ := Job.known_eq hf j
  refine (h.onJob_free id free hf fun hw => absurd hw quiet).placeJob ⟨quiet, ?_⟩ sd
  exact ⟨f j, List.mem_map.mpr ⟨j, hj, if_pos hid⟩, same.trans hid, claim.trans (free j hj hid), hs j⟩

/-- A job at rest becomes DEFERRED (R87). -/
theorem Core.InOrder.defer (h : c.InOrder) {id : JobId} (hr : c.AtRest id) :
    (c.onJob id (fun k => { k with state := .queued, side := none })).InOrder :=
  h.onJob_free id hr.2.1 (by rfl) fun hw => absurd hw hr.2.2

theorem Core.InOrder.resolveJob (h : c.InOrder) {j : Job} (hr : c.AtRest j.id) : (resolveJob e c j).InOrder := by
  unfold Machine.resolveJob
  split
  · exact h.placeAt hr _ (by rfl) (by exact fun _ => Option.some_ne_none _)
  · exact h.defer hr
  · exact h.endUnreadable (h.noRead_of_free hr.2.1)

/-- A job that leaves WAIT_OPERATOR, with what it waited for (R36, R86). -/
def Core.setDown (c : Core) (j : Job) : Core := (c.leaveOperator j).dropRequester (.job j.id)

/-- All that its leaving does to the queue. -/
theorem Core.leaveOperator_cases (c : Core) (j : Job) : c.leaveOperator j = c ∨
    ∃ v, c.leaveOperator j = (c.onJob j.id (fun k => { k with state := .queued })).operatorNotice v := by
  unfold Core.leaveOperator
  split
  · exact .inr ⟨_, rfl⟩
  · exact .inl rfl

/-- A job without a claim is in order and asks for nothing once it has been set down. -/
theorem Core.InOrder.setDown (h : c.InOrder) {j : Job} (hj : j ∈ c.queue) (hd : j.drive = none) :
    (c.setDown j).InOrder ∧ (c.setDown j).AtRest j.id ∧ (j.side ≠ none → (c.setDown j).Asks (.job j.id)) := by
  have free : ∀ k ∈ c.queue, k.id = j.id → k.drive = none := fun k hk hid => by rw [h.bounds.same hk hj hid, hd]
  have dropped (b : Core) : .job j.id ∉ (b.dropRequester (.job j.id)).requesters := by
    rw [b.requesters_dropRequester]
    simp
  unfold Core.setDown
  rcases c.leaveOperator_cases j with same | ⟨v, left⟩
  · rw [same]
    exact ⟨h.dropRequester _, ⟨⟨j, hj, rfl⟩, free, dropped _⟩, fun hs => ⟨dropped _, j, hj, rfl, hd, hs⟩⟩
  · rw [left]
    have out : (c.onJob j.id (fun k => { k with state := .queued })).InOrder := 
      h.onJob_free j.id free (by rfl) (by exact fun _ _ hs => hs)
    have there : { j with state := .queued } ∈ (c.onJob j.id (fun k => { k with state := .queued })).queue :=
      List.mem_map.mpr ⟨j, hj, if_pos rfl⟩
    refine ⟨(out.notifyRole _ _).dropRequester _, ⟨⟨_, there, rfl⟩, fun k hk hid => ?_, dropped _⟩,
      fun hs => ⟨dropped _, _, there, rfl, hd, hs⟩⟩
    rw [out.bounds.same hk there hid]
    exact hd

theorem Core.InOrder.wakeJob (h : c.InOrder) (id : JobId) : (wakeJob e c id).InOrder := by
  unfold Machine.wakeJob
  split
  · next j hj =>
    have hjid : j.id = id := by simpa using List.find?_some (p := fun j : Job => j.id == id) hj
    have hmem : j ∈ c.queue := List.mem_of_find?_eq_some hj
    subst hjid
    split
    · next wakes =>
      unfold Core.wakes at wakes
      split
      · next hs =>
        have hd : j.drive = none := Decidable.not_not.mp fun hd => (h.fits hmem hd).1 hs
        refine h.resolveJob ⟨⟨j, hmem, rfl⟩, fun k hk hid => by rw [h.bounds.same hk hmem hid, hd], fun hw => ?_⟩
        obtain ⟨k, hk, hid, -, hside⟩ := h.waiters.2.1 j.id hw
        rw [h.bounds.same hk hmem hid] at hside
        exact hside hs
      · next sd hs =>
        rw [hs] at wakes
        simp only at wakes ⊢
        have side : j.side ≠ none := by simp [hs]
        split
        · next vacant =>
          rw [if_pos vacant] at wakes
          obtain ⟨down, rest, -⟩ := h.setDown hmem (by simpa using wakes)
          exact down.resolveJob rest
        · next present =>
          rw [if_neg present, Bool.and_eq_true, beq_iff_eq] at wakes
          have hd : j.drive = none := Decidable.not_not.mp fun hd => by simpa [wakes.1] using (h.fits hmem hd).2
          obtain ⟨down, -, asks⟩ := h.setDown hmem hd
          exact down.placeJob (asks side) sd
    · exact h
  · exact h

theorem Core.InOrder.wakeJobs (h : c.InOrder) : (wakeJobs e c).InOrder := h.foldl (fun _ j hc => hc.wakeJob j.id) _

/-! ### Reading the directory entry and the extent (R90 to R96, R105 to R108) -/

/-- A job has its claim on a drive, and no READ in flight: it is about to read (R89). -/
def Core.Reads (c : Core) (d : DriveId) (id : JobId) : Prop := HoldsClaim c.queue id d ∧ c.NoRead id

theorem Core.Reads.claim {d : DriveId} {id : JobId} (hr : c.Reads d id) : HoldsClaim c.queue id d := hr.1
theorem Core.Reads.none_ {d : DriveId} {id : JobId} (hr : c.Reads d id) : c.NoRead id := hr.2

/-- A job that is about to read is so whatever changes in its record but its id and claim. -/
theorem Core.Reads.onJob {d : DriveId} {id : JobId} (hr : c.Reads d id) (k : JobId) {f : Job → Job}
    (hf : Job.known ∘ f = Job.known) : (c.onJob k f).Reads d id := by
  obtain ⟨⟨j, hj, hid, hd⟩, none_⟩ := hr
  refine ⟨⟨_, List.mem_map_of_mem hj, ?_⟩, none_⟩
  split
  · obtain ⟨same, -, claim⟩ := Job.known_eq hf j
    exact ⟨same.trans hid, claim.trans hd⟩
  · exact ⟨hid, hd⟩

/-- A READ for a job on the drive of its claim. -/
theorem Core.InOrder.issueFor (h : c.InOrder) {d : DriveId} {id : JobId} (hc : HoldsClaim c.queue id d) (kind : OpKind)
    {user : OpUser} (hu : user.jobOf = some id) : (c.issue d kind user).InOrder :=
  h.issueUser d kind user fun k hk => by rwa [← Option.some.inj (hu.symm.trans hk)]

theorem Core.InOrder.issueChunk (h : c.InOrder) {d : DriveId} {id : JobId} (hc : HoldsClaim c.queue id d) (en : DirEntry)
    (sent : Nat) : (c.issueChunk d id en sent).InOrder := h.issueFor hc _ rfl

theorem Core.InOrder.fetchEntry (h : c.InOrder) {d : DriveId} {j : Job} (hr : c.Reads d j.id) (en : DirEntry) :
    (fetchEntry e c d j en).InOrder := by
  unfold Machine.fetchEntry
  refine .ite (h.endFetch hr.none_ _) (Core.InOrder.issueChunk ?_ (hr.onJob j.id (by rfl)).claim _ _)
  exact h.onJob_working j.id (fun _ => .inr (.inr rfl)) (by rfl) (by rfl)

/-- A job that has released its claim is at rest. -/
theorem Core.InOrder.unclaimed_atRest (h : c.InOrder) {d : DriveId} {id : JobId} (hc : HoldsClaim c.queue id d) :
    (c.unclaimJob e id).AtRest id := by
  have requesters : (c.unclaimJob e id).requesters = c.requesters := by
    unfold Core.unclaimJob
    split <;> rfl
  refine ⟨?_, c.unclaimJob_free id h.bounds, fun hw => ?_⟩
  · obtain ⟨j, hj, hid, -⟩ := hc
    unfold Core.unclaimJob
    split
    · exact ⟨{ j with drive := none }, List.mem_map.mpr ⟨j, hj, if_pos hid⟩, hid⟩
    · exact ⟨j, hj, hid⟩
  · rw [requesters] at hw
    exact h.bounds.unclaimed (h.waiters.2.1 id hw) d hc

theorem Core.InOrder.walkNext (h : c.InOrder) {d : DriveId} {j : Job} (hr : c.Reads d j.id) (w : WalkFields) (rn : Nat) :
    (walkNext e c d j w rn).InOrder := by
  have moved : (c.onJob j.id (fun k => { k with rn, walk := some w })).InOrder := h.onJob_same j.id (by rfl) (by rfl)
  have reads : (c.onJob j.id (fun k => { k with rn, walk := some w })).Reads d j.id := hr.onJob j.id (by rfl)
  have rest := moved.unclaimed_atRest (e := e) reads.claim
  have free := moved.unclaimJob (e := e) reads.none_
  unfold Machine.walkNext
  simp only
  split
  · refine .ite (moved.onJob_working j.id (fun _ => ?_) (by rfl) (by rfl)) ?_
    · simp only
      split
      · exact .inr (.inl rfl)
      · exact .inl rfl
    · exact free.placeAt rest _ (by rfl) (by exact fun _ => Option.some_ne_none _)
  · exact free.defer rest
  · exact moved.endWalk (j := { j with rn, walk := some w }) reads.none_ w .media

theorem Core.InOrder.walkStep (h : c.InOrder) {d : DriveId} {j : Job} (hr : c.Reads d j.id) (w : WalkFields) (en : DirEntry) :
    (walkStep e c d j w en).InOrder := by
  let c1 := (c.emit j.id.link (.entry j.id.tag (entryFrame j.rn (w.step en).steps en))).onJob j.id
    (fun k => { k with walk := some (w.step en) })
  have told : c1.InOrder := (h.emit _ _).onJob_same j.id (by rfl) (by rfl)
  have reads : c1.Reads d j.id := hr.onJob j.id (by rfl)
  unfold Machine.walkStep
  simp only
  split
  · exact told.endWalk reads.none_ _ _
  · exact told.walkNext reads _ _
  · exact told.endWalk reads.none_ _ _

theorem Core.InOrder.takeEntry (h : c.InOrder) {d : DriveId} {j : Job} (hr : c.Reads d j.id) (en : DirEntry) :
    (takeEntry e c d j en).InOrder := by
  unfold Machine.takeEntry
  split
  · exact h.walkStep hr _ _
  · exact h.fetchEntry hr _

theorem Core.InOrder.readEntry (h : c.InOrder) {d : DriveId} {j : Job} (hr : c.Reads d j.id) : (readEntry e c d j).InOrder := by
  unfold Machine.readEntry
  split
  · split
    · exact h.takeEntry hr _
    · exact h.issueFor hr.claim _ rfl
  · exact h.endUnreadable hr.none_

theorem Core.InOrder.directoryRead (h : c.InOrder) {d : DriveId} {j : Job} (hr : c.Reads d j.id) (start : Nat) (r : ReadResult) :
    (directoryRead e c d j start r).InOrder := by
  unfold Machine.directoryRead
  refine .ite (h.endCancelled hr.none_) ?_
  split
  · exact h.takeEntry hr _
  · exact .ite (h.issueFor hr.claim _ rfl) (h.endUnreadable hr.none_)

/-- The frames of a chunk change the link units only (R94). -/
theorem Core.emitFrames_links (c : Core) (id : JobId) (fs : List (Nat × List Byte)) :
    ∃ links, c.emitFrames id fs = { c with links := links } := by
  unfold Core.emitFrames
  induction fs generalizing c with
  | nil => exact ⟨c.links, rfl⟩
  | cons f fs ih => exact ih (c.emit id.link (.data id.tag f.1 f.2))

/-- A job that is about to read is so after frames have been sent for it, and its record has changed but for its id and claim. -/
theorem Core.InOrder.framesSent (h : c.InOrder) {d : DriveId} {id : JobId} (hr : c.Reads d id) (fs : List (Nat × List Byte))
    {f : Job → Job} (hf : Job.known ∘ f = Job.known) (hs : Job.standing ∘ f = Job.standing) :
    ((c.emitFrames id fs).onJob id f).InOrder ∧ ((c.emitFrames id fs).onJob id f).Reads d id := by
  obtain ⟨links, sent⟩ := c.emitFrames_links id fs
  rw [sent]
  exact ⟨(h.withLinks links).onJob_same id hf hs, hr.onJob id hf⟩

theorem Core.InOrder.chunkRead (h : c.InOrder) {d : DriveId} {j : Job} (hr : c.Reads d j.id) (en : DirEntry) (r : ReadResult) :
    (chunkRead e c d j en r).InOrder := by
  unfold Machine.chunkRead
  refine .ite (h.endFetch hr.none_ _) ?_
  split
  · extract_lets count frames sent crc c1
    obtain ⟨told, reads⟩ : c1.InOrder ∧ c1.Reads d j.id := h.framesSent hr frames (by rfl) (by rfl)
    clear_value c1 crc
    exact .ite (.ite (told.endFetchCharged (j := { j with sent, crc }) reads.none_)
      (told.endFetch (j := { j with sent, crc }) reads.none_ _)) (told.issueChunk reads.claim _ _)
  · exact .ite (h.endFetch hr.none_ _) ((h.onJob_same j.id (by rfl) (by rfl)).issueChunk (hr.onJob j.id (by rfl)).claim _ _)

end

end Sys2Proof.Machine
end

section
/-! SUPPORT. What the Filing Engine keeps of the order of queue and claims (chapter 3): its claim is taken and released in its own
steps, and everything else it does leaves the claims as they are. -/

namespace Sys2Proof.Machine

section
variable {e : Fixed} {c : Core}

/-! ### Rest, choice and head (R58 to R60) -/

theorem Core.InOrder.engineRest (h : c.InOrder) (st : EngineState) : (c.engineRest e st).InOrder :=
  (h.engineRelease.dropRequester .engine).onEngine (by rfl)

theorem Core.InOrder.chooseAgain (h : c.InOrder) : (chooseAgain e c).InOrder := by
  unfold Machine.chooseAgain
  split
  · exact h.engineRest _
  · exact h.onEngine (by rfl)

theorem Core.InOrder.setHead (h : c.InOrder) (st : PendingState) : (c.setHead st).InOrder := by
  unfold Core.setHead
  split <;> exact h

theorem Core.InOrder.stageHead (h : c.InOrder) : c.stageHead.InOrder := .ite (h.setHead _) h

theorem Core.InOrder.reselect (h : c.InOrder) : c.reselect.InOrder := by
  unfold Core.reselect
  split
  · split
    · next sel _ => exact Core.InOrder.clearAlarm (c := { c with selection := some sel }) h .noBlank
    · exact h
  · exact h

/-! ### Flush, seal and attempts (R62 to R69) -/

theorem Core.InOrder.beginFlush (h : c.InOrder) (d : DriveId) (r : SideRecord) : (c.beginFlush d r).InOrder :=
  (h.onEngine (by rfl)).issue d _ _ (by rfl)

theorem Core.InOrder.writeSeal (h : c.InOrder) (d : DriveId) (r : SideRecord) (why : SealReason) : (c.writeSeal d r why).InOrder :=
  (h.onEngine (by rfl)).issue d _ _ (by rfl)

theorem Core.InOrder.beginSeal (h : c.InOrder) (d : DriveId) (r : SideRecord) (why : SealReason) :
    (c.beginSeal d r why).InOrder := by
  have staged : (c.stageHead.onEngine (fun g => { g with sealing := some why })).InOrder := h.stageHead.onEngine (by rfl)
  exact .ite (staged.writeSeal d r why) (staged.beginFlush d r)

theorem Core.InOrder.attempt (h : c.InOrder) (d : DriveId) (r : SideRecord) (p : PendingEntry) : (c.attempt d r p).InOrder :=
  .ite (h.beginSeal d r _) (((h.setHead _).onEngine (by rfl)).issue d _ _ (by rfl))

theorem Core.InOrder.failAttempt (h : c.InOrder) (d : DriveId) (r : SideRecord) (p : PendingEntry) :
    (c.failAttempt d r p).InOrder := by
  have counted : (c.onEngine (fun g => { g with attempts := c.engine.attempts + 1 })).InOrder := h.onEngine (by rfl)
  exact .ite (counted.attempt d r p) (counted.beginSeal d r _)

/-! ### Commits and turns (R66, R70, R72) -/

theorem Core.InOrder.commit (h : c.InOrder) (sd : Side) (p : PendingEntry) (start : Option Nat) :
    (c.commit sd p start).InOrder := by
  unfold Core.commit
  extract_lets en c1
  have recorded : (c1.onSide sd (·.commit p.rn en.sectors)).InOrder := Core.InOrder.onSide (c := c1) h sd _
  exact Core.InOrder.onEngine (c := (c1.onSide sd (·.commit p.rn en.sectors)).notify p.link _) recorded (by rfl)

theorem Core.InOrder.courtesyHandOver (h : c.InOrder) (p : PendingEntry) : (courtesyHandOver e c p).InOrder := by
  unfold Machine.courtesyHandOver
  split
  · exact .ite h h
  · exact h

/-- The job whose turn it is holds its claim, and its state is one of work (R70). -/
theorem Core.InOrder.giveTurn (h : c.InOrder) : (giveTurn e c).InOrder := by
  unfold Machine.giveTurn
  split
  · next id _ =>
    refine Core.InOrder.onEngine (h.onJob_working id (fun j => ?_) (by rfl) (by rfl)) (by rfl)
    show j.state.given = _ ∨ j.state.given = _ ∨ j.state.given = _
    cases j.state <;> simp [JobState.given]
  · exact h.chooseAgain

theorem Core.InOrder.afterCommit (h : c.InOrder) (sd : Side) : (afterCommit e c sd).InOrder := by
  unfold Machine.afterCommit
  refine .ite ?_ h.giveTurn
  split
  · exact h.beginFlush _ _
  · exact h.onEngine (by rfl)

theorem Core.InOrder.placeholderCommit (h : c.InOrder) : (placeholderCommit e c).InOrder := by
  unfold Machine.placeholderCommit
  split
  · exact (h.commit _ _ none).afterCommit _
  · exact h

/-! ### MOUNTING (R61) -/

theorem Core.InOrder.serveHead (h : c.InOrder) (d : DriveId) (sd : Side) (r : SideRecord) : (serveHead e c d sd r).InOrder := by
  unfold Machine.serveHead
  split
  · exact h.chooseAgain
  · split
    · exact .ite (h.beginSeal d r _) ((h.commit sd _ none).afterCommit sd)
    · exact h.chooseAgain
    · exact h.attempt d r _

theorem Core.InOrder.serveOpen (h : c.InOrder) (d : DriveId) (sd : Side) (r : SideRecord) : (serveOpen e c d sd r).InOrder := by
  unfold Machine.serveOpen
  refine .ite (h.beginFlush d r) (.ite (h.issue d _ _ (by rfl)) (.ite (h.writeSeal d r _) ?_))
  split
  · exact h.beginSeal d r _
  · exact .ite (h.beginFlush d r) (h.serveHead d sd r)

theorem Core.InOrder.writeHeader (h : c.InOrder) (d : DriveId) (sel : Selection) (p : PendingEntry) :
    (c.writeHeader d sel p).InOrder := h.issue d _ _ (by rfl)

theorem Core.InOrder.serveClaim (h : c.InOrder) {d : DriveId} {c' : Core} (hs : serveClaim e c d = some c') : c'.InOrder := by
  unfold Machine.serveClaim at hs
  split at hs
  · cases hs
  · split at hs
    · cases hs
      exact h.engineRelease
    · split at hs <;> cases hs
      · exact h.serveOpen d _ _
      · exact h.writeHeader d _ _
      · exact h.engineRelease

theorem Core.InOrder.askSelection (h : c.InOrder) : (askSelection e c).InOrder := by
  unfold Machine.askSelection
  split
  · next sel _ => exact Core.InOrder.clearAlarm (c := { c with selection := some sel }) h .noBlank
  · exact (h.setAlarm _).engineRest _

theorem Core.isRequester_iff (c : Core) (r : Requester) : c.isRequester r = true ↔ r ∈ c.requesters := by
  simp [Core.isRequester, Core.requesters]

theorem Core.InOrder.mountingStep (h : c.InOrder) {c' : Core} (hs : mountingStep e c = some c') : c'.InOrder := by
  unfold Machine.mountingStep at hs
  split at hs
  · exact h.serveClaim hs
  · next unclaimed =>
    split at hs
    · cases hs
      exact h.placeholderCommit
    · split at hs
      · cases hs
        exact Core.InOrder.engineRest (h.onEngine (by rfl)) _
      · split at hs
        · cases hs
          exact h.askSelection
        · split at hs
          · cases hs
          · next notYet =>
            cases hs
            exact h.request ⟨fun hw => notYet ((c.isRequester_iff _).mpr hw), unclaimed⟩ _

theorem Core.InOrder.restStep (h : c.InOrder) {c' : Core} (hs : restStep e c = some c') : c'.InOrder := by
  unfold Machine.restStep at hs
  extract_lets next at hs
  clear_value next
  split at hs
  · cases hs
  · split at hs <;> cases hs
    · exact h.onEngine (by rfl)
    · exact h.engineRest _

theorem Core.InOrder.engineStep (h : c.InOrder) {c' : Core} (hs : engineStep e c = some c') : c'.InOrder := by
  unfold Machine.engineStep at hs
  split at hs
  · cases hs
  · cases hs
  · cases hs
  · cases hs
  · cases hs
  · split at hs <;> cases hs
    exact h.chooseAgain
  · split at hs
    · split at hs <;> cases hs
      exact h.onEngine (by rfl)
    · split at hs
      · exact h.mountingStep hs
      · exact h.restStep hs

/-! ### Completions on the open side (R7 to R12, R63 to R69, R78) -/

theorem Core.InOrder.instrumentWritten (h : c.InOrder) (d : DriveId) (r : WriteResult) : (instrumentWritten c d r).InOrder := by
  unfold Machine.instrumentWritten
  split
  · simp only
    split
    · exact (((h.onSide _ _).setHead _).onEngine (by rfl)).issue d _ _ (by rfl)
    · exact (h.onSide _ _).failAttempt d _ _
  · exact h

theorem Core.InOrder.extentVerified (h : c.InOrder) (d : DriveId) (r : ReadResult) : (extentVerified e c d r).InOrder := by
  unfold Machine.extentVerified
  split
  · exact .ite ((((h.commit _ _ _).courtesyHandOver _).onEngine (by rfl)).afterCommit _) ((h.onSide _ _).failAttempt d _ _)
  · exact h

theorem Core.InOrder.faultHeader (h : c.InOrder) : c.faultHeader.InOrder := by
  unfold Core.faultHeader
  split
  · next sel _ =>
    exact Core.InOrder.evalSuspect (c := { c.onSide sel.side (fun _ => .headerFault sel.openSeq) with selection := none })
      (h.onSide _ _)
  · exact h

theorem Core.InOrder.headerWritten (h : c.InOrder) (d : DriveId) (r : WriteResult) : (headerWritten e c d r).InOrder := by
  unfold Machine.headerWritten
  split
  · exact h.faultHeader.engineRelease
  · split
    · next sel p _ _ _ =>
      have opened := h.onSide sel.side (fun _ => .opened sel.openSeq p.rn)
      exact opened.setDrive d (f := fun x => { x with filingFlag := true }) (by rfl)
    · exact h

theorem Core.InOrder.endSeal (h : c.InOrder) (d : DriveId) (good : Bool) : (c.endSeal d good).InOrder := by
  unfold Core.endSeal
  split
  · next q why _ _ =>
    have sealed : ((c.onSide q.1 (·.sealed why good)).onDrive d (fun x => { x with filingFlag := false })).InOrder :=
      (h.onSide _ _).setDrive d (by rfl)
    exact Core.InOrder.onEngine (.ite sealed.evalSuspect sealed) (by rfl)
  · exact h

theorem Core.InOrder.sealWritten (h : c.InOrder) (d : DriveId) (r : WriteResult) : (sealWritten e c d r).InOrder :=
  (h.endSeal d _).engineRelease.chooseAgain

theorem Core.InOrder.endFlush (h : c.InOrder) (d : DriveId) (sd : Side) (r : SideRecord) (verified : Bool) :
    (endFlush e c d sd r verified).InOrder := by
  unfold Machine.endFlush
  split
  · extract_lets flushing c1 c2
    have flushed : ((c.onSide sd (fun x => { x with flushed := x.flushed + 1 })).onEngine
      (fun g => { g with flush := none, flushRetryMark := false })).InOrder := (h.onSide _ _).onEngine (by rfl)
    have told : c2.InOrder := Core.InOrder.clearAlarm (c := c1) flushed .directoryFault
    split
    · exact told.writeSeal d _ _
    · exact told.giveTurn
  · exact ((h.stageHead.setAlarm _).onEngine (by rfl)).engineRest _

theorem Core.InOrder.flushNext (h : c.InOrder) (d : DriveId) (r : SideRecord) (step : FlushStep) (aOk : Bool) :
    (c.flushNext d r step aOk).InOrder := by
  unfold Core.flushNext
  cases step <;> exact (h.onEngine (by rfl)).issue d _ _ (by rfl)

theorem Core.InOrder.flushDone (h : c.InOrder) {d : DriveId} {r : FlushResult} {c' : Core} (hs : flushDone e c d r = some c') :
    c'.InOrder := by
  unfold Machine.flushDone at hs
  split at hs
  · split at hs <;> cases hs
    · exact h.flushNext d _ _ _
    · exact h.flushNext d _ _ _
    · exact h.flushNext d _ _ _
    · exact h.flushNext d _ _ _
    · exact h.endFlush d _ _ _
    · exact h.endFlush d _ _ _
  · cases hs

theorem Core.InOrder.restartFound (h : c.InOrder) (f : FindResult) : (restartFound c f).InOrder := by
  unfold Machine.restartFound
  split
  · exact (h.onSide _ _).onEngine (by rfl)
  · exact h

/-! ### The engine and a side rebuilt as OPEN, and a drive fault (R75, R161, R162) -/

theorem Core.InOrder.dropSelection (h : c.InOrder) : c.dropSelection.InOrder := by
  unfold Core.dropSelection
  split
  · exact .ite h.faultHeader h
  · exact h

theorem Core.InOrder.engineLetGo (h : c.InOrder) : (engineLetGo e c).InOrder := by
  have released : (((c.dropSelection.stageHead).engineRelease e).dropRequester .engine).InOrder :=
    (h.dropSelection.stageHead.engineRelease).dropRequester .engine
  exact released.onEngine (Core.engineRelease_claim e c.dropSelection.stageHead).symm

theorem Core.InOrder.engineTimeout (h : c.InOrder) (d : DriveId) (user : Option OpUser) : (c.engineTimeout d user).InOrder := by
  unfold Core.engineTimeout
  split
  · exact h.onSide _ _
  · exact h.onSide _ _
  · exact h.faultHeader
  · exact h.endSeal d false
  · exact h

theorem Core.InOrder.engineFault (h : c.InOrder) (d : DriveId) (user : Option OpUser) (waits : Bool) :
    (engineFault e c d user waits).InOrder := by
  have free : ((((c.engineTimeout d user).stageHead).engineRelease e).onEngine
      (fun g => { g with attempts := 0, flush := none })).InOrder :=
    (h.engineTimeout d user).stageHead.engineRelease.onEngine (by rfl)
  exact .ite (.ite (free.engineRest _) free.chooseAgain) (.ite (Core.InOrder.engineRest (h.onEngine (by rfl)) _) h)

end

end Sys2Proof.Machine
end

section
/-! SUPPORT. What imports, exports and inventories keep of the order of queue and claims (chapter 8). They reach the queue only by
the jobs placed or resolved again, and the engine only by its letting go of a side. -/

namespace Sys2Proof.Machine

section
variable {e : Fixed} {c : Core}

/-! ### Imports and exports (R149 to R157) -/

theorem Core.InOrder.onImport (h : c.InOrder) (f : ImportOp → ImportOp) : (c.onImport f).InOrder := h
theorem Core.InOrder.withImport (h : c.InOrder) (x : Option ImportOp) : Core.InOrder { c with importOp := x } := h
theorem Core.InOrder.withExport (h : c.InOrder) (x : Option ExportOp) : Core.InOrder { c with exportOp := x } := h
theorem Core.InOrder.onInventory (h : c.InOrder) (f : Inventory → Inventory) : (c.onInventory f).InOrder := h
theorem Core.InOrder.onReading (h : c.InOrder) (f : Reading → Reading) : (c.onReading f).InOrder := h

theorem Core.InOrder.unbindReady (h : c.InOrder) (d : DriveId) (b : Binding) : (c.unbindReady e d b).InOrder :=
  ((h.endBoundMount b).setDrive d (by rfl)).startIdle d

theorem Core.InOrder.place (h : c.InOrder) (d : DriveId) (v : SlotId) : (c.place d v).InOrder := (h.setLoc _ _).seat d _

theorem Core.InOrder.importCourse (h : c.InOrder) (op : ImportOp) (d : DriveId) (v : SlotId) (o : MediaOutcome) :
    (importCourse e c op d v o).InOrder :=
  .ite (((h.unbindReady d _).withImport none).wakeJobs.reselect.mediaDone _ _ _) ((h.onImport _).beginUnload d)

theorem Core.InOrder.importJudged (h : c.InOrder) (op : ImportOp) (d : DriveId) (j : Judgement) :
    (importJudged e c op d j).InOrder := by
  unfold Machine.importJudged
  split
  · exact (h.place d _).importCourse op d _ _
  · exact ((h.setVol _ _).place d _).importCourse op d _ _
  · exact (h.onImport _).beginUnload d

theorem Core.InOrder.importMount (h : c.InOrder) (op : ImportOp) : (c.importMount op).InOrder :=
  (h.withImport _).newMount _ _ _ _ _ _ _

theorem Core.InOrder.importStep (h : c.InOrder) {c' : Core} (hs : importStep e c = some c') : c'.InOrder := by
  unfold Machine.importStep at hs
  split at hs
  · split at hs <;> cases hs
    exact h.importMount _
  · cases hs

theorem Core.InOrder.importReadHeader (h : c.InOrder) (d : DriveId) (phase : ImportPhase) : (c.importReadHeader d phase).InOrder :=
  (h.onImport _).issue d _ _ (by rfl)

theorem Core.InOrder.importRead (h : c.InOrder) (op : ImportOp) (d : DriveId) (r : ReadResult) :
    (importRead e c op d r).InOrder := by
  unfold Machine.importRead
  refine .ite ?_ ?_
  · split
    · exact h.importJudged op d _
    · exact h
  · simp only
    split
    · exact h.importJudged op d _
    · exact (h.onImport _).beginUnload d

theorem Core.InOrder.beginExport (h : c.InOrder) {op : ExportOp} {c' : Core} (hs : c.beginExport op = some c') : c'.InOrder := by
  unfold Core.beginExport at hs
  split at hs
  · cases hs
    exact (h.withExport _).joinMove _ _ _ _ _ _
  · next d _ _ =>
    simp only at hs
    split at hs <;> cases hs
    exact ((h.withExport _).setDrive d (by rfl)).beginUnload d
  · cases hs

theorem Core.InOrder.faultExport (h : c.InOrder) (op : ExportOp) : (c.faultExport op).InOrder := h

theorem Core.InOrder.exportStep (h : c.InOrder) {c' : Core} (hs : exportStep c = some c') : c'.InOrder := by
  unfold Machine.exportStep at hs
  split at hs
  · split at hs
    · cases hs
    · split at hs
      · cases hs
        exact h.faultExport _
      · exact h.beginExport hs
  · cases hs

/-! ### A cartridge enrolled, judged and settled (R159 to R161) -/

theorem Core.InOrder.demoteOpen (h : c.InOrder) : c.demoteOpen.InOrder := by
  unfold Core.demoteOpen
  split
  · next sd _ _ =>
    have unflagged (x : Drive) : x.SameClaims (if x.loaded = some sd then { x with filingFlag := false } else x) := by
      split <;> exact Drive.sameClaims rfl rfl rfl
    have drives : (c.onSide sd (·.ended)).drives = c.drives := by
      unfold Core.onSide
      split <;> rfl
    rw [← drives]
    exact (h.onSide sd _).mapDrives unflagged
  · exact h

theorem Core.InOrder.enrolRebuilt (h : c.InOrder) (d : DriveId) (v : SlotId) (a b : FaceResult) :
    (enrolRebuilt e c d v a b).InOrder := by
  unfold Machine.enrolRebuilt
  extract_lets ra rb label c0 c1 c2
  have let_go : c0.InOrder := .ite h.engineLetGo h
  have demoted : c1.InOrder := .ite let_go.demoteOpen let_go
  exact (((demoted.setVol v _).place d v).evalSuspect).onInventory _

theorem Core.InOrder.endReading (h : c.InOrder) : c.endReading.InOrder := h
theorem Core.InOrder.setOut (h : c.InOrder) (d : DriveId) : (c.setOut d).InOrder := (h.onReading _).beginUnload d
theorem Core.InOrder.placeLost (h : c.InOrder) (d : DriveId) (v : SlotId) : (c.placeLost d v).InOrder := (h.place d v).onInventory _
theorem Core.InOrder.makeOut (h : c.InOrder) (v : SlotId) : (c.makeOut v).InOrder := (h.setLoc v _).onInventory _

theorem Core.InOrder.inventoryCourse (h : c.InOrder) (d : DriveId) (v : SlotId) : (inventoryCourse e c d v).InOrder :=
  .ite (h.unbindReady d _).endReading ((h.onReading _).beginUnload d)

theorem Core.InOrder.settleVacant (h : c.InOrder) (v : SlotId) : (c.settleVacant v).InOrder :=
  .ite ((h.makeVacant v).onInventory _) h

theorem Core.InOrder.judgeDrive (h : c.InOrder) (i : Inventory) (d : DriveId) (a b : FaceResult) :
    (judgeDrive e c i d a b).InOrder := by
  unfold Machine.judgeDrive
  split
  · exact ((h.placeLost d _).unbindReady d _).endReading
  · refine .ite (h.setOut d) ?_
    split
    · exact ((h.enrolRebuilt d _ a b).unbindReady d _).endReading
    · exact h.setOut d

theorem Core.InOrder.judgeSlot (h : c.InOrder) (d : DriveId) (v : SlotId) (a b : FaceResult) : (judgeSlot e c d v a b).InOrder := by
  unfold Machine.judgeSlot
  refine .ite ?_ (.ite (.ite ((h.settleVacant v).setOut d) ((h.enrolRebuilt d v a b).inventoryCourse d v)) (h.setOut d))
  split
  · exact .ite ((h.placeLost d v).inventoryCourse d v) ((h.makeOut v).setOut d)
  · exact h

theorem Core.InOrder.judgeCartridge (h : c.InOrder) (i : Inventory) (rd : Reading) (d : DriveId) (a b : FaceResult) :
    (judgeCartridge e c i rd d a b).InOrder := by
  unfold Machine.judgeCartridge
  split
  · exact h.judgeSlot d _ a b
  · exact h.judgeDrive i d a b

/-! ### The operations of a face (R161) -/

theorem Core.InOrder.issueScan (h : c.InOrder) (d : DriveId) (s : Scan) : (c.issueScan d s).InOrder := by
  unfold Core.issueScan
  cases s.step <;> exact (h.onReading _).issue d _ _ (by rfl)

theorem Core.InOrder.faceDone (h : c.InOrder) (i : Inventory) (rd : Reading) (d : DriveId) (s : Scan) :
    (faceDone e c i rd d s).InOrder := by
  unfold Machine.faceDone
  extract_lets f res a b c1
  have read : c1.InOrder := h.onReading _
  clear_value c1 a b
  split
  · exact read.judgeCartridge i rd d _ _
  · exact (read.onReading _).beginUnload d

theorem Core.InOrder.scanNext (h : c.InOrder) (i : Inventory) (rd : Reading) (d : DriveId) (s : Scan) :
    (scanNext e c i rd d s).InOrder :=
  .ite (h.issueScan d _) (h.faceDone i rd d s)

theorem Core.InOrder.scanHeader (h : c.InOrder) (i : Inventory) (rd : Reading) (d : DriveId) (r : ReadResult) :
    (scanHeader e c i rd d r).InOrder := by
  unfold Machine.scanHeader
  extract_lets hd f c1
  have shown : c1.InOrder := h.setDrive d (by rfl)
  clear_value c1 f hd
  split
  · exact shown.faceDone i rd d _
  · exact shown.issueScan d _
  · exact shown.issueScan d _

theorem Core.InOrder.scanSector (h : c.InOrder) (i : Inventory) (rd : Reading) (d : DriveId) (r : ReadResult) :
    (scanSector e c i rd d r).InOrder := by
  unfold Machine.scanSector
  simp only
  split
  · exact h.scanNext i rd d _
  · exact .ite (h.scanNext i rd d _) (h.issueScan d _)

theorem Core.InOrder.inventoryRead (h : c.InOrder) {i : Inventory} {rd : Reading} {d : DriveId} {r : ReadResult} {c' : Core}
    (hs : inventoryRead e c i rd d r = some c') : c'.InOrder := by
  unfold Machine.inventoryRead at hs
  split at hs <;> cases hs
  · exact h.scanHeader i rd d r
  · exact h.issueScan d _
  · exact h.scanSector i rd d r

theorem Core.InOrder.inventoryFind (h : c.InOrder) {i : Inventory} {rd : Reading} {d : DriveId} {f : FindResult} {c' : Core}
    (hs : inventoryFind e c i rd d f = some c') : c'.InOrder := by
  unfold Machine.inventoryFind at hs
  simp only at hs
  split at hs <;> cases hs
  · exact .ite (h.faceDone i rd d _) (h.issueScan d _)
  · exact h.issueScan d _
  · exact h.scanNext i rd d _

/-! ### The course and the end of an inventory (R159, R160, R162) -/

theorem Core.InOrder.inventoryLoad (h : c.InOrder) (d : DriveId) : (c.inventoryLoad d).InOrder :=
  (h.setDrive d (by rfl)).beginLoad d

theorem Core.InOrder.probeStep (h : c.InOrder) {i : Inventory} {c' : Core} (hs : probeStep c i = some c') : c'.InOrder := by
  unfold Machine.probeStep at hs
  split at hs
  · cases hs
  · split at hs <;> cases hs
    · exact h.joinMove _ _ _ _ _ _
    · exact h.onInventory _

theorem Core.InOrder.driveStep (h : c.InOrder) {c' : Core} (hs : driveStep c = some c') : c'.InOrder := by
  unfold Machine.driveStep at hs
  split at hs
  · simp only at hs
    split at hs <;> cases hs
    exact (h.onInventory _).inventoryLoad _
  · cases hs
    exact h.onInventory _

theorem Core.InOrder.settleEmpty (h : c.InOrder) (v : SlotId) : (c.settleEmpty v).InOrder :=
  .ite (h.settleVacant v) (.ite (h.makeOut v) h)

theorem Core.InOrder.slotStep (h : c.InOrder) {i : Inventory} {v : SlotId} {c' : Core} (hs : slotStep e c i v = some c') :
    c'.InOrder := by
  unfold Machine.slotStep at hs
  extract_lets c1 at hs
  have next : c1.InOrder := h.onInventory _
  clear_value c1
  split at hs
  · cases hs
    exact next
  · split at hs
    · cases hs
      exact next
    · cases hs
      exact next.settleEmpty v
    · split at hs <;> cases hs
      exact (next.onInventory _).newMount _ _ _ _ _ _ _

theorem Core.InOrder.readAgain (h : c.InOrder) {rd : Reading} {c' : Core} (hs : readAgain c rd = some c') : c'.InOrder := by
  unfold Machine.readAgain at hs
  split at hs
  · simp only at hs
    split at hs <;> cases hs
    exact (h.onReading _).inventoryLoad _
  · cases hs

theorem Core.InOrder.giveSeq (h : c.InOrder) (sd : Side) : (c.giveSeq sd).InOrder := by
  unfold Core.giveSeq
  split
  · exact .ite (h.onSide sd _) h
  · exact h

theorem Core.InOrder.countBuffer (h : c.InOrder) (i : Inventory) : (c.countBuffer i).InOrder := by
  unfold Core.countBuffer
  split
  · exact .ite (h.onSide _ _) h
  · exact h

theorem Core.InOrder.dropCommittedHead (h : c.InOrder) : c.dropCommittedHead.InOrder := by
  unfold Core.dropCommittedHead
  split
  · split
    · exact .ite h h
    · exact h
  · exact h

theorem Core.InOrder.endInventory (h : c.InOrder) (i : Inventory) : (endInventory e c i).InOrder := by
  unfold Machine.endInventory
  extract_lets c1 c2 c3 c4 c5
  have given : (allSides.foldl Core.giveSeq c).InOrder := h.foldl (f := Core.giveSeq) (fun _ sd hc => hc.giveSeq sd) allSides
  have counted : c2.InOrder := .ite (given.countBuffer i).dropCommittedHead (given.countBuffer i)
  clear_value c2
  have woken : c4.InOrder :=
    Core.InOrder.evalSuspect (Core.InOrder.wakeJobs (c := { c2 with rebuilding := false, inventory := none }) counted)
  have chosen : c5.InOrder := .ite (woken.clearAlarm _) woken.reselect
  split
  · exact chosen.emit _ _
  · exact chosen

theorem Core.InOrder.inventoryStep (h : c.InOrder) {c' : Core} (hs : inventoryStep e c = some c') : c'.InOrder := by
  unfold Machine.inventoryStep at hs
  split at hs
  · cases hs
  · split at hs
    · cases hs
    · split at hs
      · exact h.readAgain hs
      · split at hs
        · exact h.probeStep hs
        · exact h.driveStep hs
        · split at hs
          · exact h.slotStep hs
          · cases hs
            exact h.endInventory _

end

end Sys2Proof.Machine
end

section
/-! SUPPORT. What Drive and Picker Control keeps of the order of queue and claims: mount requests and the claims they lead to, the
arbiter, drive faults, probes, completions, moves and recoveries (chapter 2), and with them all that the blocks do of themselves. -/

namespace Sys2Proof.Machine

section
variable {e : Fixed} {c : Core}

/-! ### Mount requests (R30, R35, R88) -/

/-- Whoever asks for a side is told that it is READY, and takes its claim. -/
theorem Core.InOrder.grantSide (h : c.InOrder) (d : DriveId) {r : Requester} (ha : c.Asks r) : (c.grantSide d r).InOrder := by
  cases r with
  | engine => exact h.claimEngine d ha
  | job id => exact h.claimJob d ha

/-- The others who ask go on asking. -/
theorem Core.Asks.grantSide {r k : Requester} (hk : c.Asks k) (d : DriveId) (hr : k ≠ r) : (c.grantSide d r).Asks k := by
  cases r with
  | engine =>
    cases k with
    | engine => exact absurd rfl hr
    | job i => exact hk
  | job id =>
    cases k with
    | engine => exact hk
    | job i => exact ⟨hk.1, unclaimed_onJob (fun hid => hr (congrArg Requester.job hid)) hk.2⟩

/-- A request that is acted on leaves the waiting requests, and its requester asks (R30). -/
theorem Core.InOrder.takeRequest (h : c.InOrder) {q : MountRequest} (hq : q ∈ c.requests) :
    Core.InOrder { c with requests := c.requests.erase q } ∧ Core.Asks { c with requests := c.requests.erase q } q.who := by
  have split : c.requesters.Perm (q.who :: Core.requesters { c with requests := c.requests.erase q }) := by
    have requests := (List.perm_cons_erase hq).map (·.who)
    exact requests.append_right _
  obtain ⟨once, may⟩ := waitersInOrder_iff.mp h.waiters
  refine ⟨h.withWaiters h.mounts ((List.sublist_cons_self ..).subperm.trans split.symm.subperm), ?_,
    may _ (split.mem_iff.mpr (List.mem_cons_self ..))⟩
  exact (List.nodup_cons.mp (split.nodup_iff.mp once)).1

/-- One who waits, or asks, shows another state. -/
theorem Core.InOrder.setWaiting (h : c.InOrder) {r : Requester} (hm : MayWait c.queue c.engine.claim r) (st : JobState) :
    (c.setWaiting r st).InOrder := by
  cases r with
  | engine => exact h
  | job id => exact h.onJob_free id (h.waiting_free hm) (by rfl) (by exact fun _ _ hs => hs)

theorem Core.InOrder.refuseMount (h : c.InOrder) {q : MountRequest} (ha : c.Asks q.who) : (c.refuseMount q).InOrder := by
  unfold Core.refuseMount
  split
  · exact h
  · next id hid => exact h.placeJob (hid ▸ ha) _

theorem Core.InOrder.act (h : c.InOrder) {q : MountRequest} (hq : q ∈ c.requests) (a : Answer) : (c.act q a).InOrder := by
  obtain ⟨left, asks⟩ := h.takeRequest hq
  unfold Core.act
  split
  · exact left.grantSide _ asks
  · exact (left.joinMount asks _).setWaiting asks.2 _
  · exact (left.newMountFor asks _ _ _ _ _ _ _).setWaiting asks.2 _
  · exact (left.newMountFor asks _ _ _ _ _ _ _).setWaiting asks.2 _
  · exact left.refuseMount asks
  · exact left

theorem Core.InOrder.beginSpinUp (h : c.InOrder) (d : DriveId) : (c.beginSpinUp d).InOrder :=
  (h.setDrive d (by rfl)).issue d _ _ (by rfl)

theorem Core.InOrder.serveRequest (h : c.InOrder) {q : MountRequest} (hq : q ∈ c.requests) {c' : Core}
    (hs : serveRequest e c q = some c') : c'.InOrder := by
  have waits : MayWait c.queue c.engine.claim q.who :=
    (waitersInOrder_iff.mp h.waiters).2 _ (List.mem_append_left _ (List.mem_map_of_mem hq))
  unfold Machine.serveRequest at hs
  split at hs
  · cases hs
    exact (h.beginSpinUp _).setWaiting waits _
  · split at hs <;> cases hs
    exact h.setWaiting waits _
  · split at hs <;> cases hs
    exact h.setWaiting waits _
  · cases hs
    exact h.act hq _

theorem Core.InOrder.requestStep (h : c.InOrder) {c' : Core} (hs : requestStep e c = some c') : c'.InOrder := by
  obtain ⟨q, hq, served⟩ := List.exists_of_findSome?_eq_some hs
  exact h.serveRequest hq served

/-! ### Mount operations whose cartridge has gone elsewhere, heads of the service orders -/

/-- The mount operation of an arrival number is one of those there are, of that number. -/
theorem Core.mount_some {n : Nat} {m : MountOp} (hm : c.mount n = some m) : m ∈ c.mounts ∧ m.arrival = n :=
  ⟨List.mem_of_find?_eq_some hm, by simpa using List.find?_some (p := fun m : MountOp => m.arrival == n) hm⟩

theorem Core.InOrder.replan (h : c.InOrder) {m : MountOp} (hm : m ∈ c.mounts) (sd : Side) : (c.replan m sd).InOrder := by
  unfold Core.replan
  extract_lets c1
  have emptied : c1.InOrder ∧ m ∈ c1.mounts := by
    unfold c1
    split
    · exact ⟨h.emptyDrive _, hm⟩
    · exact ⟨h, hm⟩
  clear_value c1
  split
  · exact Core.InOrder.onMount (c := c1.onMountMove m.arrival _) emptied.1 _ (by rfl)
  · exact emptied.1.dissolveMount emptied.2

theorem Core.InOrder.replanStep (h : c.InOrder) {c' : Core} (hs : replanStep c = some c') : c'.InOrder := by
  unfold Machine.replanStep at hs
  obtain ⟨m, hm, replanned⟩ := Option.bind_eq_some_iff.mp hs
  split at replanned <;> cases replanned
  exact h.replan (List.mem_of_find?_eq_some hm) _

/-- The job of an id is one of the queue, of that id. -/
theorem Core.job_some {id : JobId} {j : Job} (hj : c.job id = some j) : j ∈ c.queue ∧ j.id = id :=
  ⟨List.mem_of_find?_eq_some hj, by simpa using List.find?_some (p := fun j : Job => j.id == id) hj⟩

/-- The head of a service order holds its claim on the drive (R28). -/
theorem Core.InOrder.head_claim (h : c.InOrder) {d : DriveId} {j : Job} (hj : c.head d = some j) : HoldsClaim c.queue j.id d := by
  unfold Core.head at hj
  split at hj
  · cases hj
  · next id ids service =>
    rw [(Core.job_some hj).2]
    exact ((h.drive d).2.1 id).mp (service ▸ List.mem_cons_self ..)

theorem Core.InOrder.headStep (h : c.InOrder) {d : DriveId} {c' : Core} (hs : headStep e c d = some c') : c'.InOrder := by
  unfold Machine.headStep at hs
  split at hs
  · next usable =>
    split at hs
    · next j hj =>
      have claim := h.head_claim hj
      split at hs
      · split at hs <;> cases hs
        exact h.onJob_working j.id (fun _ => .inr (.inl rfl)) (by rfl) (by rfl)
      · cases hs
        have quiet : (c.drives.get d).reader = none := by
          have op : (c.drv d).op = none := by simpa using (Bool.and_eq_true_iff.mp usable).2
          rw [Drive.reader, show (c.drives.get d).op = none from op]
          rfl
        exact h.readEntry ⟨claim, h.noRead_of_claim claim quiet⟩
      · cases hs
    · cases hs
  · cases hs

theorem Core.InOrder.headsStep (h : c.InOrder) {c' : Core} (hs : headsStep e c = some c') : c'.InOrder := by
  obtain ⟨d, -, hd⟩ := List.exists_of_findSome?_eq_some hs
  exact h.headStep hd

/-! ### The picker arbiter (R31, R34, R37) -/

theorem Core.InOrder.startMove (h : c.InOrder) (m : Move) (dst : Position) : (c.startMove m dst).InOrder := by
  have started (m' : Motion) : (({ c with moves := c.moves.erase m }.depart m.src dst m.carries).beginMotion m').InOrder :=
    (Core.InOrder.depart (c := { c with moves := c.moves.erase m }) h m.src dst m.carries).beginMotion m'
  unfold Core.startMove
  simp only
  split
  · exact (started _).onMount _ (by rfl)
  · exact started _

theorem Core.InOrder.bindFree (h : c.InOrder) (m : Move) (n : Nat) (d : DriveId) (f : Face) : (c.bindFree m n d f).InOrder :=
  ((h.setDrive d (by rfl)).onMount n (by rfl)).startMove m _

theorem Core.InOrder.bindEvict (h : c.InOrder) (m : Move) (n : Nat) (d : DriveId) (f : Face) : (c.bindEvict m n d f).InOrder := by
  have bound : (((c.onDrive d (fun x => { x with bound := some (.mount n) })).onMount n
    (fun op => { op with drive := some d, step := .evicting })).beginUnload d).InOrder :=
    ((h.setDrive d (by rfl)).onMount n (by rfl)).beginUnload d
  exact bound

theorem Core.InOrder.bindSwap (h : c.InOrder) (n : Nat) (d : DriveId) : (c.bindSwap n d).InOrder :=
  ((h.setDrive d (by rfl)).onMount n (by rfl)).beginUnload d

theorem Core.InOrder.take (h : c.InOrder) (m : Move) : (c.take m).InOrder := by
  unfold Core.take
  split
  · split
    · exact h.bindFree _ _ _ _
    · exact h.bindEvict _ _ _ _
    · exact h
  · exact .ite (h.bindSwap _ _) (h.startMove m _)
  · exact h.startMove m _
  · exact h

theorem Core.InOrder.arbiterStep (h : c.InOrder) {c' : Core} (hs : arbiterStep e c = some c') : c'.InOrder := by
  unfold Machine.arbiterStep at hs
  split at hs
  · obtain ⟨m, -, rfl⟩ := Option.map_eq_some_iff.mp hs
    exact h.take m
  · cases hs

/-! ### All that the blocks do of themselves (notes/assumptions/8.md) -/

theorem Core.InOrder.startStep (h : c.InOrder) {c' : Core} (hs : startStep e c = some c') : c'.InOrder := by
  unfold Machine.startStep at hs
  split at hs
  · cases hs
    have settled : (Core.evalSuspect { c with startPhase := .settled }).InOrder :=
      Core.InOrder.evalSuspect (c := { c with startPhase := .settled }) h
    exact .ite settled settled
  · cases hs

theorem Core.InOrder.wakeStep (h : c.InOrder) {c' : Core} (hs : wakeStep e c = some c') : c'.InOrder := by
  unfold Machine.wakeStep at hs
  split at hs <;> cases hs
  exact h.wakeJobs

theorem Core.InOrder.reselectStep (h : c.InOrder) {c' : Core} (hs : reselectStep c = some c') : c'.InOrder := by
  unfold Machine.reselectStep at hs
  split at hs <;> cases hs
  exact h.reselect

theorem Core.InOrder.settleStep (h : c.InOrder) {c' : Core} (hs : settleStep e c = some c') : c'.InOrder := by
  have rule {a : Option Core} {f : Unit → Option Core} (ha : a = some c' → c'.InOrder) (hf : f () = some c' → c'.InOrder)
      (hs : a.orElse f = some c') : c'.InOrder := (orElse_cases hs).elim ha hf
  exact rule h.startStep (rule h.wakeStep (rule h.replanStep (rule h.reselectStep (rule h.importStep (rule h.exportStep
    (rule h.requestStep (rule h.headsStep (rule h.engineStep (rule h.inventoryStep h.arbiterStep))))))))) hs

theorem Core.InOrder.settle (h : c.InOrder) (n : Nat) : (settle n e c).InOrder :=
  settle_keeps Core.InOrder (fun _ _ hc hs => hc.settleStep hs) n c h

/-! ### Drive faults and start probes (R20, R25, R48) -/

/-- The jobs with a claim on a drive that is down end one after the other (R99). -/
theorem Core.InOrder.faultJobs (h : c.InOrder) {d : DriveId} (hd : c.downed d) : (faultJobs e c d).InOrder := by
  have all (js : List Job) : ∀ b : Core, b.InOrder → b.downed d →
      (∀ j ∈ js, ∀ k ∈ b.queue, k.id = j.id → k.drive = none ∨ k.drive = some d) →
      (js.foldl (fun b j => Machine.endFaulted e b j) b).InOrder := by
    induction js with
    | nil => exact fun _ hb _ _ => hb
    | cons j js ih =>
      intro b hb down claims
      have none_ : b.NoRead j.id := by
        refine hb.noRead fun k ⟨m, hm, hid, hmd⟩ => ?_
        rcases claims j (List.mem_cons_self ..) m hm hid with free | on
        · simp [free] at hmd
        · cases hmd.symm.trans on
          simp [Drive.reader, down.2.1]
      have kept : Core.FaultKept d b (Machine.endFaulted e b j) := .endFaulted j
      refine ih _ (hb.endFaulted none_) (kept.drive down) fun i hi k hk hid => ?_
      obtain ⟨m, hm, hmid, hdrive⟩ := kept.queue k hk
      refine hdrive.elim .inl fun hdrive => ?_
      rw [hdrive]
      exact claims i (List.mem_cons_of_mem _ hi) m hm (hmid.trans hid)
  refine all _ c h hd fun j hj k hk hid => .inr ?_
  obtain ⟨hmem, on⟩ := List.mem_filter.mp hj
  rw [h.bounds.same hk hmem hid]
  exact eq_of_beq on

theorem Core.InOrder.giveUpMount (h : c.InOrder) (d : DriveId) (n : Nat) : (c.giveUpMount d n).InOrder := by
  unfold Core.giveUpMount
  split
  · next op hop =>
    have waiting (f : Move → Move) : 
        ((c.onMountMove n f).onMount n (fun x => { x with drive := none, step := .waiting })).InOrder :=
      Core.InOrder.onMount (c := c.onMountMove n f) h n (by rfl)
    split
    · exact waiting _
    · exact h.onMount n (by rfl)
    · exact .ite (h.dissolveMount (Core.mount_some hop).1) h
    · exact waiting _
    · exact h
  · exact h

theorem Core.InOrder.faultReading (h : c.InOrder) : c.faultReading.InOrder := by
  unfold Core.faultReading
  split
  · split
    · exact h.endReading
    · exact h.onReading _
  · exact h

theorem Core.InOrder.faultBinding (h : c.InOrder) (d : DriveId) : (c.faultBinding d).InOrder := by
  unfold Core.faultBinding
  split
  · exact h.giveUpMount d _
  · exact h.mediaDone _ _ _
  · split
    · exact (h.withImport none).mediaDone _ _ _
    · exact h
  · split
    · exact h.faultExport _
    · exact h
  · exact h.faultReading
  · exact h

/-- A fault leaves no claim on its drive, so that the record it sets to none shows what stands (R25). -/
theorem Core.InOrder.driveFault (h : c.InOrder) (d : DriveId) (user : Option OpUser) : (driveFault e c d user).InOrder := by
  have faulting : (driveFaulting e c d user).InOrder := by
    have down : (c.onDrive d Drive.down).InOrder := h.endDrive d (by rfl)
    have downed : (c.onDrive d Drive.down).downed d := by
      unfold Core.downed
      rw [Core.onDrive_drives, Four.get_set_same]
      exact ⟨rfl, rfl, rfl⟩
    have told := ((down.faultJobs (e := e) downed).engineFault (e := e) d user (c.engineWaitsOn d)).faultBinding d
    unfold driveFaulting
    simp only
    split
    · exact told.endBoundMount _
    · exact told
  obtain ⟨-, engine, jobs, -⟩ := driveFaulting_kept e c d user
  rw [driveFault_eq]
  refine Core.InOrder.withDrives (c := driveFaulting e c d user) faulting fun k => ?_
  by_cases hk : k = d
  · subst hk
    obtain ⟨-, serves, count, -⟩ := faulting.drive k
    have none_ : ((driveFaulting e c k user).drives.get k).service = [] := by
      refine List.eq_nil_iff_forall_not_mem.mpr fun id hid => ?_
      obtain ⟨j, hj, -, on⟩ := (serves id).mp hid
      exact jobs j hj on
    rw [if_neg engine, none_] at count
    simp only [Four.get_set_same]
    exact Drive.sameClaims none_.symm count.symm rfl
  · simp only [Four.get_set_other _ _ _ _ hk]
    exact Drive.sameClaims rfl rfl rfl

theorem Core.InOrder.unplace (h : c.InOrder) (d : DriveId) : (c.unplace d).InOrder := by
  unfold Core.unplace
  split
  · exact h.setLoc _ _
  · exact h

theorem Core.InOrder.endProbe (h : c.InOrder) (d : DriveId) (st : DriveState) (unnamed : Bool) :
    (c.endProbe d st unnamed).InOrder := h.setDrive d (by rfl)

theorem Core.InOrder.probeRead (h : c.InOrder) (d : DriveId) (r : ReadResult) : (c.probeRead d r).InOrder := by
  unfold Core.probeRead
  extract_lets _ c1
  have named : c1.InOrder := by
    unfold c1
    split
    · exact h.seat d _
    · exact (h.unplace d).setDrive d (by rfl)
  exact (named.setDrive d (by rfl)).issue d _ _ (by rfl)

theorem Core.InOrder.nameProbed (h : c.InOrder) (d : DriveId) : (c.nameProbed d).InOrder := by
  unfold Core.nameProbed
  refine .ite h ?_
  split
  · exact h.seat d _
  · exact h.setDrive d (by rfl)

theorem Core.InOrder.probeFault (h : c.InOrder) (d : DriveId) : (c.probeFault d).InOrder :=
  ((h.nameProbed d).endDrive d (by rfl)).setAlarm _

/-! ### Completions of drive operations (R24, R29, R32, R33) -/

/-- The requesters of a mount operation take their claims at its end (R33, R88). -/
theorem Core.InOrder.mountReady (h : c.InOrder) (d : DriveId) (n : Nat) : (mountReady e c d n).InOrder := by
  have grant (rs : List Requester) : ∀ b : Core, b.InOrder → rs.Nodup → (∀ r ∈ rs, b.Asks r) →
      (rs.foldl (fun b r => b.grantSide d r) b).InOrder := by
    induction rs with
    | nil => exact fun _ hb _ _ => hb
    | cons r rs ih =>
      intro b hb once asks
      obtain ⟨fresh, once⟩ := List.nodup_cons.mp once
      refine ih _ (hb.grantSide d (asks r (List.mem_cons_self ..))) once fun k hk => ?_
      exact (asks k (List.mem_cons_of_mem _ hk)).grantSide d fun hkr => fresh (hkr ▸ hk)
  have ready : (((c.dropMount n).makeReady d).startIdle e d).InOrder := ((h.dropMount n).makeReady d).startIdle d
  unfold Machine.mountReady
  cases hm : c.mount n with
  | none => exact ready
  | some m =>
    obtain ⟨hmem, rfl⟩ := Core.mount_some hm
    have waiting : (m.requesters ++ (c.dropMount m.arrival).requesters).Subperm c.requesters := by
      refine List.Subperm.trans (List.Perm.subperm ?_) ((List.subperm_append_left _).mpr (requesters_dropMount hmem))
      exact List.perm_append_comm_assoc _ _ _
    obtain ⟨once, may⟩ := waitersInOrder_iff.mp (h.waiters.subperm waiting)
    obtain ⟨own, -, apart⟩ := List.nodup_append.mp once
    refine grant m.requesters _ ready own fun r hr => ⟨fun hw => apart r hr r hw rfl, ?_⟩
    exact may r (List.mem_append_left _ hr)

theorem Core.InOrder.loadGood (h : c.InOrder) (d : DriveId) : (loadGood e c d).InOrder := by
  unfold Machine.loadGood
  split
  · exact h.mountReady d _
  · exact ((h.makeReady d).startIdle d).mediaDone _ _ _
  · have ready : (c.onDrive d (fun x => { x with state := .ready })).InOrder := h.setDrive d (by rfl)
    simp only
    split
    · exact ready.importReadHeader d _
    · exact ready.importReadHeader d _
  · exact (h.setDrive d (by rfl)).issueScan d _
  · exact (h.makeReady d).startIdle d

theorem Core.InOrder.probeLoad (h : c.InOrder) (d : DriveId) (r : LoadResult) (second : Bool) :
    (probeLoad c d r second).InOrder := by
  unfold Machine.probeLoad
  split
  · exact (h.setDrive d (by rfl)).issue d _ _ (by rfl)
  · exact (h.unplace d).endProbe d _ _
  · exact .ite (h.probeFault d) (h.issue d _ _ (by rfl))

theorem Core.InOrder.loadDone (h : c.InOrder) (d : DriveId) (r : LoadResult) (o : DriveOp) : (loadDone e c d r o).InOrder := by
  unfold Machine.loadDone
  refine .ite (h.probeLoad d r _) ?_
  split
  · exact h.loadGood d
  · exact .ite (h.driveFault d none) (h.issue d _ _ (by rfl))

theorem Core.InOrder.spinDownDone (h : c.InOrder) (d : DriveId) (o : DriveOp) : (spinDownDone c d o).InOrder :=
  .ite (h.endProbe d _ _) (.ite (h.issue d _ _ (by rfl)) (h.setDrive d (by rfl)))

theorem Core.InOrder.joinReturn (h : c.InOrder) (d : DriveId) (n : Nat) : (c.joinReturn d n).InOrder := by
  unfold Core.joinReturn
  split <;> exact h

theorem Core.InOrder.ejectBound (h : c.InOrder) (d : DriveId) (b : Binding) : (ejectBound c d b).InOrder := by
  unfold Machine.ejectBound
  extract_lets src
  split
  · exact .ite (h.onMount _ (by rfl)) (h.joinReturn d _)
  · exact h.joinMove _ _ _ _ _ _
  · split
    · split
      · exact h.joinBoundMove _ _ _ _ _ _
      · exact h.joinBoundMove _ _ _ _ _ _
      · exact h.joinBoundMove _ _ _ _ _ _
      · exact h
    · exact h
  · split
    · exact h.joinMove _ _ _ _ _ _
    · exact h
  · split
    · split
      · exact h.joinBoundMove _ _ _ _ _ _
      · exact h.joinBoundMove _ _ _ _ _ _
      · exact h.joinBoundMove _ _ _ _ _ _
      · exact h
    · exact h

theorem Core.InOrder.ejectCleared (h : c.InOrder) (d : DriveId) (o : Orderer) : (ejectCleared c d o).InOrder := by
  unfold Machine.ejectCleared
  split
  · exact ((h.setDrive d (by rfl)).clearAlarm _).joinMove _ _ _ _ _ _
  · exact ((h.setDrive d (by rfl)).clearAlarm _).mediaDone _ _ _

theorem Core.InOrder.ejectDone (h : c.InOrder) (d : DriveId) : (ejectDone c d).InOrder := by
  unfold Machine.ejectDone
  simp only
  split
  · exact h.ejectCleared d _
  · exact h.ejectBound d _
  · exact h

theorem Core.InOrder.operationTimeout (h : c.InOrder) (d : DriveId) (o : DriveOp) : (operationTimeout e c d o).InOrder := by
  unfold Machine.operationTimeout
  refine .ite (h.probeFault d) ?_
  split
  · exact Core.InOrder.mediaDone (h.endDrive d (by rfl)) _ _ _
  · exact h.driveFault d _

/-! ### Completions of moves (R32 to R34, R39) -/

theorem Core.InOrder.mountMoveDone (h : c.InOrder) (n : Nat) (d : DriveId) : (mountMoveDone c n d).InOrder := by
  unfold Machine.mountMoveDone
  split
  · have moved : (c.onMount n (fun x => { x with step := .loading })).InOrder := h.onMount n (by rfl)
    simp only
    split
    · exact moved.beginLoad d
    · exact Core.InOrder.beginLoad (Core.InOrder.onImport (moved.setDrive d (by rfl)) _) d
    · exact Core.InOrder.beginLoad (Core.InOrder.onReading (moved.setDrive d (by rfl)) _) d
  · exact h

theorem Core.InOrder.evictDone (h : c.InOrder) (d : DriveId) : (evictDone c d).InOrder := by
  unfold Machine.evictDone
  simp only
  split
  · exact Core.InOrder.onMount (h.setDrive d (by rfl)) _ (by rfl)
  · exact h.setDrive d (by rfl)

theorem Core.InOrder.rejectInto (h : c.InOrder) (d : DriveId) (o : MediaOutcome) : (c.rejectInto d o).InOrder := by
  have rejected := (h.emptyDrive d).withMailslot (.rejected o)
  exact .ite (rejected.setAlarm _) rejected

theorem Core.InOrder.moveServed (h : c.InOrder) (m : Move) (d : Option DriveId) : (moveServed e c m d).InOrder := by
  unfold Machine.moveServed
  split
  · exact h.mountMoveDone _ _
  · exact h.evictDone _
  · exact .ite (h.beginLoad _) ((h.emptyDrive _).mediaDone _ _ _)
  · split
    · exact Core.InOrder.mediaDone ((h.emptyDrive _).setDrive _ (by rfl)) _ _ _
    · exact h.emptyDrive _
  · exact h.beginLoad _
  · have ended := (h.endBoundMount .importing).emptyDrive
    simp only
    split
    · split
      · exact ((ended _).withImport none).mediaDone _ _ _
      · exact ended _
    · exact ended _
  · have ended := (h.endBoundMount .importing).rejectInto
    simp only
    split
    · exact ((ended _ _).withImport none).mediaDone _ _ _
    · exact ended _ _
  · split
    · exact ((h.withImport none).wakeJobs.reselect).mediaDone _ _ _
    · exact h
  · extract_lets c1
    have emptied : c1.InOrder := by
      unfold c1
      split
      · exact h.emptyDrive _
      · exact h
    split
    · exact ((emptied.withExport none).withMailslot _).mediaDone _ _ _
    · exact emptied
  · exact h.beginLoad _
  · exact ((h.endBoundMount _).emptyDrive _).endReading
  · exact ((h.endBoundMount _).rejectInto _ _).onInventory _
  · exact h

theorem Core.InOrder.moveDone (h : c.InOrder) (m : Move) : (moveDone e c m).InOrder := by
  unfold Machine.moveDone
  split
  · exact (h.arrive _ _).moveServed m _
  · exact h

/-! ### Recoveries and the start of the mechanism (R19, R43, R44, R47, R155) -/

theorem Core.InOrder.withPicker (h : c.InOrder) (p : Picker) : Core.InOrder { c with picker := p } := h

theorem Core.InOrder.pickerFail (h : c.InOrder) (stalled : Bool) : (c.pickerFail stalled).InOrder :=
  (((h.withPicker _).setAlarm _).recoveryDone _).grantHold

theorem Core.InOrder.haltPicker (h : c.InOrder) : c.haltPicker.InOrder := .ite ((h.withPicker _).recoveryDone _).grantHold h

theorem Core.InOrder.putBack (h : c.InOrder) (m : Move) : (c.putBack m).InOrder := by
  have back : Core.InOrder { c with moves := c.moves ++ [m] } := h
  unfold Core.putBack
  simp only
  split
  · exact back.onMount _ (by rfl)
  · exact back

theorem Core.InOrder.failService (h : c.InOrder) (m : Move) (sv : ServiceMove) : (c.failService m sv).InOrder := by
  unfold Core.failService
  extract_lets c1
  have failed : c1.InOrder := by
    unfold c1
    split
    · exact h.setDrive _ (by rfl)
    · exact h.emptyDrive _
    · exact h
  exact failed.mediaDone _ _ _

theorem Core.InOrder.recovered (h : c.InOrder) (m : Move) : (c.recovered m).InOrder := by
  unfold Core.recovered
  extract_lets c1 c2
  have returned : c1.InOrder := by
    unfold c1
    split
    · exact h.returnToSource _ _ _
    · exact h
  have settled : c2.InOrder := by
    unfold c2
    split
    · exact .ite (returned.failService m _) (returned.putBack m)
    · exact returned.putBack m
  exact ((settled.recoveryDone _).grantHold).pickerIdle

theorem Core.InOrder.beginRecovery (h : c.InOrder) (o : Orderer) (clearing : Bool) (m : Motion) :
    (c.beginRecovery o clearing m).InOrder := h

theorem Core.InOrder.beginProbe (h : c.InOrder) (d : DriveId) : (c.beginProbe d).InOrder :=
  (h.setDrive d (by rfl)).issue d _ _ (by rfl)

theorem Core.InOrder.endStart (h : c.InOrder) : c.endStart.InOrder := by
  have free : Core.InOrder { ((c.recoveryDone .done).grantHold).pickerIdle with startPhase := .probing } :=
    ((h.recoveryDone _).grantHold).pickerIdle
  exact free.foldl (f := Core.beginProbe) (fun _ d hc => hc.beginProbe d) _

theorem Core.InOrder.startRehomed (h : c.InOrder) (holding : Bool) : (startRehomed e c holding).InOrder := by
  unfold Machine.startRehomed
  split
  · exact h
  · exact .ite (h.pickerFail _) h
  · exact .ite (h.setLoc _ _).endStart h
  · exact h.endStart

theorem Core.InOrder.startReturned (h : c.InOrder) : (startReturned c).InOrder := by
  unfold Machine.startReturned
  split
  · exact Core.InOrder.endStart (.ite ((h.setLoc _ _).withMailslot _) (h.setLoc _ _))
  · exact (h.withMailslot _).endStart

theorem Core.InOrder.startProbed (h : c.InOrder) (occupied : Bool) : (startProbed c occupied).InOrder := by
  unfold Machine.startProbed
  split
  · exact (h.setLoc _ _).endStart
  · exact h.endStart

end

end Sys2Proof.Machine
end

section
/-! SUPPORT. What the requests keep of the order of queue and claims: of a COUNTER link the jobs that join and leave the queue (R82 to
R86, R97, R102), of a SERVICE link what it orders of the mechanism; those of the other links do not reach queue or claims. -/

namespace Sys2Proof.Machine

/-! ### Events and requests -/

section
variable {s t : State}

/-- The work that follows a command's effect on the core. -/
theorem Core.InOrder.settled (h : t.toCore.InOrder) : t.settled.toCore.InOrder := h.settle _

theorem Core.InOrder.acted {f : Fixed → Core → Core} (h : (f t.toFixed t.toCore).InOrder) : (t.act f).toCore.InOrder := h.settle _

theorem Core.InOrder.event (h : s.toCore.InOrder) {o : List Section} {f : State → State} (ht : event o s f = .next t)
    (hf : (f s).toCore.InOrder) : t.toCore.InOrder := by
  rw [event_eq] at ht
  cases ht
  split
  · exact h
  · exact hf

/-- A request keeps the order where what its owner makes of the examined frame does. -/
theorem Core.InOrder.requested (h : s.toCore.InOrder) {k : RequestKind} {r : Request} {own : State → State}
    (ht : Machine.request k r own s = .next t) (hown : ∀ u : State, u.toCore.InOrder → (own u).toCore.InOrder) :
    t.toCore.InOrder := by
  refine h.event ht ?_
  have valid : (s.validFrame r.link).toCore.InOrder := h
  rcases examine_cases k r own s with ⟨-, he⟩ | ⟨-, -, he⟩ | ⟨-, -, he⟩ <;> rw [he]
  · exact valid
  · exact valid
  · exact hown _ valid

end

/-! ### COUNTER links (R82 to R86, R97, R102) -/

section
variable {e : Fixed} {c : Core}

/-- A job without a claim that joins a queue brings no claim with it. -/
theorem holdsClaim_join {q : List Job} {j : Job} (hd : j.drive = none) (id : JobId) (d : DriveId) :
    HoldsClaim (q ++ [j]) id d ↔ HoldsClaim q id d := by
  constructor
  · rintro ⟨k, hk, hid, hkd⟩
    rcases List.mem_append.mp hk with hk | hk
    · exact ⟨k, hk, hid, hkd⟩
    · cases List.mem_singleton.mp hk
      simp [hd] at hkd
  · rintro ⟨k, hk, hid, hkd⟩
    exact ⟨k, List.mem_append_left _ hk, hid, hkd⟩

/-- A job of a new id joins a queue that has room for it (R80, R84). -/
theorem Core.InOrder.joinQueue (h : c.InOrder) {j : Job} (hd : j.drive = none) (hn : j.acceptNo = c.nextAccept)
    (hid : ∀ k ∈ c.queue, k.id ≠ j.id) (hq : c.queue.length < 24) (hl : c.jobsOf j.id.link < 8) :
    Core.InOrder { c with queue := c.queue ++ [j], nextAccept := c.nextAccept + 1 } := by
  obtain ⟨once, jobs, engine⟩ := h.waiters
  refine ⟨h.bounds.join hn hid hq hl, fun d => ?_, fun k hk => ?_, ⟨once, fun id hw => ?_, engine⟩, h.mounts⟩
  · simpa only [Drive.InOrder, holdsClaim_join hd] using h.drive d
  · rcases List.mem_append.mp hk with hk | hk
    · exact h.fits hk
    · rw [List.mem_singleton.mp hk]
      exact fun hclaim => absurd hd hclaim
  · obtain ⟨k, hk, hkid, free⟩ := jobs id hw
    exact ⟨k, List.mem_append_left _ hk, hkid, free⟩

/-- A job that has just joined asks for its side (R85). -/
theorem Core.InOrder.joined_asks (h : c.InOrder) {j : Job} (hd : j.drive = none) (hs : j.side ≠ none)
    (hid : ∀ k ∈ c.queue, k.id ≠ j.id) :
    Core.Asks { c with queue := c.queue ++ [j], nextAccept := c.nextAccept + 1 } (.job j.id) := by
  refine ⟨fun hw => ?_, j, List.mem_append_right _ (List.mem_singleton_self j), rfl, hd, hs⟩
  obtain ⟨k, hk, hkid, -⟩ := h.waiters.2.1 _ hw
  exact hid k hk hkid

theorem Core.InOrder.acceptJob (h : c.InOrder) (r : Request) {j : Job} (hd : j.drive = none) (hn : j.acceptNo = c.nextAccept)
    (hid : ∀ k ∈ c.queue, k.id ≠ j.id) (hq : c.queue.length < 24) (hl : c.jobsOf j.id.link < 8) :
    (Machine.acceptJob r j e c).InOrder := by
  have joined (b : AcceptedBody) :
      (Core.accept { c with queue := c.queue ++ [j], nextAccept := c.nextAccept + 1 } r b).InOrder := h.joinQueue hd hn hid hq hl
  unfold Machine.acceptJob Core.placeNew
  simp only
  split
  · next sd hs => exact (joined _).placeJob (h.joined_asks hd (by simp [hs]) hid) sd
  · exact joined _

/-- Where no check refuses a job, its tag is new and the queue has room (R80, R82). -/
theorem jobRefusal_none {s : State} {r : Request} {rn : Nat} (h : jobRefusal s r rn = none) :
    (∀ k ∈ s.queue, k.id ≠ ⟨r.link, r.tag⟩) ∧ s.queue.length < 24 ∧ s.toCore.jobsOf r.link < 8 := by
  unfold jobRefusal at h
  split at h
  · cases h
  · split at h
    · cases h
    · next tag =>
      split at h
      · cases h
      · next room =>
        simp only [not_or, not_le, Config.maxJobs, Config.maxLinkJobs] at room
        refine ⟨fun k hk hid => ?_, room⟩
        have found : s.toCore.job ⟨r.link, r.tag⟩ = none := by simpa using tag
        simpa [hid] using List.find?_eq_none.mp found k hk

theorem Core.InOrder.cancelRequest (h : c.InOrder) (r : Request) {j : Job} (hj : j ∈ c.queue) :
    (cancelRequest r j e c).InOrder := by
  have one : ∀ k ∈ c.queue, k.id = j.id → k.drive = none ∨ k.drive = j.drive :=
    fun k hk hid => .inr (by rw [h.bounds.same hk hj hid])
  exact .ite (Core.InOrder.cancelJob (c := c.accept r _) h one) (Core.InOrder.cancelJob (c := c.answer r _) h one)

/-! ### SERVICE links -/

theorem Core.InOrder.withHold (h : c.InOrder) (x : Hold) : Core.InOrder { c with hold := x } := h

theorem Core.InOrder.holdRequest (h : c.InOrder) (r : Request) : (holdRequest r e c).InOrder := by
  unfold Machine.holdRequest
  split <;> exact .ite h h

theorem Core.InOrder.releaseRequest (h : c.InOrder) (r : Request) : (releaseRequest r e c).InOrder := by
  unfold Machine.releaseRequest
  split
  · exact .ite h h
  · exact .ite h h
  · exact h

theorem Core.InOrder.moveRequest (h : c.InOrder) (r : Request) (f : MoveFields) : (moveRequest r f e c).InOrder := by
  have told : (c.accept r .empty).InOrder := h
  unfold Machine.moveRequest
  simp only
  split
  · exact (told.setDrive _ (by rfl)).joinMove _ _ _ _ _ _
  · exact (told.setDrive _ (by rfl)).beginUnload _

theorem Core.InOrder.resumeRequest (h : c.InOrder) (r : Request) : (resumeRequest r e c).InOrder := by
  have told : (c.accept r .empty).InOrder := h
  unfold Machine.resumeRequest
  split
  · exact told.beginRecovery _ _ _
  · exact h

theorem Core.InOrder.clearDriveRequest (h : c.InOrder) (r : Request) (d : DriveId) : (clearDriveRequest r d e c).InOrder := by
  have told : (c.accept r .empty).InOrder := h
  have emptied := ((told.emptyDrive d).clearAlarm (.driveFault d)).mediaDone (ordererOf r) .cleared none
  exact .ite h (.ite h (.ite h (.ite ((told.setDrive d (by rfl)).issue d _ _ (by rfl)) emptied)))

theorem Core.InOrder.lateProbed (h : c.InOrder) (m : Move) : (c.lateProbed m).InOrder := by
  unfold Core.lateProbed
  split
  · exact h.onInventory _
  · exact h

theorem Core.InOrder.clearPicker (h : c.InOrder) (r : Request) (m : Motion) : (clearPicker r e c m).InOrder := by
  have told : (c.accept r .empty).InOrder := h
  have cleared := told.clearAlarm .pickerFault
  unfold Machine.clearPicker
  simp only
  split
  · exact ((cleared.moveDone _).lateProbed _).beginRecovery _ _ _
  · exact cleared.beginRecovery _ _ _

theorem Core.InOrder.clearPickerRequest (h : c.InOrder) (r : Request) : (clearPickerRequest r e c).InOrder := by
  refine .ite h ?_
  split
  · exact h.clearPicker r _
  · exact h

theorem Core.InOrder.importRequest (h : c.InOrder) (r : Request) : (importRequest r e c).InOrder := by
  have told : (c.accept r .empty).InOrder := h
  unfold Machine.importRequest
  simp only
  split
  · exact (told.withImport _).joinMove _ _ _ _ _ _
  · exact .ite (told.withImport _) (told.importMount _)

theorem Core.InOrder.exportRequest (h : c.InOrder) (r : Request) (v : SlotId) : (exportRequest r v e c).InOrder := by
  unfold Machine.exportRequest
  extract_lets c1 op
  have told : c1.InOrder := h
  cases begun : c1.beginExport op with
  | none => exact told.withExport _
  | some c' => exact told.beginExport begun

end

/-! ### Requests at the state -/

section
variable {t : State}

theorem Core.InOrder.takeFetch (h : t.toCore.InOrder) (r : Request) : (takeFetch r t).toCore.InOrder := by
  unfold Machine.takeFetch
  split
  · exact h
  · split
    · exact h
    · next none_ =>
      obtain ⟨fresh, room, link⟩ := jobRefusal_none none_
      exact Core.InOrder.acted (h.acceptJob r rfl rfl fresh room link)

theorem Core.InOrder.takeWalk (h : t.toCore.InOrder) (r : Request) : (takeWalk r t).toCore.InOrder := by
  unfold Machine.takeWalk
  split
  · exact h
  · split
    · exact h
    · next none_ =>
      obtain ⟨fresh, room, link⟩ := jobRefusal_none none_
      exact Core.InOrder.acted (h.acceptJob r rfl rfl fresh room link)

theorem Core.InOrder.takeCancel (h : t.toCore.InOrder) (r : Request) : (takeCancel r t).toCore.InOrder := by
  unfold Machine.takeCancel
  split
  · exact h
  · next hj => exact Core.InOrder.acted (h.cancelRequest r (Core.job_some hj).1)

/-- The transfers of the FILING links and their staging blocks are no part of queue or claims (R51 to R54). -/
theorem Core.InOrder.dropTransfer (h : t.toCore.InOrder) (l : LinkId) : (t.dropTransfer l).toCore.InOrder := by
  unfold State.dropTransfer
  split <;> exact h

theorem Core.InOrder.takeSubmit (h : t.toCore.InOrder) (r : Request) : (takeSubmit r t).toCore.InOrder := by
  unfold Machine.takeSubmit
  split
  · exact h
  · split <;> exact h

theorem Core.InOrder.takeResubmit (h : t.toCore.InOrder) (r : Request) : (takeResubmit r t).toCore.InOrder := by
  unfold Machine.takeResubmit
  split
  · exact h
  · split <;> exact h

theorem Core.InOrder.takeAbandon (h : t.toCore.InOrder) (r : Request) : (takeAbandon r t).toCore.InOrder := by
  unfold Machine.takeAbandon
  split
  · exact h.dropTransfer _
  · exact h

/-- A receipt, a resubmission and a withdrawal reach the engine and change no claim of it (R55, R71, R74). -/
theorem Core.InOrder.engineReached (h : t.toCore.InOrder) : Core.InOrder { t.toCore with engine := t.engine.reached } :=
  h.onEngine (Engine.reached_claim _)

theorem Core.InOrder.restoreEntry (h : t.toCore.InOrder) (r : Request) (x : Transfer) (rn : Nat) :
    (t.restoreEntry r x rn).toCore.InOrder := by
  unfold State.restoreEntry
  split
  · exact h.engineReached
  · exact h.dropTransfer _

theorem Core.InOrder.endTransfer (h : t.toCore.InOrder) (r : Request) (x : Transfer) : (t.endTransfer r x).toCore.InOrder := by
  have received (d : Descriptor) (k : Counter) : (t.receive r x d k).toCore.InOrder := h.engineReached
  have dropped := h.dropTransfer r.link
  unfold State.endTransfer
  split
  · exact dropped
  · split
    · exact (h.restoreEntry r x _).settled
    · split
      · exact (received _ _).settled
      · exact dropped
      · exact dropped

theorem Core.InOrder.takeData (h : t.toCore.InOrder) (r : Request) : (takeData r t).toCore.InOrder := by
  unfold Machine.takeData
  split
  · exact h
  · next x _ =>
    have stored (y : Transfer) : (t.setTransfer r.link (some y)).toCore.InOrder := h
    simp only
    split
    · exact h
    · split
      · exact h.dropTransfer _
      · split
        · exact (stored _).endTransfer r _
        · exact h

theorem Core.InOrder.takeWithdraw (h : t.toCore.InOrder) (r : Request) : (takeWithdraw r t).toCore.InOrder := by
  have taken (p : PendingEntry) : (t.act (withdrawRequest r p)).toCore.InOrder := Core.InOrder.acted h.engineReached
  unfold Machine.takeWithdraw
  split
  · exact h
  · split
    · exact taken _
    · split
      · exact h
      · exact taken _
    · exact h

theorem Core.InOrder.restoreCounter (h : t.toCore.InOrder) (n d : Nat) : (t.restoreCounter n d).toCore.InOrder := by
  have set : Core.InOrder { t.toCore with courtesy := t.courtesy.settle d } := h
  exact ((set.clearAlarm _).clearAlarm _).onEngine (Engine.reached_claim _)

theorem Core.InOrder.takeRestoreCounter (h : t.toCore.InOrder) (r : Request) : (takeRestoreCounter r t).toCore.InOrder := by
  unfold Machine.takeRestoreCounter
  split
  · exact h
  · split
    · exact h
    · split
      · exact h
      · split
        · exact (h.restoreCounter _ _).settled
        · exact h

theorem Core.InOrder.takeMove (h : t.toCore.InOrder) (r : Request) : (takeMove r t).toCore.InOrder := by
  unfold Machine.takeMove
  split
  · exact h
  · split
    · exact h
    · exact Core.InOrder.acted (h.moveRequest r _)

theorem Core.InOrder.takeResume (h : t.toCore.InOrder) (r : Request) : (takeResume r t).toCore.InOrder := by
  unfold Machine.takeResume
  split
  · exact h
  · simp only
    split
    · exact Core.InOrder.acted ((h.notifyRole _ _).resumeRequest r)
    · exact Core.InOrder.acted (h.resumeRequest r)

theorem Core.InOrder.takeClearFault (h : t.toCore.InOrder) (r : Request) : (takeClearFault r t).toCore.InOrder := by
  unfold Machine.takeClearFault
  split
  · exact Core.InOrder.acted (h.clearDriveRequest r _)
  · exact Core.InOrder.acted (h.clearPickerRequest r)
  · exact h

theorem Core.InOrder.takeImport (h : t.toCore.InOrder) (r : Request) : (takeImport r t).toCore.InOrder := by
  unfold Machine.takeImport
  split
  · exact h
  · split
    · exact h
    · exact Core.InOrder.acted (h.importRequest r)

theorem Core.InOrder.takeExport (h : t.toCore.InOrder) (r : Request) : (takeExport r t).toCore.InOrder := by
  unfold Machine.takeExport
  split
  · exact h
  · split
    · exact h
    · exact Core.InOrder.acted (h.exportRequest r _)

theorem Core.InOrder.takeInventory (h : t.toCore.InOrder) (r : Request) : (takeInventory r t).toCore.InOrder := by
  have begun : Core.InOrder ((t.toCore.accept r .empty).startInventory (some (ordererOf r))) := h
  unfold Machine.takeInventory
  split
  · exact h
  · split
    · exact h
    · exact begun.acted (f := fun _ c => (c.accept r .empty).startInventory (some (ordererOf r)))

/-! ### Requests that reach neither queue nor claims -/

theorem Core.InOrder.takeSetSchedule (h : t.toCore.InOrder) (r : Request) : (takeSetSchedule r t).toCore.InOrder := by
  unfold Machine.takeSetSchedule
  split <;> exact h

theorem Core.InOrder.takeOpenReception (h : t.toCore.InOrder) (r : Request) : (takeOpenReception r t).toCore.InOrder := by
  unfold Machine.takeOpenReception
  simp only
  split <;> exact h

theorem Core.InOrder.takeSetClock (h : t.toCore.InOrder) (r : Request) : (takeSetClock r t).toCore.InOrder := by
  unfold Machine.takeSetClock
  simp only
  split <;> exact h

theorem Core.InOrder.takeReadTally (h : t.toCore.InOrder) (r : Request) : (takeReadTally r t).toCore.InOrder := by
  unfold Machine.takeReadTally
  simp only
  split
  · exact h
  · split <;> exact h

theorem Core.InOrder.takeCloseDay (h : t.toCore.InOrder) (r : Request) : (takeCloseDay r t).toCore.InOrder := by
  unfold Machine.takeCloseDay
  split
  · exact h
  · split <;> exact h

theorem Core.InOrder.takeSetNoticeMask (h : t.toCore.InOrder) (r : Request) : (takeSetNoticeMask r t).toCore.InOrder := by
  unfold Machine.takeSetNoticeMask
  split <;> exact h

theorem Core.InOrder.takeSetConfig (h : t.toCore.InOrder) (r : Request) : (takeSetConfig r t).toCore.InOrder := by
  unfold Machine.takeSetConfig
  split <;> exact h

theorem Core.InOrder.takeRestart (h : t.toCore.InOrder) (r : Request) : (takeRestart r t).toCore.InOrder := by
  unfold Machine.takeRestart
  split <;> exact h

end

end Sys2Proof.Machine
end

section
/-! SUPPORT. What the other events keep of the order of queue and claims: the panel, the picker's reports, the timebase and its
expiries, the completions of drive operations, and the reset; and with them every step. -/

namespace Sys2Proof.Machine

section
variable {e : Fixed} {c : Core} {t : State}

/-! ### The panel (R146, R167) -/

theorem Core.InOrder.mailslotFall (h : c.InOrder) : c.mailslotFall.InOrder := by
  unfold Core.mailslotFall
  simp only
  split
  · exact ((h.setLoc _ _).withMailslot _).clearAlarm _
  · exact (h.withMailslot _).clearAlarm _

theorem Core.InOrder.takeEdge (h : c.InOrder) (i : Input) (active raised : Bool) : (c.takeEdge i active raised).InOrder := by
  cases i with
  | frontDoor => exact .ite h.haltPicker h
  | cartridgePresent => exact .ite (.ite (h.withMailslot _) h) h.mailslotFall
  | mailslotDoor => exact h
  | kLeft => exact .ite h.haltPicker h
  | kRight => exact .ite h.haltPicker h

theorem Core.InOrder.panelEdge (h : c.InOrder) (p : Panel) (i : Input) : (c.panelEdge p i).InOrder :=
  (h.foldl (fun _ _ hc => hc.notifyRole .service _) _).takeEdge _ _ _

theorem Core.InOrder.debouncedEdge (h : t.toCore.InOrder) (i : Input) : (Machine.takeEdge i t).toCore.InOrder := by
  unfold Machine.takeEdge
  split
  · exact h
  · exact Core.InOrder.acted (h.panelEdge t.panel i)

/-! ### The picker (R38, R39, R43, R47, R159) -/

theorem Core.InOrder.recordLate (h : c.InOrder) : c.recordLate.InOrder := .ite (h.withPicker _) h

theorem Core.InOrder.recordLateProbe (h : c.InOrder) (occupied : Bool) : (c.recordLateProbe occupied).InOrder := by
  unfold Core.recordLateProbe
  split
  · exact .ite (h.withPicker _) h
  · exact h

theorem Core.InOrder.takeMoveDone (h : t.toCore.InOrder) : (takeMoveDone t).toCore.InOrder := by
  unfold Machine.takeMoveDone
  split
  · split
    · exact h
    · exact Core.InOrder.acted (h.pickerIdle.moveDone _).grantHold
  · exact h.recordLate

theorem Core.InOrder.takeMoveFailed (h : t.toCore.InOrder) : (takeMoveFailed t).toCore.InOrder := by
  unfold Machine.takeMoveFailed
  split
  · exact Core.InOrder.acted (f := fun _ c => c.pickerFail false) (h.pickerFail _)
  · exact h

theorem Core.InOrder.probed (h : c.InOrder) (v : SlotId) (occupied : Bool) : (c.probed v occupied).InOrder :=
  (h.pickerIdle.onInventory _).grantHold

theorem Core.InOrder.takeProbeDone (h : t.toCore.InOrder) (occupied : Bool) : (takeProbeDone occupied t).toCore.InOrder := by
  unfold Machine.takeProbeDone
  split
  · split
    · exact Core.InOrder.acted (f := fun _ c => c.probed _ occupied) (h.probed _ _)
    · exact h
  · exact h.recordLateProbe _

theorem Core.InOrder.rehomed (h : c.InOrder) (gripped : Bool) : (rehomed gripped e c).InOrder := by
  unfold Machine.rehomed
  split
  · exact .ite (h.withPicker _) (h.recovered _)
  · exact ((h.recoveryDone _).grantHold).pickerIdle
  · exact h.startRehomed _
  · exact h

theorem Core.InOrder.returned (h : c.InOrder) : (returned e c).InOrder := by
  unfold Machine.returned
  split
  · exact h.recovered _
  · exact h.startReturned
  · exact h

theorem Core.InOrder.destinationProbed (h : c.InOrder) (occupied : Bool) : (destinationProbed occupied e c).InOrder := by
  unfold Machine.destinationProbed
  split
  · exact h.startProbed _
  · exact h

/-! ### The timebase (R24, R29, R39, R184) -/

/-- A second leaves a drive's claims, and its operation but for the timer. -/
theorem Drive.second_sameClaims (x : Drive) : x.SameClaims x.second := by
  refine ⟨rfl, rfl, .inr ?_⟩
  unfold Drive.reader Drive.second
  cases x.op <;> rfl

theorem Core.InOrder.second (h : c.InOrder) : c.second.InOrder :=
  Core.InOrder.withPicker ((h.withLinks _).mapDrives Drive.second_sameClaims) _

theorem Core.InOrder.silenceLink (h : c.InOrder) (l : LinkId) : (silenceLink l e c).InOrder :=
  Core.InOrder.withHold (Core.InOrder.cancelJobsOf (c := c.onLink l LinkUnit.silence) h l) _

theorem Core.InOrder.takeSilent (h : t.toCore.InOrder) (l : LinkId) : (takeSilent l t).toCore.InOrder := by
  have dropped (due : Bool) : (({ t with resetDue := due } : State).dropTransfer l).toCore.InOrder :=
    Core.InOrder.dropTransfer (t := { t with resetDue := due }) h l
  unfold Machine.takeSilent
  simp only
  split
  · exact Core.InOrder.acted ((dropped _).silenceLink l)
  · exact h

theorem Core.InOrder.idleExpiry (h : c.InOrder) (d : DriveId) : (c.idleExpiry d).InOrder :=
  .ite ((h.setDrive d (by rfl)).issue d _ _ (by rfl)) h

theorem Core.InOrder.takeOperationTimeout (h : t.toCore.InOrder) (d : DriveId) : (takeOperationTimeout d t).toCore.InOrder := by
  unfold Machine.takeOperationTimeout
  split
  · split
    · exact Core.InOrder.acted (f := fun e c => Machine.operationTimeout e c d _) (h.operationTimeout d _)
    · exact h
  · exact h

theorem Core.InOrder.takeStall (h : t.toCore.InOrder) : (takeStall t).toCore.InOrder := by
  unfold Machine.takeStall
  split
  · exact Core.InOrder.acted (f := fun _ c => c.pickerFail _) (h.pickerFail _)
  · exact h

theorem Core.InOrder.takeWindowExpiry (h : t.toCore.InOrder) : (takeWindowExpiry t).toCore.InOrder := by
  unfold Machine.takeWindowExpiry
  split <;> exact h

/-! ### Completions of drive operations (R24) -/

/-- An operation has just ended on a drive: where it was a READ for a job, that job has its claim on the drive, and no READ in
flight. -/
def Core.Ended (c : Core) (d : DriveId) (o : DriveOp) : Prop := ∀ id, o.user.jobOf = some id → c.Reads d id

/-- So it stands when the operation in flight ends. -/
theorem Core.InOrder.ended (h : c.InOrder) {d : DriveId} {o : DriveOp} (ho : c.opOf d = some o) : (c.endOp e d).Ended d o := by
  intro id hid
  have order := h.drive d
  have claim : HoldsClaim (c.endOp e d).queue id d := by
    refine order.2.2.2 id ?_
    have op : (c.drives.get d).op = some o := ho
    simp [Drive.reader, op, hid]
  have quiet : ((c.endOp e d).drives.get d).reader = none := by
    simp [Core.endOp, Core.onDrive, Drive.reader]
  exact ⟨claim, (h.endOp d).noRead_of_claim claim quiet⟩

/-- A completion keeps the order where the part that takes it does. -/
theorem Core.InOrder.completion (h : t.toCore.InOrder) (d : DriveId) {f : Fixed → Core → DriveOp → Option Core}
    (hf : ∀ c o c', c.InOrder → c.Ended d o → f t.toFixed c o = some c' → c'.InOrder) : (completion d f t).toCore.InOrder := by
  unfold Machine.completion
  split
  · next ho =>
    split
    · next c taken =>
      have done : (t.onCore (fun _ => c)).toCore.InOrder := hf _ _ _ (h.endOp d) (h.ended ho) taken
      exact done.settled
    · exact h
  · exact h

end

section
variable {e : Fixed} {c c' : Core} {o : DriveOp}

theorem Core.InOrder.takeLoad (h : c.InOrder) {d : DriveId} {r : LoadResult} (hs : takeLoad d r e c o = some c') : c'.InOrder := by
  unfold Machine.takeLoad at hs
  split at hs
  · cases hs
    exact h.loadDone d r o
  · cases hs

theorem Core.InOrder.takeSpinDown (h : c.InOrder) {d : DriveId} (hs : takeSpinDown d e c o = some c') : c'.InOrder := by
  unfold Machine.takeSpinDown at hs
  split at hs
  · cases hs
    exact h.spinDownDone d o
  · cases hs

theorem Core.InOrder.takeEject (h : c.InOrder) {d : DriveId} (hs : takeEject d e c o = some c') : c'.InOrder := by
  unfold Machine.takeEject at hs
  split at hs
  · cases hs
    exact h.ejectDone d
  · cases hs

theorem Core.InOrder.forEngine (h : c.InOrder) {u : OpUser} {d : DriveId} {f : Fixed → Core → Core} (hf : (f e c).InOrder)
    (hs : forEngine u d f e c o = some c') : c'.InOrder := by
  unfold Machine.forEngine at hs
  split at hs
  · cases hs
    exact .ite hf h
  · cases hs

theorem Core.InOrder.takeFlush (h : c.InOrder) {d : DriveId} {r : FlushResult} (hs : takeFlush d r e c o = some c') :
    c'.InOrder := by
  unfold Machine.takeFlush at hs
  split at hs
  · split at hs
    · exact h.flushDone hs
    · cases hs
      exact h
  · cases hs

theorem Core.InOrder.takeDirectoryRead (h : c.InOrder) {d : DriveId} {r : ReadResult} (hr : c.Ended d o)
    (hs : takeDirectoryRead d r e c o = some c') : c'.InOrder := by
  unfold Machine.takeDirectoryRead at hs
  split at hs
  · next id start _ hu _ =>
    obtain ⟨j, hj, rfl⟩ := Option.map_eq_some_iff.mp hs
    refine h.directoryRead (hr j.id ?_) start r
    rw [hu, (Core.job_some hj).2]
    rfl
  · cases hs

theorem Core.InOrder.takeChunkRead (h : c.InOrder) {d : DriveId} {r : ReadResult} (hr : c.Ended d o)
    (hs : takeChunkRead d r e c o = some c') : c'.InOrder := by
  unfold Machine.takeChunkRead at hs
  split at hs
  · next id hu =>
    split at hs
    · next j hj =>
      obtain ⟨en, -, rfl⟩ := Option.map_eq_some_iff.mp hs
      refine h.chunkRead (hr j.id ?_) en r
      rw [hu, (Core.job_some hj).2]
      rfl
    · cases hs
  · cases hs

theorem Core.InOrder.takeProbeRead (h : c.InOrder) {d : DriveId} {r : ReadResult} (hs : takeProbeRead d r e c o = some c') :
    c'.InOrder := by
  unfold Machine.takeProbeRead at hs
  split at hs
  · cases hs
    exact h.probeRead d r
  · cases hs

theorem Core.InOrder.takeImportRead (h : c.InOrder) {d : DriveId} {r : ReadResult} (hs : takeImportRead d r e c o = some c') :
    c'.InOrder := by
  unfold Machine.takeImportRead at hs
  split at hs
  · obtain ⟨op, -, rfl⟩ := Option.map_eq_some_iff.mp hs
    exact h.importRead op d r
  · cases hs

theorem Core.InOrder.scan {u : OpUser} {f : Inventory → Reading → Option Core} (hf : ∀ i rd, f i rd = some c' → c'.InOrder)
    (hs : forScan u f c o = some c') : c'.InOrder := by
  obtain ⟨i, rd, -, -, hc⟩ := forScan_some hs
  exact hf i rd hc

end

/-! ### The reset (R197) -/

section
variable {c : Core}

/-- A core at rest is in order: drives at their start, no job, nobody who waits (R47, R48, R80). -/
theorem Core.inOrder_of_idle (hd : c.drives = Four.all .atStart) (hq : c.queue = []) (hr : c.requests = []) (hm : c.mounts = [])
    (he : c.engine.claim = none) : c.InOrder := by
  refine ⟨?_, fun d => ?_, ?_, ?_, ?_⟩
  · rw [hq]
    simp [QueueInBounds]
  · rw [hd, Four.get_all, hq, he]
    exact ⟨List.nodup_nil, fun id => ⟨fun hm => absurd hm List.not_mem_nil, fun ⟨_, hj, _⟩ => absurd hj List.not_mem_nil⟩,
      by simp [Drive.atStart], fun id hid => by simp [Drive.reader, Drive.atStart] at hid⟩
  · simp [hq]
  · have none_ : c.requesters = [] := by simp [Core.requesters, hr, hm]
    simp [WaitersInOrder, none_]
  · simp [MountsInOrder, hm]

theorem Engine.startMarks_claim (r : StoreValues) (g : Engine) : (startMarks r g).claim = g.claim := by
  unfold startMarks
  split <;> rfl

theorem Core.InOrder.storeAlarms (h : c.InOrder) (lost : List Section) : (c.storeAlarms lost).InOrder :=
  .ite (Core.InOrder.setAlarm (.ite (h.setAlarm _) h) _) (.ite (h.setAlarm _) h)

theorem Core.InOrder.resubmitNotice (h : c.InOrder) : c.resubmitNotice.InOrder := by
  unfold Core.resubmitNotice
  split
  · exact h
  · exact h.notifyRole _ _

theorem Core.InOrder.startChoices (h : c.InOrder) {e : Fixed} : (c.startChoices e).InOrder := h

theorem State.start_inOrder (s : State) (cause : StartCause) (straps : Four (BitVec 2)) (levels : Levels) (fate : StoreFate) :
    (s.start cause straps levels fate).toCore.InOrder := by
  have started (x : StoreRun) (rebuilding : Bool) : (startCore x straps levels rebuilding).InOrder :=
    Core.inOrder_of_idle rfl rfl rfl rfl (Engine.startMarks_claim _ _)
  exact (((started _ _).storeAlarms _).resubmitNotice).startChoices

end

/-! ### Every command -/

section
variable {s t : State}

/-- The completion of a drive operation keeps the order where the part that takes it does. -/
theorem Core.InOrder.completed (h : s.toCore.InOrder) {o : List Section} {d : DriveId} {f : Fixed → Core → DriveOp → Option Core}
    (ht : Machine.event o s (Machine.completion d f) = .next t)
    (hf : ∀ c op c', c.InOrder → c.Ended d op → f s.toFixed c op = some c' → c'.InOrder) : t.toCore.InOrder :=
  h.event ht (h.completion d hf)

/-- Every command keeps the queue and the claims in order. -/
theorem exec_inOrder (i : Instr) (h : s.toCore.InOrder) (ht : exec i s = .next t) : t.toCore.InOrder := by
  cases i with
  | fetch r => exact h.requested ht fun _ hu => hu.takeFetch r
  | walk r => exact h.requested ht fun _ hu => hu.takeWalk r
  | cancel r => exact h.requested ht fun _ hu => hu.takeCancel r
  | submit r => exact h.requested ht fun _ hu => hu.takeSubmit r
  | data r => exact h.requested ht fun _ hu => hu.takeData r
  | abandon r => exact h.requested ht fun _ hu => hu.takeAbandon r
  | resubmit r => exact h.requested ht fun _ hu => hu.takeResubmit r
  | setSchedule r => exact h.requested ht fun _ hu => hu.takeSetSchedule r
  | readSchedule r => exact h.requested ht fun _ hu => hu
  | openReception r => exact h.requested ht fun _ hu => hu.takeOpenReception r
  | closeReception r => exact h.requested ht fun _ hu => hu
  | setClock r => exact h.requested ht fun _ hu => hu.takeSetClock r
  | readTally r => exact h.requested ht fun _ hu => hu.takeReadTally r
  | closeDay r => exact h.requested ht fun _ hu => hu.takeCloseDay r
  | readCloseResult r => exact h.requested ht fun _ hu => hu
  | hold r => exact h.requested ht fun _ hu => Core.InOrder.acted (hu.holdRequest r)
  | release r => exact h.requested ht fun _ hu => Core.InOrder.acted (hu.releaseRequest r)
  | moveSlotToDrive r => exact h.requested ht fun _ hu => hu.takeMove r
  | moveDriveToSlot r => exact h.requested ht fun _ hu => hu.takeMove r
  | resumeMechanism r => exact h.requested ht fun _ hu => hu.takeResume r
  | clearFaultDrive r => exact h.requested ht fun _ hu => hu.takeClearFault r
  | clearFaultPicker r => exact h.requested ht fun _ hu => hu.takeClearFault r
  | importCartridge r => exact h.requested ht fun _ hu => hu.takeImport r
  | exportVolume r => exact h.requested ht fun _ hu => hu.takeExport r
  | inventory r => exact h.requested ht fun _ hu => hu.takeInventory r
  | withdraw r => exact h.requested ht fun _ hu => hu.takeWithdraw r
  | restoreCounter r => exact h.requested ht fun _ hu => hu.takeRestoreCounter r
  | panelAck r => exact h.requested ht fun _ hu => hu
  | setConfig r => exact h.requested ht fun _ hu => hu.takeSetConfig r
  | restart r => exact h.requested ht fun _ hu => hu.takeRestart r
  | status r => exact h.requested ht fun _ hu => hu
  | readStartRecord r => exact h.requested ht fun _ hu => hu
  | setNoticeMask r => exact h.requested ht fun _ hu => hu.takeSetNoticeMask r
  | unknownKindFrame kind r => exact h.event (f := fun s => (s.validFrame r.link).refuse r .format) ht h
  | frameDiscarded link why => exact h.event ht h
  | frameSent link => exact h.event (f := takeFrameSent link) ht h
  | rawInputChange input active => exact h.event (f := takeRawInput input active) ht h
  | debouncedEdge input => exact h.event ht (h.debouncedEdge input)
  | reset cause straps levels fate =>
    cases ht
    exact s.start_inOrder cause straps levels fate
  | clockSecondTick => exact h.event (f := takeSecond) ht h.second
  | receptionWindowExpiry => exact h.event ht h.takeWindowExpiry
  | silentEvent link => exact h.event ht (h.takeSilent link)
  | idleTimerExpiry drive => exact h.event (f := (·.onCore (·.idleExpiry drive))) ht (h.idleExpiry drive)
  | driveOperationTimeout drive => exact h.event ht (h.takeOperationTimeout drive)
  | pickerStall => exact h.event ht h.takeStall
  | loadSpinUpComplete drive r => exact h.completed ht fun _ _ _ hc _ => hc.takeLoad
  | spinDownComplete drive => exact h.completed ht fun _ _ _ hc _ => hc.takeSpinDown
  | ejectComplete drive => exact h.completed ht fun _ _ _ hc _ => hc.takeEject
  | instrumentWriteComplete drive r => exact h.completed ht fun _ _ _ hc _ => hc.forEngine (hc.instrumentWritten drive r)
  | verifyReadComplete drive r => exact h.completed ht fun _ _ _ hc _ => hc.forEngine (hc.extentVerified drive r)
  | headerWriteComplete drive r => exact h.completed ht fun _ _ _ hc _ => hc.forEngine (hc.headerWritten drive r)
  | sealWriteComplete drive r => exact h.completed ht fun _ _ _ hc _ => hc.forEngine (hc.sealWritten drive r)
  | flushOperationComplete drive r => exact h.completed ht fun _ _ _ hc _ => hc.takeFlush
  | directoryReadComplete drive r => exact h.completed ht fun _ _ _ hc hr => hc.takeDirectoryRead hr
  | chunkReadComplete drive r => exact h.completed ht fun _ _ _ hc hr => hc.takeChunkRead hr
  | probeReadComplete drive r => exact h.completed ht fun _ _ _ hc _ => hc.takeProbeRead
  | importHeaderReadComplete drive r => exact h.completed ht fun _ _ _ hc _ => hc.takeImportRead
  | inventoryReadComplete drive r =>
    exact h.completed ht fun _ _ _ hc _ => Core.InOrder.scan fun _ _ => hc.inventoryRead
  | restartFindBlankComplete drive r => exact h.completed ht fun _ _ _ hc _ => hc.forEngine (hc.restartFound r)
  | inventoryFindBlankComplete drive r =>
    exact h.completed ht fun _ _ _ hc _ => Core.InOrder.scan fun _ _ => hc.inventoryFind
  | pickerMoveDone => exact h.event ht h.takeMoveDone
  | pickerMoveFailed => exact h.event ht h.takeMoveFailed
  | lateMoveDone => exact h.event (f := (·.onCore Core.recordLate)) ht h.recordLate
  | inventoryProbeDone occupied => exact h.event ht (h.takeProbeDone occupied)
  | recoveryRehomeDone gripped => exact h.event (f := (·.act (rehomed gripped))) ht (Core.InOrder.acted (h.rehomed gripped))
  | recoveryReturnDone => exact h.event (f := (·.act returned)) ht (Core.InOrder.acted h.returned)
  | startRecoveryRehomeDone gripped => exact h.event (f := (·.act (rehomed gripped))) ht (Core.InOrder.acted (h.rehomed gripped))
  | lateDriveCompletion drive => exact h.event ht h
  | startRecoveryDestinationProbeDone occupied =>
    exact h.event (f := (·.act (destinationProbed occupied))) ht (Core.InOrder.acted (h.destinationProbed occupied))

end

end Sys2Proof.Machine

open Sys2Proof Sys2Proof.Machine

/-- Settles O20, command by command: the bounds of the queue, the claims with the service orders and those who wait are one
predicate of the core (`Core.InOrder`), and each operation of the core keeps it (`Core.InOrder.*`). -/
theorem everyStepKeepsTheWorkQueueInBounds : Obligations.EveryStepKeepsTheWorkQueueInBounds := by
  intro s t bounded kept ht
  refine (State.inOrder_iff t).mp ?_
  have order : s.toCore.InOrder := (State.inOrder_iff s).mpr ⟨bounded, kept⟩
  unfold step at ht
  split at ht
  · cases ht
    exact order
  · next i rest _ => exact exec_inOrder (s := { s with pending := rest }) i order ht

end

section
/-! SUPPORT. The READs of a FETCH at their completion (R91 to R97): the state that an ended READ leaves, and the end of the job that
it was for. -/

namespace Sys2Proof.Machine

/-- The core once the READ in flight on a drive has ended (R24). -/
def State.readDone (s : State) (d : DriveId) : Core := { s.toCore with drives := s.drives.set d (afterUse s d) }

section
variable {s : State} {d : DriveId} {j : Job}

/-- A READ issued on a drive whose READ has just ended (R24, R91, R93). -/
theorem State.readDone_issue (s : State) (d : DriveId) (kind : OpKind) (user : OpUser) :
    (s.readDone d).issue d kind user =
      { s.toCore with drives := s.drives.set d { afterUse s d with op := issued kind user } } := by
  simp [State.readDone, Core.issue, Core.onDrive, issued, Config.operationLimit]

/-- The READ of a chunk issued there, the record of its job having changed and frames having been produced (R92, R93). -/
theorem State.readDone_issueChunk (s : State) (d : DriveId) (links : Four LinkUnit) (id : JobId) (f : Job → Job) (en : DirEntry)
    (sent : Nat) : (Core.onJob { s.readDone d with links := links } id f).issueChunk d id en sent =
      { s.toCore with
        links := links
        queue := s.queue.map (fun k => if k.id = id then f k else k)
        drives := s.drives.set d
          { afterUse s d with op := issued (.read (en.start + sent) (min 32 (sectorsOf en.size - sent))) (.jobChunk id) } } := by
  simp [State.readDone, Core.onJob, Core.issueChunk, Core.issue, Core.onDrive, issued, Config.operationLimit, Config.chunkSectors]

/-- The end of a FETCH whose READ has just ended, and whose record has changed but for its claim, frames having been produced. -/
theorem readDone_ends_onJob (hj : s.toCore.job j.id = some j) {f : Job → Job} (hf : ∀ k, (f k).id = k.id)
    (hd : (f j).drive = some d) (hs : (f j).state ≠ .waitOperator) (links : Four LinkUnit) (b : JobDone) :
    let c := Core.onJob { s.readDone d with links := links } j.id f
    ({ s with toCore := ((c.unclaimJob s.toFixed j.id).removeJob j.id).jobDone j.id b } : State) =
      jobEnded { s with links := links } d (afterUse s d) j.id b := by
  intro c
  rw [job_ended_onJob s { s.readDone d with links := links } d j.id j b f hf hj hd hs]
  simp only [State.readDone, jobEnded, Four.get_set_same, Four.set_set]
  rfl

/-- The end of a FETCH whose READ has just ended, without a charge (R91, R92, R95, R97). -/
theorem readDone_endFetch (hj : s.toCore.job j.id = some j) (hd : j.drive = some d) (hs : j.state ≠ .waitOperator)
    (o : JobOutcome) : ({ s with toCore := endFetch s.toFixed (s.readDone d) j o } : State) =
      jobEnded s d (afterUse s d) j.id { outcome := o, stop := none, amount := j.sent, charge := none } := by
  unfold endFetch
  rw [job_ended s (s.readDone d) d j.id j _ hj hd hs]
  simp only [State.readDone, jobEnded, Four.get_set_same, Four.set_set]

/-! ### The directory READ (R91, R92, R97) -/

/-- What a directory READ of a FETCH leads to is what it does on the core that it leaves. -/
theorem directoryRead_reached {start k : Nat} {r : ReadResult} {u : State} (due : s.resetDue = false)
    (op : InFlight s d (.read start k) (.jobDirectory j.id)) (hj : s.toCore.job j.id = some j)
    (hu : ({ s with toCore := directoryRead s.toFixed (s.readDone d) d j start r } : State) = u) :
    ∃ t, exec (.directoryReadComplete d r) s = .next t ∧ ReachedThen t u := by
  obtain ⟨n, hn⟩ := op
  refine completion_reached due hn ?_ hu
  rw [endOp_use s d _ hn rfl]
  unfold takeDirectoryRead
  simp only [show Core.job { s.toCore with drives := s.drives.set d (afterUse s d) } j.id = some j from hj]
  rfl

theorem entryRead_eq_some {r : ReadResult} {i : Nat} {en : DirEntry} :
    entryRead r i = some en ↔ ∃ data, r = .good data ∧ entryGiven data i = some en := by
  cases r <;> simp [entryRead]

/-- The four things that a directory READ of a FETCH can lead to. -/
theorem directoryRead_cancelled {e : Fixed} {c : Core} {start : Nat} {r : ReadResult} (hw : j.walk = none)
    (hc : j.cancelled = true) : directoryRead e c d j start r = endFetch e c j .cancelled := by
  simp [directoryRead, endCancelled, hw, hc]

theorem directoryRead_entry {e : Fixed} {c : Core} {start : Nat} {r : ReadResult} {en : DirEntry} (hw : j.walk = none)
    (hc : j.cancelled = false) (hen : entryRead r (positionOf j.index) = some en) :
    directoryRead e c d j start r = fetchEntry e c d j en := by
  simp [directoryRead, takeEntry, hw, hc, hen]

theorem directoryRead_copyA {e : Fixed} {c : Core} {start : Nat} {r : ReadResult} (hc : j.cancelled = false)
    (hen : entryRead r (positionOf j.index) = none) (hs : start < Config.directoryB) :
    directoryRead e c d j start r = c.issue d (.read (directoryOf true j.index) 1) (.jobDirectory j.id) := by
  simp [directoryRead, hc, hen, hs]

theorem directoryRead_copyB {e : Fixed} {c : Core} {start : Nat} {r : ReadResult} (hw : j.walk = none) (hc : j.cancelled = false)
    (hen : entryRead r (positionOf j.index) = none) (hs : Config.directoryB ≤ start) :
    directoryRead e c d j start r = endFetch e c j (.failed .mediaError) := by
  simp [directoryRead, endUnreadable, hw, hc, hen, Nat.not_lt.mpr hs]

end

end Sys2Proof.Machine

open Sys2Proof Sys2Proof.Machine

/-- Settles O56, by what the READ gives: the mark, an entry of either kind, none in copy A, none in copy B. -/
theorem directoryReadGivesTheEntry : Obligations.DirectoryReadGivesTheEntry := by
  intro d start k j r s due op hj hw hd hs x leads ends given
  have leads_of {u : State} (hu : ({ s with toCore := directoryRead s.toFixed (s.readDone d) d j start r } : State) = u) :
      leads u := directoryRead_reached due op hj hu
  have ends_of {o : JobOutcome} (ho : directoryRead s.toFixed (s.readDone d) d j start r = endFetch s.toFixed (s.readDone d) j o) :
      ends o := leads_of (by rw [ho, readDone_endFetch hj hd hs])
  have given_of {en : DirEntry} (hen : given en) : entryRead r (positionOf j.index) = some en := entryRead_eq_some.mpr hen
  have none_of (hen : ∀ en, ¬given en) : entryRead r (positionOf j.index) = none :=
    Option.eq_none_iff_forall_ne_some.mpr fun en h => hen en (entryRead_eq_some.mp h)
  refine ⟨fun hc => ends_of (directoryRead_cancelled hw hc), fun hc => ⟨fun en hen placeholder => ?_, fun en hen instrument => ?_,
    fun hen copyA => ?_, fun hen copyB => ends_of (directoryRead_copyB hw hc (none_of hen) copyB)⟩⟩
  · exact ends_of ((directoryRead_entry hw hc (given_of hen)).trans (if_pos placeholder))
  · refine leads_of ?_
    rw [directoryRead_entry hw hc (given_of hen), fetchEntry, if_neg instrument]
    exact congrArg (fun c : Core => { s with toCore := c }) (s.readDone_issueChunk d s.links j.id _ en j.sent)
  · exact leads_of (by rw [directoryRead_copyA hc (none_of hen) copyA, State.readDone_issue]; rfl)

end

section
/-! SUPPORT. The chunk READ of a FETCH (R93 to R97): the frames of a chunk in its link's output, and what each outcome of the READ
leads to. -/

namespace Sys2Proof.Machine

/-! ### The frames of a chunk (R94) -/

theorem sendOn_nil (links : Four LinkUnit) (l : LinkId) : sendOn links l [] = links := by
  simp only [sendOn, List.append_nil]
  exact Four.set_get_self links l

theorem sendOn_sendOn (links : Four LinkUnit) (l : LinkId) (fs gs : List OutFrame) :
    sendOn (sendOn links l fs) l gs = sendOn links l (fs ++ gs) := by simp [sendOn]

theorem sendOn_active {links : Four LinkUnit} {l : LinkId} (h : (links.get l).active = true) (fs : List OutFrame) :
    ((sendOn links l fs).get l).active = true := by simpa [sendOn] using h

/-- The frames of a chunk join the output list of an ACTIVE link in their order. -/
theorem Core.emitFrames_active (c : Core) (id : JobId) (frames : List (Nat × List Byte))
    (h : (c.links.get id.link).active = true) : c.emitFrames id frames =
      { c with links := sendOn c.links id.link (frames.map (fun f => .data id.tag f.1 f.2)) } := by
  induction frames generalizing c with
  | nil =>
    rw [List.map_nil, sendOn_nil]
    rfl
  | cons f frames ih =>
    have first := c.emit_active h (.data id.tag f.1 f.2)
    rw [show c.emitFrames id (f :: frames) = (c.emit id.link (.data id.tag f.1 f.2)).emitFrames id frames from rfl, first,
      ih _ (sendOn_active h _)]
    simp only [sendOn_sendOn, List.map_cons, List.singleton_append]

/-! ### The end of the send (R96) -/

/-- A claim is released without a charge. -/
theorem Core.unclaimJob_books (e : Fixed) (c : Core) (id : JobId) :
    (c.unclaimJob e id).tallies = c.tallies ∧ (c.unclaimJob e id).courtesy = c.courtesy := by
  unfold Core.unclaimJob
  split <;> exact ⟨rfl, rfl⟩

/-- The end of a FETCH that is charged: the end without a charge, with the tallies and the courtesy list of the charge. -/
theorem endFetchCharged_eq (e : Fixed) (c : Core) (j : Job) :
    endFetchCharged e c j =
      (((c.unclaimJob e j.id).removeJob j.id).jobDone j.id
        { outcome := .done, stop := none, amount := j.sent, charge := some (c.charge (j.item false)).2 }).withTallies
        (c.charge (j.item false)).1.tallies (c.charge (j.item false)).1.courtesy := by
  obtain ⟨tallies, courtesy⟩ := c.unclaimJob_books e j.id
  unfold endFetchCharged
  rw [Core.charge_congr tallies courtesy (j.item false), removeJob_withTallies]

/-! ### The chunk READ -/

section
variable {s : State} {d : DriveId} {j : Job} {en : DirEntry}

/-- What a chunk READ of a FETCH leads to is what it does on the core that it leaves. -/
theorem chunkRead_reached {a k : Nat} {r : ReadResult} {u : State} (due : s.resetDue = false)
    (op : InFlight s d (.read a k) (.jobChunk j.id)) (hj : s.toCore.job j.id = some j) (hen : j.entry = some en)
    (hu : ({ s with toCore := chunkRead s.toFixed (s.readDone d) d j en r } : State) = u) :
    ∃ t, exec (.chunkReadComplete d r) s = .next t ∧ ReachedThen t u := by
  obtain ⟨n, hn⟩ := op
  refine completion_reached due hn ?_ hu
  rw [endOp_use s d _ hn rfl]
  unfold takeChunkRead
  simp only [show Core.job { s.toCore with drives := s.drives.set d (afterUse s d) } j.id = some j from hj, hen]
  rfl

/-- A change of one job's record, where its id is no other's (R80). -/
theorem onJob_one {q : List Job} {id : JobId} (hone : ∀ k ∈ q, k.id = j.id → k = j) (hid : j.id = id) (f : Job → Job) :
    q.map (fun k => if k.id = id then f k else k) = q.map (fun k => if k.id = id then f j else k) := by
  refine List.map_congr_left fun k hk => ?_
  split
  · next same => rw [hone k hk (same.trans hid.symm)]
  · rfl

/-- The record of a job after a chunk has been sent (R94, R95). -/
def Job.afterChunk (sent : Nat) (crc : Word) (j : Job) : Job := { j with sent := sent, crc := crc, retry := false }

/-- A GOOD chunk: its frames are sent, and the sending goes on or ends (R94 to R96). -/
theorem chunkRead_good {e : Fixed} {c : Core} {data : List Byte} (hc : j.cancelled = false) (frames : List (Nat × List Byte))
    (hf : frames = chunkFrames en.size j.sent data (min 32 (sectorsOf en.size - j.sent))) (sent : Nat)
    (hs : sent = j.sent + min 32 (sectorsOf en.size - j.sent)) (crc : Word)
    (hcrc : crc = crc32Update j.crc (frames.flatMap (·.2))) (c1 : Core)
    (hc1 : c1 = (c.emitFrames j.id frames).onJob j.id (Job.afterChunk sent crc)) :
    chunkRead e c d j en (.good data) =
      if sent = sectorsOf en.size then
        if crc32Final crc = en.crc then endFetchCharged e c1 { j with sent, crc }
        else endFetch e c1 { j with sent, crc } (.failed .mediaError)
      else c1.issueChunk d j.id en sent := by
  subst hf hs hcrc hc1
  unfold chunkRead
  rw [hc]
  rfl

/-- A chunk that fails: it is read again, or the second failure ends the job (R95). -/
theorem chunkRead_fails {e : Fixed} {c : Core} {r : ReadResult} (hc : j.cancelled = false) (hr : r = .mediaError ∨ r = .blank) :
    chunkRead e c d j en r =
      if j.retry then endFetch e c j (.failed .mediaError)
      else (c.onJob j.id (fun k => { k with retry := true })).issueChunk d j.id en j.sent := by
  unfold chunkRead
  rcases hr with rfl | rfl <;> rw [hc] <;> rfl

end

end Sys2Proof.Machine

open Sys2Proof Sys2Proof.Machine

/-- Settles O58, by what the READ gives: the mark, a GOOD chunk with more to come, the last one with a right and with a wrong
CRC-32, and a failure, the first and the second. -/
theorem chunksAreSentInOrder : Obligations.ChunksAreSentInOrder := by
  intro d a k j en s due op hj hone hw hen hd hs active x leads done reads queue
  have leads_of {r : ReadResult} {u : State}
      (hu : ({ s with toCore := chunkRead s.toFixed (s.readDone d) d j en r } : State) = u) : leads r u :=
    chunkRead_reached due op hj hen hu
  have ends_of {r : ReadResult} {o : JobOutcome}
      (ho : chunkRead s.toFixed (s.readDone d) d j en r = endFetch s.toFixed (s.readDone d) j o) :
      leads r (jobEnded s d x j.id (done o j.sent none)) := leads_of (by rw [ho, readDone_endFetch hj hd hs])
  refine ⟨fun hc r => ends_of (by simp [chunkRead, hc]), fun hc => ⟨fun data => ?_, fun r hr =>
    ⟨fun first => ?_, fun second => ?_⟩⟩⟩
  · intro count sector bytes frames crc total sent
    let chunk := chunkFrames en.size j.sent data count
    have frames_eq : chunk.map (fun f => OutFrame.data j.id.tag f.1 f.2) = frames := by
      simp only [chunk, chunkFrames, List.map_map]
      rfl
    have crc_eq : crc = crc32Update j.crc (chunk.flatMap (·.2)) := by
      simp only [chunk, chunkFrames, List.flatMap_map]
      rfl
    have emitted : (s.readDone d).emitFrames j.id chunk = { s.readDone d with links := sendOn s.links j.id.link frames } := by
      rw [(s.readDone d).emitFrames_active j.id chunk active, frames_eq]
      rfl
    have good := chunkRead_good (e := s.toFixed) (c := s.readDone d) (d := d) (en := en) (data := data) hc chunk rfl total rfl crc
      crc_eq _ rfl
    rw [emitted] at good
    have ended (b : JobDone) := readDone_ends_onJob (s := s) (f := Job.afterChunk total crc) hj (fun _ => rfl) hd hs
      (sendOn s.links j.id.link frames) b
    refine ⟨fun more => leads_of ?_, fun last => ⟨fun right => leads_of ?_, fun wrong => leads_of ?_⟩⟩
    · rw [good, if_neg more, State.readDone_issueChunk, onJob_one hone rfl]
      rfl
    · let c1 := Core.onJob { s.readDone d with links := sendOn s.links j.id.link frames } j.id (Job.afterChunk total crc)
      rw [good, if_pos last, if_pos right, endFetchCharged_eq,
        Core.charge_congr (c := s.toCore) (c' := c1) rfl rfl (Job.item { j with sent := total, crc } false)]
      let p := s.toCore.charge (Job.item { j with sent := total, crc } false)
      exact congrArg (fun u : State => { u with tallies := p.1.tallies, courtesy := p.1.courtesy })
        (ended (done .done total (some p.2)))
    · rw [good, if_pos last, if_neg wrong]
      exact ended _
  · refine leads_of ?_
    rw [chunkRead_fails hc hr, if_neg (by simp [first])]
    refine (congrArg (fun c : Core => ({ s with toCore := c } : State)) (s.readDone_issueChunk d s.links j.id _ en j.sent)).trans ?_
    simp only [onJob_one hone rfl]
    rfl
  · exact ends_of ((chunkRead_fails hc hr).trans (if_pos second))

end

section
/-! SUPPORT. The ready estimate of a side (R100): the wait, the mount term by the condition of the side, and t_seek. -/

namespace Sys2Proof.Machine

/-- The ready estimate of a side with the mount term `mount` (R100). -/
def Core.estimateWith (e : Fixed) (c : Core) (sd : Side) (mount : Nat) : Option Nat :=
  some (min (e.settings.tPage * ((c.jobsAhead sd).map c.pagesOf).sum + mount + e.settings.tSeek) 65535)

/-- The mount term of a side that no drive has ready or is spinning up (R100). -/
def Core.farTerm (st : Settings) (c : Core) (sd : Side) : Nat :=
  (if (c.findDrive (fun _ x => x.state == .empty)).isSome then 0 else st.tDown + st.tMove)
    + st.tMove + (if sd.face = .b then st.tFlip else 0) + st.tSpin + st.tMove * c.movesAhead sd

section
variable {e : Fixed} {st : Settings} {c : Core} {sd : Side}

theorem estimate_offline {loc : Location} (hloc : c.location sd.slot = some loc) (h : loc.offline = true) :
    estimate e c (some sd) = none := by simp [estimate, hloc, h]

theorem estimate_present {loc : Location} (hloc : c.location sd.slot = some loc) (h : loc.offline = false) :
    estimate e c (some sd) = c.estimateWith e sd (mountTerm e.settings c sd) := by simp [estimate, hloc, h, Core.estimateWith]

/-- A drive is EMPTY where the first one found is. -/
theorem Core.findEmpty_isSome : (c.findDrive (fun _ x => x.state == .empty)).isSome = true ↔
    ∃ d, (c.drives.get d).state = .empty := by
  rw [← not_iff_not, Option.not_isSome_iff_eq_none, Core.findDrive_none]
  simp

theorem driveOfSide_none (h : ∀ d, (c.drives.get d).loaded ≠ some sd) : c.driveOfSide sd = none :=
  Core.findDrive_none.mpr fun d => by simpa using h d

theorem mountTerm_unloaded (h : c.driveOfSide sd = none) : mountTerm st c sd = c.farTerm st sd := by
  simp [mountTerm, h, Core.farTerm]

/-- The mount term of a loaded side, by the state of its drive. -/
theorem mountTerm_loaded {d : DriveId} (h : c.driveOfSide sd = some d) : mountTerm st c sd =
    if (c.drives.get d).state = .ready then (if (c.drives.get d).idleSpinDown then st.tSpin else 0)
    else if (c.drives.get d).state = .spunDown ∨ (c.drives.get d).state = .spinningUp then st.tSpin else c.farTerm st sd := by
  simp only [mountTerm, h, Core.farTerm]
  rfl

end

end Sys2Proof.Machine

open Sys2Proof Sys2Proof.Machine

/-- Settles O32, by where the side stands: off-line, in no drive, and in a drive by the drive's state. -/
theorem estimateIsTheSumOfItsTerms : Obligations.EstimateIsTheSumOfItsTerms := by
  intro e c sd
  refine ⟨rfl, fun loc hloc off => estimate_offline hloc off, fun loc hloc present => ?_⟩
  intro st total clear far
  have far_eq : c.farTerm st sd = far := by
    simp only [Core.farTerm, far, clear, Core.findEmpty_isSome]
  have is_total {mount : Nat} (hm : mountTerm st c sd = mount) : estimate e c (some sd) = total mount :=
    (estimate_present hloc present).trans (congrArg total hm)
  refine ⟨fun unloaded => is_total ((mountTerm_unloaded (driveOfSide_none unloaded)).trans far_eq), fun d loaded => ?_⟩
  intro x
  have term : mountTerm st c sd = if x.state = .ready then (if x.idleSpinDown then st.tSpin else 0)
      else if x.state = .spunDown ∨ x.state = .spinningUp then st.tSpin else c.farTerm st sd := mountTerm_loaded loaded
  refine ⟨fun ready stays => is_total ?_, fun ready stops => is_total ?_, fun spins => is_total ?_,
    fun notReady notDown notUp => is_total ?_⟩
  · rw [term, if_pos ready, if_neg (by simp [stays])]
  · rw [term, if_pos ready, if_pos stops]
  · have notReady : x.state ≠ .ready := by rcases spins with h | h <;> simp [h]
    rw [term, if_neg notReady, if_pos spins]
  · rw [term, if_neg notReady, if_neg (not_or.mpr ⟨notDown, notUp⟩), far_eq]

end

section
/-! SUPPORT. The requests of a COUNTER link in the terms of Sys2Proof/Safety.lean: the checks that FETCH and WALK share, the record of
a new job, and where it is placed (R80 to R86, R102, R103). -/

namespace Sys2Proof.Machine

/-! ### The checks (R80, R82, R102) -/

/-- The refusal that a resolution leads to, if any (R82, R102). -/
def Resolution.refusal : Resolution → Option RefusalCode
  | .beyond | .unrecorded => some .unknownRn
  | .pending => some .notYetFiled
  | _ => none

section
variable {s : State} {r : Request} {rn : Nat}

/-- A tag is in use where a job of the queue has it. -/
theorem job_isSome_iff {c : Core} {id : JobId} : (c.job id).isSome = true ↔ ∃ j ∈ c.queue, j.id = id := by
  simp [Core.job, List.find?_isSome]

theorem jobRefusal_schedule (hs : s.schedule.isSet = false) : jobRefusal s r rn = some .schedule := by simp [jobRefusal, hs]

theorem jobRefusal_tag (hs : s.schedule.isSet = true) (tagged : ∃ j ∈ s.queue, j.id = ⟨r.link, r.tag⟩) :
    jobRefusal s r rn = some .tagInUse := by simp [jobRefusal, hs, job_isSome_iff.mpr tagged]

theorem jobRefusal_busy (hs : s.schedule.isSet = true) (fresh : ¬∃ j ∈ s.queue, j.id = ⟨r.link, r.tag⟩)
    (busy : 24 ≤ s.queue.length ∨ 8 ≤ s.toCore.jobsOf r.link) : jobRefusal s r rn = some .busy := by
  simp [jobRefusal, hs, mt job_isSome_iff.mp fresh, Config.maxJobs, Config.maxLinkJobs, busy]

/-- The last check is the resolution of the number. -/
theorem jobRefusal_resolve (hs : s.schedule.isSet = true) (fresh : ¬∃ j ∈ s.queue, j.id = ⟨r.link, r.tag⟩)
    (room : ¬(24 ≤ s.queue.length ∨ 8 ≤ s.toCore.jobsOf r.link)) :
    jobRefusal s r rn = (resolve s.toFixed s.toCore rn).refusal := by
  unfold jobRefusal Config.maxJobs Config.maxLinkJobs
  rw [hs, if_neg (by simp), if_neg (mt job_isSome_iff.mp fresh), if_neg room]
  cases resolve s.toFixed s.toCore rn <;> rfl

/-! ### The record of a new job (R81, R84, R103) -/

variable {station : Nat} {cls : FeeClass} {courtesy : Bool} {prio : Nat} {walk : Option WalkFields}

theorem newJob_onSide {sd : Side} {i : Nat} (h : resolve s.toFixed s.toCore rn = .onSide sd i) :
    newJob s r station rn cls courtesy prio walk = freshJob s r station rn cls courtesy prio (some (sd, i))
      (if walk.isSome then some 0 else (s.toCore.bufferEntry sd i).map (·.pages)) walk := by
  simp [newJob, h, Resolution.place, freshJob]

theorem newJob_deferred (h : resolve s.toFixed s.toCore rn = .deferred) :
    newJob s r station rn cls courtesy prio walk =
      freshJob s r station rn cls courtesy prio none (if walk.isSome then some 0 else none) walk := by
  simp [newJob, h, Resolution.place, freshJob]

end

/-! ### Where it is placed (R85, R86) -/

/-- The record of a job of a new id changes, and no other's. -/
theorem onJob_joined {q : List Job} {j : Job} (hid : ∀ k ∈ q, k.id ≠ j.id) (f : Job → Job) :
    (q ++ [j]).map (fun k => if k.id = j.id then f k else k) = q ++ [f j] := by
  rw [List.map_append, List.map_singleton, if_pos rfl]
  refine congrArg (· ++ [f j]) ((List.map_congr_left fun k hk => if_neg (hid k hk)).trans (List.map_id' q))

/-- A core with one more job in its queue, and other link units. -/
def Core.withJob (c : Core) (links : Four LinkUnit) (j : Job) : Core :=
  { c with queue := c.queue ++ [j], nextAccept := c.nextAccept + 1, links := links }

section
variable {e : Fixed} {c : Core} {s : State} {r : Request} {j : Job} {sd : Side} {links : Four LinkUnit}

/-- A job joins the queue with its answer, and is then placed (R84, R85). -/
theorem acceptJob_eq (hl : c.links = linksAfter s r.link []) : acceptJob r j e c =
    (c.withJob (linksAfter s r.link [.accepted r.tag (.estimate (estimate e c j.side))]) j).placeNew j :=
  congrArg (·.placeNew j) (Core.accept_heard (c := c.withJob c.links j) hl _)

/-- A job with a side on a volume not off-line asks for the mount (R85). -/
theorem placeJob_mounts (hid : ∀ k ∈ c.queue, k.id ≠ j.id) (present : c.offline sd.slot = false) :
    (c.withJob links j).placeJob j.id sd =
      { c.withJob links { j with state := .waitMount } with requests := c.requests ++ [{ who := .job j.id, side := sd }] } := by
  unfold Core.placeJob
  rw [show (c.withJob links j).offline sd.slot = false from present]
  simp only [Bool.false_eq_true, if_false, Core.onJob, Core.request, Core.withJob, onJob_joined hid]

/-- One more job waits for the operator for the volume of its side (R86). -/
theorem waitingFor_joined (hs : j.side = some sd) :
    (c.withJob links { j with state := .waitOperator, offline := true }).waitingFor sd.slot = c.waitingFor sd.slot + 1 := by
  simp [Core.waitingFor, Core.withJob, hs]

/-- A job with a side on a volume off-line waits for the operator, whose links are told (R86). -/
theorem placeJob_waits (hid : ∀ k ∈ c.queue, k.id ≠ j.id) (hs : j.side = some sd) (off : c.offline sd.slot = true) :
    (c.withJob links j).placeJob j.id sd =
      c.withJob (toldTo links .service (.operatorNeeded sd.slot ((c.vol sd.slot).bind (·.label)) (c.waitingFor sd.slot + 1)))
        { j with state := .waitOperator, offline := true } := by
  have waits : (c.withJob links j).onJob j.id (fun k => { k with state := .waitOperator, offline := true }) =
      c.withJob links { j with state := .waitOperator, offline := true } := by
    simp only [Core.onJob, Core.withJob, onJob_joined hid]
  unfold Core.placeJob
  rw [show (c.withJob links j).offline sd.slot = true from off, if_pos rfl, waits, Core.operatorNotice, waitingFor_joined hs,
    Core.notifyRole_eq]
  rfl

end

/-! ### FETCH and WALK accepted (R82, R102) -/

section
variable {k : RequestKind} {r : Request} {own : State → State} {s : State} {j : Job}

/-- A FETCH or WALK that passes its checks: its job joins the queue with its answer, is placed, and the work of the blocks follows. -/
theorem request_accepts (h : From s r.link .counter) (hp : k.permitted .counter = true) (hl : k.lengthOk r.body = true)
    (ho : own (s.validFrame r.link) = (s.validFrame r.link).act (acceptJob r j)) {c : Core}
    (hc : (s.toCore.withJob (linksAfter s r.link [.accepted r.tag (.estimate (estimate s.toFixed s.toCore j.side))]) j).placeNew j =
      c) : ∃ t, request k r own s = .next t ∧ ReachedThen t { s with toCore := c } := by
  obtain ⟨due, role⟩ := h
  refine request_acted due (role ▸ hp) hl ho ?_
  have heard : (s.validFrame r.link).links = linksAfter s r.link [] := by rw [validFrame_eq]
  refine (congrArg (fun c : Core => { s with toCore := c }) ((acceptJob_eq heard).trans ?_))
  exact hc

/-- A FETCH that no check refuses (R82). -/
theorem fetch_accepts (h : From s r.link .counter) (hl : r.body.length = 8) {f : FetchFields}
    (parsed : FetchFields.parse r.tag r.body = some f) (passes : jobRefusal s r f.rn = none)
    (hj : newJob s r f.station f.rn f.cls f.courtesy f.prio none = j) {c : Core}
    (hc : (s.toCore.withJob (linksAfter s r.link [.accepted r.tag (.estimate (estimate s.toFixed s.toCore j.side))]) j).placeNew j =
      c) : ∃ t, exec (.fetch r) s = .next t ∧ ReachedThen t { s with toCore := c } := by
  refine request_accepts (k := .fetch) h rfl (by simp [RequestKind.lengthOk, hl]) ?_ hc
  unfold takeFetch
  rw [parsed]
  simp only [show jobRefusal (s.validFrame r.link) r f.rn = none from passes]
  rw [← hj]
  rfl

/-- A WALK that no check refuses (R102). -/
theorem walk_accepts (h : From s r.link .counter) (hl : r.body.length = 9) {f : WalkRequest}
    (parsed : WalkRequest.parse r.tag r.body = some f) (passes : jobRefusal s r f.start = none)
    (hj : newJob s r f.station f.start .search false 0 (some f.fields) = j) {c : Core}
    (hc : (s.toCore.withJob (linksAfter s r.link [.accepted r.tag (.estimate (estimate s.toFixed s.toCore j.side))]) j).placeNew j =
      c) : ∃ t, exec (.walk r) s = .next t ∧ ReachedThen t { s with toCore := c } := by
  refine request_accepts (k := .walk) h rfl (by simp [RequestKind.lengthOk, hl]) ?_ hc
  unfold takeWalk
  rw [parsed]
  simp only [show jobRefusal (s.validFrame r.link) r f.start = none from passes]
  rw [← hj]
  rfl

end

end Sys2Proof.Machine

open Sys2Proof Sys2Proof.Machine

/-- Settles O33: FETCH and WALK differ in the record of the job only, and each is placed by its resolution, on a volume that is not
off-line, on one that is, and DEFERRED. -/
theorem jobsAreAcceptedAndPlaced : Obligations.JobsAreAcceptedAndPlaced := by
  constructor
  · intro r f s from_ len parsed set fresh room link known job answer
    have passes : jobRefusal s r f.rn = (resolve s.toFixed s.toCore f.rn).refusal :=
      jobRefusal_resolve set (fun ⟨k, hk, hid⟩ => fresh k hk hid) (by omega)
    refine ⟨fun sd i resolved => ?_, fun deferred => ?_⟩
    · rw [resolved] at passes
      have made := newJob_onSide (r := r) (station := f.station) (cls := f.cls) (courtesy := f.courtesy) (prio := f.prio)
        (walk := none) resolved
      exact ⟨fun present => fetch_accepts from_ len parsed passes made (placeJob_mounts fresh present),
        fun off => fetch_accepts from_ len parsed passes made (placeJob_waits fresh rfl off)⟩
    · rw [deferred] at passes
      exact fetch_accepts from_ len parsed passes (newJob_deferred deferred) rfl
  · intro r f s from_ len parsed set fresh room link fields job answer
    have passes : jobRefusal s r f.start = (resolve s.toFixed s.toCore f.start).refusal :=
      jobRefusal_resolve set (fun ⟨k, hk, hid⟩ => fresh k hk hid) (by omega)
    refine ⟨fun sd i resolved => ?_, fun deferred => ?_⟩
    · rw [resolved] at passes
      have made := newJob_onSide (r := r) (station := f.station) (cls := .search) (courtesy := false) (prio := 0)
        (walk := some f.fields) resolved
      exact ⟨fun present => walk_accepts from_ len parsed passes made (placeJob_mounts fresh present),
        fun off => walk_accepts from_ len parsed passes made (placeJob_waits fresh rfl off)⟩
    · rw [deferred] at passes
      exact walk_accepts from_ len parsed passes (newJob_deferred deferred) rfl

end

section
/-! SUPPORT. FETCH and WALK refused, and CANCEL (R82, R97, R102): each request by the check that refuses it, and each cancelled job by
whether a READ for it is in flight. -/

namespace Sys2Proof.Machine

section
variable {s : State} {r : Request} {rn : Nat} {code : RefusalCode}

/-- A FETCH or WALK of a number, its fields in range. -/
def SpellsJob (c : Instr) (r : Request) (rn : Nat) : Prop :=
  (c = .fetch r ∧ r.body.length = 8 ∧ ∃ f, FetchFields.parse r.tag r.body = some f ∧ f.rn = rn) ∨
    (c = .walk r ∧ r.body.length = 9 ∧ ∃ f, WalkRequest.parse r.tag r.body = some f ∧ f.start = rn)

/-- A FETCH or WALK that a check refuses leads to its refusal. -/
theorem spellsJob_refused {c : Instr} (h : From s r.link .counter) (hc : SpellsJob c r rn)
    (refused : jobRefusal s r rn = some code) :
    ∃ t, exec c s = .next t ∧ Reached t { s with links := linksAfter s r.link [.refused r.tag code] } := by
  rcases hc with ⟨rfl, len, f, parsed, rfl⟩ | ⟨rfl, len, f, parsed, rfl⟩
  · refine request_tells .fetch h rfl (by simp [RequestKind.lengthOk, len]) s ?_
    unfold takeFetch
    rw [parsed]
    simp only [show jobRefusal (s.validFrame r.link) r f.rn = some code from refused]
    rfl
  · refine request_tells .walk h rfl (by simp [RequestKind.lengthOk, len]) s ?_
    unfold takeWalk
    rw [parsed]
    simp only [show jobRefusal (s.validFrame r.link) r f.start = some code from refused]
    rfl

end

/-! ### CANCEL (R97) -/

section
variable {e : Fixed} {c : Core} {s : State} {r : Request} {j : Job}

/-- A CANCEL of a job leads to what it does on the core after a valid frame, and the work that follows. -/
theorem cancel_reached (h : From s r.link .counter) (hb : r.body = []) (hj : s.toCore.job ⟨r.link, r.tag⟩ = some j) {u : State}
    (hu : (s.validFrame r.link).onCore (cancelRequest r j s.toFixed) = u) :
    ∃ t, exec (.cancel r) s = .next t ∧ ReachedThen t u := by
  obtain ⟨due, role⟩ := h
  refine request_acted (k := .cancel) due (by rw [role]; rfl) (by simp [RequestKind.lengthOk, hb]) ?_ hu
  unfold takeCancel
  simp only [show (s.validFrame r.link).toCore.job ⟨r.link, r.tag⟩ = some j from hj]

/-- A CANCEL of a tag of no job. -/
theorem cancel_unknown (h : From s r.link .counter) (hb : r.body = []) (hj : s.toCore.job ⟨r.link, r.tag⟩ = none) :
    ∃ t, exec (.cancel r) s = .next t ∧ Reached t { s with links := linksAfter s r.link [.refused r.tag .unknownTag] } := by
  refine request_tells .cancel h rfl (by simp [RequestKind.lengthOk, hb]) s ?_
  unfold takeCancel
  simp only [show (s.validFrame r.link).toCore.job ⟨r.link, r.tag⟩ = none from hj]
  rfl

/-- A job without a claim has no READ in flight. -/
theorem readInFlight_free (hd : j.drive = none) : c.readInFlight j = false := by simp [Core.readInFlight, hd]

/-- A job whose drive reads for it has a READ in flight (R97). -/
theorem readInFlight_reads {d : DriveId} {o : DriveOp} (hd : j.drive = some d) (ho : (c.drives.get d).op = some o)
    (hu : o.user = .jobDirectory j.id ∨ o.user = .jobChunk j.id) : c.readInFlight j = true := by
  simp only [Core.readInFlight, hd, Core.drv, ho]
  rcases hu with hu | hu <;> simp [hu]

/-- A core that a job has left, its request and its place in the mount operations with it (R36, R80). -/
def Core.leftBy (c : Core) (id : JobId) : Core :=
  { c with
    queue := c.queue.filter (fun k => k.id ≠ id)
    requests := c.requests.filter (fun q => q.who ≠ .job id)
    mounts := c.mounts.map (fun m => { m with requesters := m.requesters.filter (· ≠ .job id) }) }

/-- A FETCH without a claim that does not wait for the operator leaves, and its DONE goes to its link (R97). -/
theorem endFetch_free (hj : c.job j.id = some j) (hd : j.drive = none) (hs : j.state ≠ .waitOperator) (o : JobOutcome) :
    endFetch e c j o = (c.leftBy j.id).jobDone j.id { outcome := o, stop := none, amount := j.sent, charge := none } := by
  have kept : c.unclaimJob e j.id = c := by
    unfold Core.unclaimJob
    rw [hj, Option.bind_some, hd]
  have left : c.removeJob j.id = c.leftBy j.id := by
    unfold Core.removeJob
    rw [hj]
    simp only
    split
    · next hw _ => exact absurd hw hs
    · rfl
  rw [endFetch, kept, left]

/-- CANCEL of a FETCH that waits without a claim: DONE answers it, and the job ends CANCELLED. -/
theorem cancelRequest_free (hw : j.walk = none) (hd : j.drive = none) (hc : j.cancelled = false) :
    cancelRequest r j e c = endFetch e (c.answer r .empty) j .cancelled := by
  have none_ (b : Core) : b.readInFlight j = false := readInFlight_free hd
  simp [cancelRequest, cancelJob, endCancelled, none_, hc, hw]

/-- CANCEL while a READ for the job is in flight: ACCEPTED, and the job takes the cancel mark. -/
theorem cancelRequest_reads (hr : c.readInFlight j = true) :
    cancelRequest r j e c = (c.accept r .empty).onJob j.id (fun k => { k with cancelled := true }) := by
  unfold cancelRequest cancelJob
  rw [hr, show (c.accept r .empty).readInFlight j = true from hr]
  rfl

end

end Sys2Proof.Machine

open Sys2Proof Sys2Proof.Machine

/-- Settles O34: the refusals by the checks of `jobRefusal` in their order, and CANCEL by whether a READ for the job is in flight. -/
theorem jobsAreRefusedInOrderAndCancelled : Obligations.JobsAreRefusedInOrderAndCancelled := by
  constructor
  · intro r c rn s from_ spells refused tagged busy
    have refuses {code : RefusalCode} (h : jobRefusal s r rn = some code) : refused code := spellsJob_refused from_ spells h
    refine ⟨fun unset => refuses (jobRefusal_schedule unset), fun set inUse => refuses (jobRefusal_tag set inUse),
      fun set fresh full => refuses (jobRefusal_busy set fresh full), fun set fresh room => ?_⟩
    have last := jobRefusal_resolve (rn := rn) set fresh room
    refine ⟨fun unknown => refuses (last.trans ?_), fun pending => refuses (last.trans ?_)⟩
    · rcases unknown with h | h <;> rw [h] <;> rfl
    · rw [pending]
      rfl
  · intro r s from_ empty id
    have heard : (s.validFrame r.link).links = linksAfter s r.link [] := by rw [validFrame_eq]
    refine ⟨fun j hj hw hd hc hs => ?_, fun j d hj hd ⟨o, ho, hu⟩ => ?_, cancel_unknown from_ empty⟩
    · intro ended
      have hid : j.id = id := (Core.job_some hj).2
      have answered := Core.answer_heard heard .empty
      have told := Core.emit_heard (c := ((s.validFrame r.link).toCore.answer r .empty).leftBy id) (r := r) (s := s)
        (congrArg Core.links answered) (.done r.tag (.job ended))
      refine cancel_reached from_ empty hj ?_
      rw [State.onCore, cancelRequest_free hw hd hc, endFetch_free (hid ▸ hj) hd hs, hid]
      refine (congrArg (fun c : Core => { s with toCore := c }) told).trans ?_
      rfl
    · have hid : j.id = id := (Core.job_some hj).2
      have reads : (s.validFrame r.link).toCore.readInFlight j = true := readInFlight_reads hd ho (hid ▸ hu)
      refine cancel_reached from_ empty hj ?_
      rw [State.onCore, cancelRequest_reads reads, Core.accept_heard heard, hid]
      rfl

end
